-- ==== Sys2Proof/Word.lean ====
section
/-! DEFINITION. The byte of the part's lines (11, R179). Every other quantity of the manual is a number. -/

namespace Sys2Proof

/-- One character of a link frame or of a field record. -/
abbrev Byte := BitVec 8

end Sys2Proof
end

