-- ==== Sys2Proof/Config.lean ====
section
/-! DEFINITION. The capacities and limits that the manual fixes, each with its rule. -/

namespace Sys2Proof.Config

/-- Places of the field port's order queue (R184). -/
def orderPlaces : Nat := 32

/-- Places of a principal's notice queue (R175). -/
def noticePlaces : Nat := 32

/-- Places of a link's command queue (R163). -/
def commandPlaces : Nat := 4

/-- Records of the pending-tag list (R86). -/
def pendingTagPlaces : Nat := 32

/-- Records of the stray list (R136). -/
def strayPlaces : Nat := 64

/-- Records of the reinject list (R136). -/
def reinjectPlaces : Nat := 16

/-- The greatest ticket (R136). -/
def lastTicket : Nat := 4095

/-- Records of a cabin table (R59). -/
def cabinPlaces : Nat := 3072

/-- Entries of a tag table (R60). -/
def tagPlaces : Nat := 8192

/-- Bag entries of one cabin (R61). -/
def cabinEntries : Nat := 15

/-- The greatest serial (R60). -/
def lastSerial : Nat := 999999

/-- The greatest cabin number (R59). -/
def lastCabin : Nat := 9999

/-- The greatest ship code (R53). -/
def lastShip : Nat := 63

/-- The head score at which a head is suspended or degraded (R49). -/
def headThreshold : Nat := 128

/-- The diverter fault score at which a lane becomes FAULTED (R133). -/
def faultThreshold : Nat := 16

/-- The error count at which a link becomes MUTED (R166). -/
def muteThreshold : Nat := 128

/-- The good LINK CHECK frames that return a MUTED link to IDLE (R167). -/
def checksToRestore : Nat := 16

end Sys2Proof.Config
end

