-- ==== Sys2Proof/Syntax.lean ====
section
/-! DEFINITION. The commands and events of spec/opcode_table.json, one constructor a row. A principal's command
carries the link it came on and its sequence tag (R171), then the fields its rule names; an event carries the
fields of its field record (R182). Fields are numbers as they stand on the wire: a value outside its stated
range is judged by the command's own rule (R180). -/

namespace Sys2Proof

/-- The four principal links (R163). -/
abbrev LinkNo := Fin 4

/-- One character as a receiver took it, with the two character errors of R165 and R183. -/
structure RxChar where
  byte : Byte
  parityError : Bool
  framingError : Bool
deriving DecidableEq, Repr

/-- The size class that an induction point reports (00_scope 1). -/
inductive SizeClass
  | S | M | L | OOG
deriving DecidableEq, Repr

/-- A manifest command's reference to a tag entry (R60, R180). -/
inductive EntryRef
  | serial (n : Nat)
  | index (n : Nat)
deriving DecidableEq, Repr

/-- Which of a link's waiting frames the transmitter has sent: the next of the ordered replies (R171), or the next
BUSY reply, which keeps no order with them (R170). -/
inductive SentReply
  | ordered | busy
deriving DecidableEq, Repr

/-- A good frame of a principal link as its command queue holds it: kind, sequence tag and fields (R164). -/
structure CommandFrame where
  kind : Byte
  tag : Byte
  fields : List Byte
deriving DecidableEq, Repr

/-- The rows of spec/opcode_table.json. -/
inductive Instr
  -- power and field events
  | powerOn
  | advance (homeMark : Byte)
  | pollAnswer (station head pollNumber ship serial : Nat)
  | waitExpiry (carrier : Nat)
  | lapLimit (carrier : Nat)
  | noReportTimeout (carrier : Nat)
  | bagPresented (point : Nat) (size : SizeClass) (ticket : Nat)
  | bagWithdrawn (point : Nat)
  | divertDone (lane carrier : Nat)
  | divertFailed (lane carrier : Nat)
  | laneFull (lane : Nat)
  | laneEmptied (lane : Nat)
  | fetch (ticket : Nat)
  | codeTag (ticket ship serial : Nat)
  | codeCabin (ticket berth cabin : Nat)
  | remove (ticket : Nat)
  | retry (ticket : Nat)
  | fieldRecordBad (record : List RxChar)
  | orderSent
  | drainComplete
  | closingComplete (berth : Nat)
  -- line events
  | frameReceived (link : LinkNo) (characters : List RxChar)
  | lineBreak (link : LinkNo)
  | noticeSent (link : LinkNo)
  | replySent (link : LinkNo) (which : SentReply)
  -- loop
  | configureLoop (link : LinkNo) (tag : Byte) (count commit : Nat)
  | queryPosition (link : LinkNo) (tag : Byte)
  | queryCarrier (link : LinkNo) (tag : Byte) (carrier : Nat)
  -- induction
  | configureInductionPoint (link : LinkNo) (tag : Byte) (point : Nat) (offset : Option Nat) (enabled mark : Bool)
  | setLoadLimit (link : LinkNo) (tag : Byte) (limit : Nat)
  | setStarveLimit (link : LinkNo) (tag : Byte) (limit : Nat)
  | queryInduction (link : LinkNo) (tag : Byte)
  -- tag reading
  | configureReadStation (link : LinkNo) (tag : Byte) (station : Nat) (offset : Option Nat) (heads : Nat)
      (priority : List Nat) (enabled : Bool)
  | setReadVoting (link : LinkNo) (tag : Byte) (station polls votes : Nat)
  | restoreHead (link : LinkNo) (tag : Byte) (station head : Nat)
  | queryReadStation (link : LinkNo) (tag : Byte) (station : Nat)
  -- berths and manifest
  | openBerth (link : LinkNo) (tag : Byte) (berth ship : Nat)
  | closeSailing (link : LinkNo) (tag : Byte)
  | forceClose (link : LinkNo) (tag : Byte) (berth : Nat)
  | loadCabin (link : LinkNo) (tag : Byte) (cabin deck expected : Nat)
  | setCabinHold (link : LinkNo) (tag : Byte) (cabin : Nat) (held : Bool)
  | loadTag (link : LinkNo) (tag : Byte) (serial cabin : Nat)
  | moveTag (link : LinkNo) (tag : Byte) (entry : EntryRef) (cabin : Nat)
  | withdrawTag (link : LinkNo) (tag : Byte) (entry : EntryRef)
  | releaseHoldBag (link : LinkNo) (tag : Byte) (entry : EntryRef)
  | setDeckGroup (link : LinkNo) (tag : Byte) (deck : Nat) (group : Option Nat)
  | queryTag (link : LinkNo) (tag : Byte) (berth : Option Nat) (entry : EntryRef)
  | queryCabin (link : LinkNo) (tag : Byte) (berth : Option Nat) (cabin : Nat)
  | queryBerth (link : LinkNo) (tag : Byte) (berth : Nat)
  -- matching and destination choice
  | setLapLimits (link : LinkNo) (tag : Byte) (lapLimit waitLimit : Nat)
  | queryPending (link : LinkNo) (tag : Byte)
  -- lanes
  | configureLane (link : LinkNo) (tag : Byte) (lane : Nat) (offset : Option Nat) (capacity : Nat)
  | setLaneCapacity (link : LinkNo) (tag : Byte) (lane capacity : Nat)
  | claimLane (link : LinkNo) (tag : Byte) (lane : Nat)
  | releaseLane (link : LinkNo) (tag : Byte) (lane : Nat)
  | reclaimLane (link : LinkNo) (tag : Byte) (lane : Nat)
  | openLane (link : LinkNo) (tag : Byte) (lane : Nat)
  | closeLane (link : LinkNo) (tag : Byte) (lane : Nat)
  | setLaneFunction (link : LinkNo) (tag : Byte) (lane function : Nat)
  | setLaneGroup (link : LinkNo) (tag : Byte) (lane : Nat) (group : Option Nat)
  | resetLaneFault (link : LinkNo) (tag : Byte) (lane : Nat)
  | queryLane (link : LinkNo) (tag : Byte) (lane : Option Nat)
  -- diversion, strays, modes
  | queryDiversion (link : LinkNo) (tag : Byte) (lane : Option Nat)
  | queryStrays (link : LinkNo) (tag : Byte)
  | setMode (link : LinkNo) (tag : Byte) (mode : Nat)
  | forceSetup (link : LinkNo) (tag : Byte)
  | clearSort (link : LinkNo) (tag : Byte)
  | queryMode (link : LinkNo) (tag : Byte)
  -- links
  | attach (link : LinkNo) (tag : Byte) (principal : Nat)
  | detach (link : LinkNo) (tag : Byte)
  | linkCheck (link : LinkNo) (tag : Byte)
  | restoreLink (link : LinkNo) (tag : Byte) (named : Nat)
  | setLinkPermission (link : LinkNo) (tag : Byte) (named principal : Nat) (allowed : Bool)
  | setNoticeClasses (link : LinkNo) (tag : Byte) (classes : Byte)
  | queryLinks (link : LinkNo) (tag : Byte)
deriving DecidableEq, Repr

end Sys2Proof
end

