-- ==== Sys2Proof/Decode.lean ====
section
/-! DEFINITION. What the receivers read from characters: the judgement of link frames (R164, R165) and of field
records (R182, R183), the layout of each command's fields (R180) and the commands and events they spell. No row of
spec/opcode_table.json has bits, so `decodeTableWord` answers none (log 21). -/

namespace Sys2Proof

/-- The number that bytes spell, most significant byte first (R179). -/
def numberOf (bytes : List Byte) : Nat :=
  bytes.foldl (fun n b => n * 256 + b.toNat) 0

/-- The modulo-256 sum of bytes (R164, R182). -/
def byteSum (bytes : List Byte) : Byte :=
  bytes.foldl (· + ·) 0

/-- A parity or framing error (R165, R183). -/
def RxChar.hasError (c : RxChar) : Bool :=
  c.parityError || c.framingError

/-- The fields of given widths that a run of bytes holds, when it holds exactly those bytes (R180). -/
def readFields : List Nat → List Byte → Option (List Nat)
  | [], [] => some []
  | [], _ :: _ => none
  | w :: ws, bytes =>
    if bytes.length < w then none
    else (readFields ws (bytes.drop w)).map (numberOf (bytes.take w) :: ·)

/-- A flag byte: 00h no, 01h yes, any other value no flag (R180). -/
def readFlag : Nat → Option Bool
  | 0 => some false
  | 1 => some true
  | _ => none

/-- A station offset, FFFFh being unconfigured (Table 11-1). -/
def readOffset (n : Nat) : Option Nat :=
  if n = 0xFFFF then none else some n

/-- A one-byte quantity whose code FFh is none or all (Table 11-1). -/
def readOrNone (n : Nat) : Option Nat :=
  if n = 0xFF then none else some n

/-- An entry reference: selector 00h a serial in three bytes, 01h an index in the low two of them (R180). R180 is silent on
the third, high byte of an index reference: it is ignored, whatever it holds (DESIGN CHOICE, log 57). -/
def readEntryRef (selector value : Nat) : Option EntryRef :=
  match selector with
  | 0 => some (.serial value)
  | 1 => some (.index (value % 65536))
  | _ => none

/-- The size class of a size byte; a byte past the list names no class that a carrier takes (R23, R179, log 36). -/
def readSize : Nat → SizeClass
  | 0 => .S
  | 1 => .M
  | 2 => .L
  | _ => .OOG

/-- CONFIGURE READ STATION: station, offset, head count, priority set (a count and that many heads), enabled
(R37, R180). -/
def readStationCommand (l : LinkNo) (t : Byte) (fields : List Byte) : Option Instr :=
  (readFields [1, 2, 1, 1] (fields.take 5)).bind fun
    | [station, offset, heads, count] =>
      (readFields (List.replicate count 1 ++ [1]) (fields.drop 5)).bind fun rest =>
        (readFlag (rest.getD count 2)).map fun enabled =>
          .configureReadStation l t station (readOffset offset) heads (rest.take count) enabled
    | _ => none

/-- The command that a frame's kind and fields spell, none when the fields do not match the kind's layout
(R180, Table 11-5). K of CONFIGURE LOOP is read from one byte, since Table 11-1 does not name the commit distance (DESIGN
CHOICE, log 49), and so is a cabin's expected count in LOAD CABIN (DESIGN CHOICE, log 50). A lane's capacity and a link
number, which the table does not name either, are read from one byte too; a capacity above 255, which R107 lowers to 255, then
comes in no frame (DESIGN CHOICE, log 56). -/
def decodeCommand (l : LinkNo) (f : CommandFrame) : Option Instr :=
  let t := f.tag
  let fs := f.fields
  match f.kind.toNat with
  | 0x01 => (readFields [2, 1] fs).bind fun | [c, k] => some (.configureLoop l t c k) | _ => none
  | 0x02 => (readFields [] fs).map fun _ => .queryPosition l t
  | 0x03 => (readFields [2] fs).bind fun | [k] => some (.queryCarrier l t k) | _ => none
  | 0x04 => (readFields [1, 2, 1, 1] fs).bind fun
    | [p, o, e, m] => (readFlag e).bind fun e => (readFlag m).map fun m =>
        .configureInductionPoint l t p (readOffset o) e m
    | _ => none
  | 0x05 => (readFields [2] fs).bind fun | [n] => some (.setLoadLimit l t n) | _ => none
  | 0x06 => (readFields [1] fs).bind fun | [n] => some (.setStarveLimit l t n) | _ => none
  | 0x07 => (readFields [] fs).map fun _ => .queryInduction l t
  | 0x08 => readStationCommand l t fs
  | 0x09 => (readFields [1, 1, 1] fs).bind fun | [s, w, v] => some (.setReadVoting l t s w v) | _ => none
  | 0x0A => (readFields [1, 1] fs).bind fun | [s, h] => some (.restoreHead l t s h) | _ => none
  | 0x0B => (readFields [1] fs).bind fun | [s] => some (.queryReadStation l t s) | _ => none
  | 0x0C => (readFields [1, 1] fs).bind fun | [b, c] => some (.openBerth l t b c) | _ => none
  | 0x0D => (readFields [] fs).map fun _ => .closeSailing l t
  | 0x0E => (readFields [1] fs).bind fun | [b] => some (.forceClose l t b) | _ => none
  | 0x0F => (readFields [2, 1, 1] fs).bind fun | [c, d, x] => some (.loadCabin l t c d x) | _ => none
  | 0x10 => (readFields [2, 1] fs).bind fun
    | [c, h] => (readFlag h).map fun h => .setCabinHold l t c h
    | _ => none
  | 0x11 => (readFields [3, 2] fs).bind fun | [n, c] => some (.loadTag l t n c) | _ => none
  | 0x12 => (readFields [1, 3, 2] fs).bind fun
    | [s, v, c] => (readEntryRef s v).map fun r => .moveTag l t r c
    | _ => none
  | 0x13 => (readFields [1, 3] fs).bind fun
    | [s, v] => (readEntryRef s v).map fun r => .withdrawTag l t r
    | _ => none
  | 0x14 => (readFields [1, 3] fs).bind fun
    | [s, v] => (readEntryRef s v).map fun r => .releaseHoldBag l t r
    | _ => none
  | 0x15 => (readFields [1, 1] fs).bind fun | [d, g] => some (.setDeckGroup l t d (readOrNone g)) | _ => none
  | 0x16 =>
    if fs.length = 5 then
      (readFields [1, 1, 3] fs).bind fun
        | [b, s, v] => (readEntryRef s v).map fun r => .queryTag l t (some b) r
        | _ => none
    else
      (readFields [1, 3] fs).bind fun
        | [s, v] => (readEntryRef s v).map fun r => .queryTag l t none r
        | _ => none
  | 0x17 =>
    if fs.length = 3 then
      (readFields [1, 2] fs).bind fun | [b, c] => some (.queryCabin l t (some b) c) | _ => none
    else
      (readFields [2] fs).bind fun | [c] => some (.queryCabin l t none c) | _ => none
  | 0x18 => (readFields [1] fs).bind fun | [b] => some (.queryBerth l t b) | _ => none
  | 0x19 => (readFields [1, 1] fs).bind fun | [m, w] => some (.setLapLimits l t m w) | _ => none
  | 0x1A => (readFields [] fs).map fun _ => .queryPending l t
  | 0x1B => (readFields [1, 2, 1] fs).bind fun
    | [j, o, c] => some (.configureLane l t j (readOffset o) c)
    | _ => none
  | 0x1C => (readFields [1, 1] fs).bind fun | [j, c] => some (.setLaneCapacity l t j c) | _ => none
  | 0x1D => (readFields [1] fs).bind fun | [j] => some (.claimLane l t j) | _ => none
  | 0x1E => (readFields [1] fs).bind fun | [j] => some (.releaseLane l t j) | _ => none
  | 0x1F => (readFields [1] fs).bind fun | [j] => some (.reclaimLane l t j) | _ => none
  | 0x20 => (readFields [1] fs).bind fun | [j] => some (.openLane l t j) | _ => none
  | 0x21 => (readFields [1] fs).bind fun | [j] => some (.closeLane l t j) | _ => none
  | 0x22 => (readFields [1, 1] fs).bind fun | [j, f] => some (.setLaneFunction l t j f) | _ => none
  | 0x23 => (readFields [1, 1] fs).bind fun | [j, g] => some (.setLaneGroup l t j (readOrNone g)) | _ => none
  | 0x24 => (readFields [1] fs).bind fun | [j] => some (.resetLaneFault l t j) | _ => none
  | 0x25 => (readFields [1] fs).bind fun | [j] => some (.queryLane l t (readOrNone j)) | _ => none
  | 0x26 => (readFields [1] fs).bind fun | [j] => some (.queryDiversion l t (readOrNone j)) | _ => none
  | 0x27 => (readFields [] fs).map fun _ => .queryStrays l t
  | 0x28 => (readFields [1] fs).bind fun | [m] => some (.setMode l t m) | _ => none
  | 0x29 => (readFields [] fs).map fun _ => .forceSetup l t
  | 0x2A => (readFields [] fs).map fun _ => .clearSort l t
  | 0x2B => (readFields [] fs).map fun _ => .queryMode l t
  | 0x2C => (readFields [1] fs).bind fun | [p] => some (.attach l t p) | _ => none
  | 0x2D => (readFields [] fs).map fun _ => .detach l t
  | 0x2E => (readFields [] fs).map fun _ => .linkCheck l t
  | 0x2F => (readFields [1] fs).bind fun | [n] => some (.restoreLink l t n) | _ => none
  | 0x30 => (readFields [1, 1, 1] fs).bind fun
    | [n, p, a] => (readFlag a).map fun a => .setLinkPermission l t n p a
    | _ => none
  | 0x31 => (readFields [1] fs).bind fun
    | [c] => some (.setNoticeClasses l t (BitVec.ofNat 8 c))
    | _ => none
  | 0x32 => (readFields [] fs).map fun _ => .queryLinks l t
  | _ => none

/-- The kind byte of LINK CHECK (Table 11-5). -/
def linkCheckKind : Byte := 0x2E

/-- The kind byte of ATTACH (Table 11-5). -/
def attachKind : Byte := 0x2C

/-- The kinds that are commands of Table 11-5, LINK CHECK among them. -/
def isCommandKind (kind : Byte) : Bool :=
  0x01 ≤ kind.toNat && kind.toNat ≤ 0x32

/-- What a receiver makes of characters on a link: no complete frame yet, a bad frame, or a good one (R165). -/
inductive FrameJudgement
  | incomplete
  | bad
  | good (f : CommandFrame)
deriving DecidableEq, Repr

/-- The error-free character that a receiver waits for: the start byte of a frame (R164) or the sync byte of a
record (R183). Whether one received with a parity or framing error begins a frame or record, which is then bad, R164, R165
and R183 do not say: it is discarded as outside a frame and counted nowhere (DESIGN CHOICE, log 53). -/
def RxChar.isMark (mark : Byte) (c : RxChar) : Bool :=
  c.byte == mark && !c.hasError

/-- R164 and R165: characters before the start byte are discarded; a character error ends the frame and makes it
bad; a frame is complete when the count of its length byte has come. -/
def judgeFrame (characters : List RxChar) : FrameJudgement :=
  match characters.dropWhile (fun c => !c.isMark 0xC3) with
  | _ :: length :: rest =>
    let n := length.byte.toNat
    let body := rest.take n
    if length.hasError || body.any RxChar.hasError then .bad
    else if rest.length < n then .incomplete
    else if n < 3 ∨ 60 < n then .bad
    else
      match body.map RxChar.byte with
      | kind :: tag :: tail =>
        if byteSum (length.byte :: kind :: tag :: tail) ≠ 0 then .bad
        else if !isCommandKind kind then .bad
        else .good ⟨kind, tag, tail.dropLast⟩
      | _ => .bad
  | _ => .incomplete

/-- The event that a field record's type and data spell (Table 11-4). Bytes beyond the
fields carry nothing, and R183 does not count them among what makes a record bad. -/
def decodeEvent (type : Byte) (data : List Byte) : Option Instr :=
  let fields (ws : List Nat) : Option (List Nat) := readFields ws (data.take ws.sum)
  match type.toNat with
  | 0x01 => data.head?.map .advance
  | 0x02 => (fields [1, 1, 2]).bind fun | [p, z, t] => some (.bagPresented p (readSize z) t) | _ => none
  | 0x03 => (fields [1]).bind fun | [p] => some (.bagWithdrawn p) | _ => none
  | 0x04 => (fields [1, 1, 1, 1, 3]).bind fun | [s, h, n, c, r] => some (.pollAnswer s h n c r) | _ => none
  | 0x05 => (fields [1, 2]).bind fun | [j, k] => some (.divertDone j k) | _ => none
  | 0x06 => (fields [1, 2]).bind fun | [j, k] => some (.divertFailed j k) | _ => none
  | 0x07 => (fields [1]).bind fun | [j] => some (.laneFull j) | _ => none
  | 0x08 => (fields [1]).bind fun | [j] => some (.laneEmptied j) | _ => none
  | 0x10 => (fields [2]).bind fun | [t] => some (.fetch t) | _ => none
  | 0x11 => (fields [2, 1, 3]).bind fun | [t, c, r] => some (.codeTag t c r) | _ => none
  | 0x12 => (fields [2, 1, 2]).bind fun | [t, b, c] => some (.codeCabin t b c) | _ => none
  | 0x13 => (fields [2]).bind fun | [t] => some (.remove t) | _ => none
  | 0x14 => (fields [2]).bind fun | [t] => some (.retry t) | _ => none
  | _ => none

/-- What the field port makes of received characters (R183). -/
inductive RecordJudgement
  | incomplete
  | bad
  | good (event : Instr)
deriving DecidableEq, Repr

/-- R182 and R183: a record is a sync byte, a type byte, nine data bytes and a check byte; a character error, a
failed check byte or a type that is no event's makes it bad. -/
def judgeRecord (characters : List RxChar) : RecordJudgement :=
  match characters.dropWhile (fun c => !c.isMark 0x5A) with
  | [] => .incomplete
  | _ :: rest =>
    let body := rest.take 11
    if body.any RxChar.hasError then .bad
    else if rest.length < 11 then .incomplete
    else
      match body.map RxChar.byte with
      | type :: data =>
        if byteSum (type :: data) ≠ 0 then .bad
        else
          match decodeEvent type (data.take 9) with
          | some event => .good event
          | none => .bad
      | [] => .bad

/-- The command that a word spells by the bits of spec/opcode_table.json: the table gives no row any bits. -/
def decodeTableWord (_nbits _w : Nat) : Option Instr :=
  none

end Sys2Proof
end

