-- ==== Sys2Proof/Machine/State.lean ====
section
/-! DEFINITION. The state of the TS-440, block by block (00_scope Table 1), as plain data, and its value after
power-on. Numbers are `Nat` with the ranges of the rules cited; `Safety.lean` states those ranges. -/

namespace Sys2Proof.Machine

/-! ## Names -/

/-- A berth (R53). -/
inductive BerthId
  | one | two
deriving DecidableEq, Repr

/-- A principal (00_scope 2.1); the principal of berth 1 is BERTH-1 and that of berth 2 is BERTH-2 (R53). -/
inductive Principal
  | hall
  | berth (b : BerthId)
deriving DecidableEq, Repr

/-- The operating modes (R151). -/
inductive Mode
  | setup | run | hold | draining | halted
deriving DecidableEq, Repr

/-- The states of a carrier (Table 1-5). -/
inductive CarrierState
  | empty | unread | unverified | waiting | carrying | fired
deriving DecidableEq, Repr

/-- The size classes that a carrier takes (R8). -/
inductive Size
  | S | M | L
deriving DecidableEq, Repr

/-- The thirteen stray reasons, in the order of Table 5-3. -/
inductive StrayReason
  | noRead | weak | ambiguous | foreign | berthClosing | berthClosed | duplicate | repeated | unknown
  | noRoom | held | divertFail | withdrawn
deriving DecidableEq, Repr

/-- What the controller intends for a bag (R8). -/
inductive Disposition
  | delivery
  | hold
  | stray (reason : StrayReason)
deriving DecidableEq, Repr

/-- A tag: ship code and serial. -/
structure Tag where
  ship : Nat
  serial : Nat
deriving DecidableEq, Repr

/-- A carrier's identity: a berth and an entry index of its tag table (R8). -/
structure Identity where
  berth : BerthId
  entry : Nat
deriving DecidableEq, Repr

/-- A makeup lane (R103). -/
abbrev LaneNo := Fin 40

/-- An induction point (R21). -/
abbrev PointNo := Fin 6

/-- A read station (R35). -/
abbrev StationNo := Fin 4

/-! ## Loop Tracker -/

/-- Loop geometry, position and counts (Table 1-1): C, K, P, revolution count, slip count, home-missed count. -/
structure Loop where
  count : Nat
  commit : Nat
  position : Nat
  revolutions : Nat
  slips : Nat
  homeMissed : Nat
deriving DecidableEq, Repr

/-- One carrier record (Table 1-4). -/
structure Carrier where
  state : CarrierState
  reservation : Option PointNo
  size : Option Size
  origin : Option PointNo
  identity : Option Identity
  candidate : Option Tag
  disposition : Option Disposition
  target : Option LaneNo
  armed : Bool
  laps : Nat
  tries : Nat
  ticket : Option Nat
deriving DecidableEq, Repr

/-- The EMPTY values of a carrier record (R8). -/
def Carrier.empty : Carrier where
  state := .empty
  reservation := none
  size := none
  origin := none
  identity := none
  candidate := none
  disposition := none
  target := none
  armed := false
  laps := 0
  tries := 0
  ticket := none

/-- The carrier table with the loaded and the unverified count (R1, R8). -/
structure CarrierTable where
  table : List Carrier
  loaded : Nat
  unverified : Nat
deriving DecidableEq, Repr

/-! ## Induction Controller -/

/-- A waiting-bag record (R22). -/
structure Waiting where
  size : Size
  ticket : Option Nat
  wait : Nat
deriving DecidableEq, Repr

/-- An induction point (Table 2-1) with its waiting-bag record. -/
structure Point where
  offset : Option Nat
  enabled : Bool
  mark : Bool
  waiting : Option Waiting
deriving DecidableEq, Repr

/-- The Induction Controller's state (R21, R22). -/
structure Induction where
  points : Vector Point 6
  loadLimit : Nat
  starveLimit : Nat
deriving DecidableEq, Repr

/-! ## Read Station Controller -/

/-- A head record (R36). -/
structure HeadRecord where
  score : Nat
  suspended : Bool
  degraded : Bool
deriving DecidableEq, Repr

/-- The power-on value of a head record (R36). -/
def HeadRecord.clear : HeadRecord where
  score := 0
  suspended := false
  degraded := false

/-- An answer in hand: a head and a decoded tag, or none for NONE (R39). -/
structure Answer where
  head : Nat
  result : Option Tag
deriving DecidableEq, Repr

/-- The outstanding poll of a window (R39). -/
structure Poll where
  head : Nat
  number : Nat
deriving DecidableEq, Repr

/-- An open read window (R39). -/
structure Window where
  carrier : Nat
  opened : CarrierState
  polls : Nat
  votes : Nat
  order : List Nat
  answers : List Answer
  outstanding : Option Poll
deriving DecidableEq, Repr

/-- A read station (Table 3-1) with its head records and its open window. `heads` is H, `polls` W, `votes` V. -/
structure Station where
  offset : Option Nat
  enabled : Bool
  heads : Nat
  priority : List Nat
  polls : Nat
  votes : Nat
  pollNumber : Nat
  headRecords : Vector HeadRecord 8
  window : Option Window
deriving DecidableEq, Repr

/-! ## Manifest Store -/

/-- The states of a tag entry (Table 4-2). -/
inductive EntryState
  | expected | onLoop | delivered | inHold | strayed | offSystem
deriving DecidableEq, Repr

/-- A tag entry at its index (R60). -/
structure Entry where
  index : Nat
  serial : Option Nat
  cabin : Nat
  state : EntryState
  ticket : Option Nat
deriving DecidableEq, Repr

/-- A cabin record (R59). -/
structure Cabin where
  number : Nat
  deck : Nat
  expected : Nat
  delivered : Nat
  inHold : Nat
  held : Bool
  entries : List Nat
deriving DecidableEq, Repr

/-- A berth's state, with the ship code it holds when BOUND or CLOSING (R53). -/
inductive BerthState
  | unbound
  | bound (ship : Nat)
  | closing (ship : Nat)
deriving DecidableEq, Repr

/-- A berth record with its manifest: cabins in ascending number, tag entries in ascending index, and the deck
group of each of the 24 decks (R53, R59, R60, R62). -/
structure Berth where
  state : BerthState
  cabins : List Cabin
  tags : List Entry
  deckMap : Vector (Option Nat) 24
deriving DecidableEq, Repr

/-- A berth as the per-berth clear and power-on leave it (R53, R58). -/
def Berth.clear : Berth where
  state := .unbound
  cabins := []
  tags := []
  deckMap := Vector.replicate 24 none

/-- The two berths. -/
structure Berths where
  one : Berth
  two : Berth
deriving DecidableEq, Repr

/-! ## Route Selector -/

/-- A record of the pending-tag list (R86). -/
structure PendingTag where
  berth : BerthId
  serial : Nat
  carrier : Nat
deriving DecidableEq, Repr

/-- The Route Selector's state: R_max, R_wait and the pending-tag list (R81). -/
structure Router where
  lapLimit : Nat
  waitLimit : Nat
  pendingTags : List PendingTag
deriving DecidableEq, Repr

/-! ## Lane Controller and Diverter Sequencer -/

/-- What bags a lane takes (Table 6-1). -/
inductive LaneFunction
  | makeup | overflow | hold | stray
deriving DecidableEq, Repr

/-- Whether a lane takes bags (Table 6-1). -/
inductive LaneState
  | closed | opened | full | faulted
deriving DecidableEq, Repr

/-- A lane record (Table 6-1). -/
structure Lane where
  offset : Option Nat
  capacity : Nat
  fill : Nat
  inbound : Nat
  owner : Principal
  function : LaneFunction
  group : Option Nat
  state : LaneState
deriving DecidableEq, Repr

/-- A lane record at power-on (R103). -/
def Lane.reset : Lane where
  offset := none
  capacity := 0
  fill := 0
  inbound := 0
  owner := .hall
  function := .makeup
  group := none
  state := .closed

/-- A lane's armed queue and fault score (R123). -/
structure Diverter where
  queue : List Nat
  score : Nat
deriving DecidableEq, Repr

/-! ## Stray Controller -/

/-- The coding station's requests (R141). -/
inductive CodingRequest
  | fetch | codeTag | codeCabin | remove | retry
deriving DecidableEq, Repr

/-- A stray record (R136). -/
structure StrayRecord where
  ticket : Nat
  reason : StrayReason
  candidate : Option Tag
  berth : Option BerthId
  entry : Option Nat
  size : Size
  lane : LaneNo
  revolutions : Nat
  position : Nat
deriving DecidableEq, Repr

/-- How a stray was resolved (R136). -/
inductive Resolution
  | coded | readAgain
deriving DecidableEq, Repr

/-- A reinject record (R136). -/
structure ReinjectRecord where
  ticket : Nat
  resolution : Resolution
  berth : Option BerthId
  entry : Option Nat
  candidate : Option Tag
  size : Size
  revolutions : Nat
  position : Nat
deriving DecidableEq, Repr

/-- The coding request being answered (R136, R141). -/
structure Exchange where
  request : CodingRequest
  ticket : Nat
deriving DecidableEq, Repr

/-- The Stray Controller's state (R136). -/
structure Coding where
  strays : List StrayRecord
  reinject : List ReinjectRecord
  ticketCounter : Nat
  unlisted : Nat
  exchange : Option Exchange
deriving DecidableEq, Repr

/-- The Stray Controller's state at power-on (Table 8-1). -/
def Coding.reset : Coding where
  strays := []
  reinject := []
  ticketCounter := 1
  unlisted := 0
  exchange := none

/-! ## Notices -/

/-- The causes of MODE CHANGED (R155). -/
inductive ModeCause
  | setMode | drainComplete | secondSlip | haltedExit | forceSetup
deriving DecidableEq, Repr

/-- The causes of LANE STATE (R121). -/
inductive LaneCause
  | openLane | closeLane | claimLane | releaseLane | reclaimLane | setFunction | setGroup | laneFull | laneEmptied
  | resetFault
deriving DecidableEq, Repr

/-- The causes of a failed divert (R133). -/
inductive DivertCause
  | failed | noReport
deriving DecidableEq, Repr

/-- A link's state (R163). -/
inductive LinkState
  | idle
  | attached (p : Principal)
  | muted
deriving DecidableEq, Repr

/-- The causes of LINK STATE (Table 11-3). -/
inductive LinkCause
  | muted | checked | restored | broken | attached | displaced | detached | notPermitted
deriving DecidableEq, Repr

/-- The new state of the entry that a coding request resolved to, as STRAY RESOLVED tells it (R149). -/
inductive ResolvedState
  | strayedWithTicket | offSystem | unchanged
deriving DecidableEq, Repr

/-- A field that a rule may report as withheld (R179). -/
inductive Reported (α : Type)
  | absent
  | present (a : α)
  | withheld
deriving DecidableEq, Repr

/-- The kinds of notice with the fields of each (Table 11-3). -/
inductive NoticeBody
  | slip (expected unverified fired : Nat) (halted : Bool)
  | homeMissed (count : Nat)
  | headDegraded (station : StationNo) (head score : Nat)
  | modeChanged (previous new : Mode) (cause : ModeCause) (loaded unverified : Nat)
  | sortClearedHall (lanes strays reinject entriesOne entriesTwo : Nat)
  | sortClearedBerth (entries : Nat)
  | berthState (b : BerthId) (state : BerthState) (forced : Bool)
  | bagDelivered (cabin entry : Nat) (serial : Option Nat) (lane : LaneNo) (delivered expected : Nat)
  | bagToHold (cabin entry : Nat) (serial : Option Nat) (lane : LaneNo) (inHold : Nat)
  | bagStrayed (cabin entry : Nat) (serial : Option Nat) (reason : StrayReason) (carrier : Nat)
  | tagPending (serial carrier waitLimit : Nat)
  | cabinComplete (cabin deck delivered expected inHold : Nat)
  | cabinOver (cabin deck delivered expected inHold : Nat)
  | laneState (lane : LaneNo) (owner : Principal) (function : LaneFunction) (group : Option Nat) (state : LaneState)
      (fill inbound capacity : Nat) (cause : LaneCause) (reclaimedFrom : Option Principal)
  | laneFault (lane : LaneNo) (owner : Principal) (score carrier : Nat) (cause : DivertCause)
      (cancelled rechosen fired : Nat)
  | laneArrival (lane : LaneNo) (carrier : Nat) (size : Option Size) (disposition : Option Disposition)
      (candidate : Reported Tag)
  | strayEntered (ticket : Option Nat) (reason : StrayReason) (size : Size) (lane : LaneNo) (candidate : Option Tag)
      (berth : Option BerthId) (entry : Option Nat) (strays : Nat)
  | strayResolved (ticket : Nat) (request : CodingRequest) (berth : Option BerthId) (entry : Option Nat)
      (serial : Option Nat) (state : ResolvedState) (strays reinject : Nat)
  | linkState (link : LinkNo) (state : LinkState) (errorCount : Nat) (principal : Option Principal)
      (displaced : Option LinkNo) (cause : LinkCause)
deriving DecidableEq, Repr

/-- A queued notice: kind and fields, timestamp, gap flag (R175). -/
structure Notice where
  body : NoticeBody
  revolutions : Nat
  position : Nat
  gap : Bool
deriving DecidableEq, Repr

/-- What the Link Interface holds for a principal: notice queue, gap-pending flag, selected classes (R163). -/
structure PrincipalRecord where
  notices : List Notice
  gap : Bool
  classes : Byte
deriving DecidableEq, Repr

/-- A principal's record at power-on (Table 10-1). -/
def PrincipalRecord.reset : PrincipalRecord where
  notices := []
  gap := false
  classes := 0xFF

/-- The three principals' records. -/
structure Principals where
  hall : PrincipalRecord
  one : PrincipalRecord
  two : PrincipalRecord
deriving DecidableEq, Repr

/-! ## Link Interface -/

/-- A frame formed for sending: kind, sequence tag and fields (Table 11-2), and whether it is a part of an OK reply
after the first, before which nothing else may be sent (R181). -/
structure OutFrame where
  kind : Byte
  tag : Byte
  fields : List Byte
  later : Bool
deriving DecidableEq, Repr

/-- The permission flags of one link, one for each principal (R163). -/
structure Allowed where
  hall : Bool
  one : Bool
  two : Bool
deriving DecidableEq, Repr

/-- A link record (R163) with the frames formed for it and not yet sent: replies in the order of R171, and BUSY
replies, which keep no order with them (R170). -/
structure Link where
  state : LinkState
  errorCount : Nat
  checkCount : Nat
  queue : List CommandFrame
  allowed : Allowed
  replies : List OutFrame
  busyReplies : List OutFrame
deriving DecidableEq, Repr

/-- A link record at power-on (Table 10-1; the unsent frames: log 33). -/
def Link.reset : Link where
  state := .idle
  errorCount := 0
  checkCount := 0
  queue := []
  allowed := ⟨true, true, true⟩
  replies := []
  busyReplies := []

/-! ## Field port -/

/-- The reasons of a REJECT order, in the order of their codes (R182). -/
inductive RejectReason
  | closed | oog | busy
deriving DecidableEq, Repr

/-- Coding-station exception codes, in the order of R179. -/
inductive CodingError
  | noTicket | alreadyCoded | berthNotBound | tagUnknown | tagInUse | listFull | cabinUnknown | cabinFull | tableFull
deriving DecidableEq, Repr

/-- Order records and coding answers (Table 11-4). A DONE record holds its part number, whether it is the last of
its answer, and its data. -/
inductive Order
  | grant (point : PointNo) (carrier : Nat)
  | reject (point : PointNo) (reason : RejectReason)
  | poll (station : StationNo) (head number : Nat)
  | fire (lane : LaneNo) (carrier : Nat)
  | label (ticket : Option Nat) (lane : LaneNo) (size : Size) (reason : StrayReason)
  | done (part : Nat) (last : Bool) (request : CodingRequest) (ticket : Nat) (data : List Byte)
  | error (request : CodingRequest) (ticket : Nat) (code : CodingError)
  | busy (request : CodingRequest) (ticket : Nat)
deriving DecidableEq, Repr

/-- The model's own view of the part's transmit pairs: the bytes that each last sent in full (log 24). -/
structure Wires where
  field : List Byte
  links : Vector (List Byte) 4
deriving DecidableEq, Repr

/-! ## The whole state -/

/-- The state of the controller, and the model's queue of commands that wait. -/
structure State where
  loop : Loop
  carriers : CarrierTable
  induction : Induction
  stations : Vector Station 4
  berths : Berths
  router : Router
  lanes : Vector Lane 40
  diverters : Vector Diverter 40
  coding : Coding
  mode : Mode
  links : Vector Link 4
  lastServed : LinkNo
  principals : Principals
  orders : List Order
  wires : Wires
  pending : List Instr
deriving DecidableEq, Repr

/-- Loop Tracker values at power-on (Table 1-1). -/
def Loop.reset : Loop where
  count := 512
  commit := 4
  position := 0
  revolutions := 0
  slips := 0
  homeMissed := 0

/-- A carrier table of `n` EMPTY records (R8). -/
def CarrierTable.allEmpty (n : Nat) : CarrierTable where
  table := List.replicate n Carrier.empty
  loaded := 0
  unverified := 0

/-- An induction point at power-on (Table 2-1). -/
def Point.reset : Point where
  offset := none
  enabled := false
  mark := false
  waiting := none

/-- The Induction Controller at power-on (Table 2-1). -/
def Induction.reset : Induction where
  points := Vector.replicate 6 Point.reset
  loadLimit := 448
  starveLimit := 40

/-- A read station at power-on (Table 3-1, R36, R39). -/
def Station.reset : Station where
  offset := none
  enabled := false
  heads := 1
  priority := []
  polls := 8
  votes := 2
  pollNumber := 0
  headRecords := Vector.replicate 8 HeadRecord.clear
  window := none

/-- The Route Selector at power-on (Table 5-1). -/
def Router.reset : Router where
  lapLimit := 3
  waitLimit := 2
  pendingTags := []

/-- The machine right after power-on. -/
def State.reset : State where
  loop := Loop.reset
  carriers := CarrierTable.allEmpty 512
  induction := Induction.reset
  stations := Vector.replicate 4 Station.reset
  berths := ⟨Berth.clear, Berth.clear⟩
  router := Router.reset
  lanes := Vector.replicate 40 Lane.reset
  diverters := Vector.replicate 40 ⟨[], 0⟩
  coding := Coding.reset
  mode := .setup
  links := Vector.replicate 4 Link.reset
  lastServed := 3
  principals := ⟨PrincipalRecord.reset, PrincipalRecord.reset, PrincipalRecord.reset⟩
  orders := []
  wires := ⟨[], Vector.replicate 4 []⟩
  pending := []

/-! ## Stops -/

/-- Reasons for a fault. The spec names nothing that stops the part (an event that finds the wrong state is
discarded, a command is refused by a reply), so there is none and no step faults. -/
inductive Fault
deriving DecidableEq, Repr

/-- Reasons for a refusal by the model. -/
inductive Refusal
  /-- Raised by an arm of `exec` whose command has no meaning yet; none is left. Safe: the model stops. -/
  | notModelled (mnemonic : String)
deriving DecidableEq, Repr

end Sys2Proof.Machine
end

