-- ==== Sys2Proof/Machine/Formats.lean ====
section
/-! DEFINITION. Byte layouts of what the part sends: field encodings (R179), reply and notice frames (R181), field
records (R182). A quantity that may be absent and has no reserved code in Table 11-1 is sent as FFh bytes, and an
optional group of fields as a presence byte and zeros (log 13). The code of a named value is one byte everywhere
(log 39). -/

namespace Sys2Proof.Machine

/-! ## Codes of named values (R179) -/

def Principal.code : Principal → Nat
  | .hall => 0
  | .berth .one => 1
  | .berth .two => 2

def BerthId.number : BerthId → Nat
  | .one => 1
  | .two => 2

def Mode.code : Mode → Nat
  | .setup => 0 | .run => 1 | .hold => 2 | .draining => 3 | .halted => 4

def CarrierState.code : CarrierState → Nat
  | .empty => 0 | .unread => 1 | .unverified => 2 | .waiting => 3 | .carrying => 4 | .fired => 5

def Size.code : Size → Nat
  | .S => 0 | .M => 1 | .L => 2

def StrayReason.code : StrayReason → Nat
  | .noRead => 0 | .weak => 1 | .ambiguous => 2 | .foreign => 3 | .berthClosing => 4 | .berthClosed => 5
  | .duplicate => 6 | .repeated => 7 | .unknown => 8 | .noRoom => 9 | .held => 10 | .divertFail => 11
  | .withdrawn => 12

def LaneState.code : LaneState → Nat
  | .closed => 0 | .opened => 1 | .full => 2 | .faulted => 3

def LaneFunction.code : LaneFunction → Nat
  | .makeup => 0 | .overflow => 1 | .hold => 2 | .stray => 3

def BerthState.code : BerthState → Nat
  | .unbound => 0 | .bound _ => 1 | .closing _ => 2

/-- The ship code that a BOUND or CLOSING berth holds (R53). -/
def BerthState.ship : BerthState → Option Nat
  | .unbound => none
  | .bound c => some c
  | .closing c => some c

def EntryState.code : EntryState → Nat
  | .expected => 0 | .onLoop => 1 | .delivered => 2 | .inHold => 3 | .strayed => 4 | .offSystem => 5

def LinkState.code : LinkState → Nat
  | .idle => 0 | .attached _ => 1 | .muted => 2

def LinkState.principal : LinkState → Option Principal
  | .attached p => some p
  | _ => none

def ModeCause.code : ModeCause → Nat
  | .setMode => 0 | .drainComplete => 1 | .secondSlip => 2 | .haltedExit => 3 | .forceSetup => 4

def LaneCause.code : LaneCause → Nat
  | .openLane => 0 | .closeLane => 1 | .claimLane => 2 | .releaseLane => 3 | .reclaimLane => 4 | .setFunction => 5
  | .setGroup => 6 | .laneFull => 7 | .laneEmptied => 8 | .resetFault => 9

def DivertCause.code : DivertCause → Nat
  | .failed => 0 | .noReport => 1

def LinkCause.code : LinkCause → Nat
  | .muted => 0 | .checked => 1 | .restored => 2 | .broken => 3 | .attached => 4 | .displaced => 5 | .detached => 6
  | .notPermitted => 7

/-- The new state in STRAY RESOLVED: the code of the tag entry state STRAYED or OFF_SYSTEM (R179). R149's "unchanged for
RETRY" is no tag entry state and R179 gives it no code: FFh, as for a value that is absent (DESIGN CHOICE, log 38). -/
def ResolvedState.code : ResolvedState → Nat
  | .strayedWithTicket => EntryState.strayed.code
  | .offSystem => EntryState.offSystem.code
  | .unchanged => 0xFF

/-- The record type of a coding request (Table 11-4), which is the request type of a coding answer too. R149's request kind
in STRAY RESOLVED has no code of its own in R179: this record type is sent there (DESIGN CHOICE, log 54). -/
def CodingRequest.code : CodingRequest → Nat
  | .fetch => 0x10 | .codeTag => 0x11 | .codeCabin => 0x12 | .remove => 0x13 | .retry => 0x14

def CodingError.code : CodingError → Nat
  | .noTicket => 1 | .alreadyCoded => 2 | .berthNotBound => 3 | .tagUnknown => 4 | .tagInUse => 5 | .listFull => 6
  | .cabinUnknown => 7 | .cabinFull => 8 | .tableFull => 9

def RejectReason.code : RejectReason → Nat
  | .closed => 1 | .oog => 2 | .busy => 3

/-- The refusal codes of a REFUSED reply (R179). -/
inductive RefusalCode
  | wrongMode | notAttached | notPermitted | notOwner | badValue | badConfig | notFound | duplicate | full | owned
  | notEmpty | notConfigured | laneFull | faulted | inUse
deriving DecidableEq, Repr

def RefusalCode.code : RefusalCode → Nat
  | .wrongMode => 1 | .notAttached => 2 | .notPermitted => 3 | .notOwner => 4 | .badValue => 5 | .badConfig => 6
  | .notFound => 7 | .duplicate => 8 | .full => 9 | .owned => 10 | .notEmpty => 11 | .notConfigured => 12
  | .laneFull => 13 | .faulted => 14 | .inUse => 15

/-! ## Fields -/

/-- A number in a given count of bytes, most significant byte first (R179). -/
def bytesOf : Nat → Nat → List Byte
  | 0, _ => []
  | w + 1, n => BitVec.ofNat 8 (n / 256 ^ w) :: bytesOf w n

/-- A flag byte (R180). -/
def flagByte (b : Bool) : List Byte :=
  if b then [1] else [0]

/-- A number that may be absent, FFh bytes standing for none (Table 11-1, log 13). -/
def bytesOrFF (w : Nat) : Option Nat → List Byte
  | none => List.replicate w 0xFF
  | some n => bytesOf w n

/-- A number that may be absent, zero bytes standing for none (ship code and ticket, Table 11-1). -/
def bytesOrZero (w : Nat) : Option Nat → List Byte
  | none => List.replicate w 0
  | some n => bytesOf w n

/-- A tag that may be absent: ship code 00h and serial FFFFFFh for none. -/
def tagBytes : Option Tag → List Byte
  | none => [0, 0xFF, 0xFF, 0xFF]
  | some t => bytesOf 1 t.ship ++ bytesOf 3 t.serial

/-- An optional group of fields: a presence byte, then the fields or zeros to their width (R179, log 13). -/
def groupBytes (width : Nat) : Option (List Byte) → List Byte
  | none => 0 :: List.replicate width 0
  | some bytes => 1 :: bytes

/-- A field that may be withheld: presence byte 00h absent, 01h present, 02h withheld, then the field or zeros to its
width (R179). -/
def reportedBytes {α : Type} (width : Nat) (encode : α → List Byte) : Reported α → List Byte
  | .absent => 0 :: List.replicate width 0
  | .present a => 1 :: encode a
  | .withheld => 2 :: List.replicate width 0

/-- A disposition and its stray reason, one byte each (the width is a DESIGN CHOICE: log 39); no reason is a zero byte
(R179, log 13). -/
def dispositionBytes : Option Disposition → List Byte
  | none => [0, 0]
  | some .delivery => [1, 0]
  | some .hold => [2, 0]
  | some (.stray r) => 3 :: bytesOf 1 r.code

/-- A principal in one byte (log 39), FFh for none (Table 11-3, LINK STATE). -/
def principalBytes : Option Principal → List Byte
  | none => [0xFF]
  | some p => bytesOf 1 p.code

/-- A size class in one byte (the width is a DESIGN CHOICE: log 39), FFh when absent (log 13). -/
def sizeBytes : Option Size → List Byte
  | none => [0xFF]
  | some z => bytesOf 1 z.code

/-! ## Frames -/

/-- The byte that brings the sum of a run of bytes to 0 (R164, R182). -/
def checkByte (bytes : List Byte) : Byte :=
  0 - byteSum bytes

/-- The bytes of a frame: start byte, length, kind, sequence tag, fields, check byte (Table 11-2). -/
def OutFrame.bytes (f : OutFrame) : List Byte :=
  let counted := BitVec.ofNat 8 (f.fields.length + 3) :: f.kind :: f.tag :: f.fields
  0xC3 :: (counted ++ [checkByte counted])

/-- Reply data cut into parts of 55 bytes, the last holding the remainder (R181). -/
def cutParts : Nat → List Byte → List (List Byte)
  | 0, bytes => [bytes]
  | fuel + 1, bytes =>
    if bytes.length ≤ 55 then [bytes] else bytes.take 55 :: cutParts fuel (bytes.drop 55)

/-- A part byte: the number in its low six bits, the top bit set in the last part (R181). R181 has numbers 0..63 alone and
does not say what the 65th part of a longer reply carries: the number goes on modulo 64 (DESIGN CHOICE, log 40). -/
def partByte (number : Nat) (last : Bool) : Byte :=
  BitVec.ofNat 8 (number % 64 + if last then 128 else 0)

/-- The frames of an OK reply, one a part (R181). -/
def okFrames (tag : Byte) (code : Nat) (data : List Byte) : List OutFrame :=
  let parts := cutParts data.length data
  parts.zipIdx.map fun (bytes, i) =>
    ⟨0x80, tag, BitVec.ofNat 8 code :: partByte i (i + 1 == parts.length) :: bytes, 0 < i⟩

/-- A REFUSED reply (R181). -/
def refusedFrame (tag : Byte) (code : Nat) (r : RefusalCode) : OutFrame :=
  ⟨0x81, tag, [BitVec.ofNat 8 code, BitVec.ofNat 8 r.code], false⟩

/-- A BUSY reply (R170, R181). -/
def busyFrame (tag kind : Byte) : OutFrame :=
  ⟨0x82, tag, [kind], false⟩

/-- A DISPLACED reply to a frame of a displaced link's queue (R172, R181). -/
def displacedFrame (f : CommandFrame) : OutFrame :=
  ⟨0x83, f.tag, [f.kind], false⟩

/-- The DISPLACED link frame: sequence tag 00h, the principal and the new link number (R172, R181). -/
def displacedLinkFrame (p : Principal) (new : LinkNo) : OutFrame :=
  ⟨0x88, 0, bytesOf 1 p.code ++ bytesOf 1 new.val, false⟩

/-- A DISPLACED link frame, which is no reply to a command (R169, log 15). -/
def OutFrame.isLinkFrame (f : OutFrame) : Bool :=
  f.kind == 0x88

/-! ## Notices -/

/-- The kind code of a notice (Table 11-3). -/
def NoticeBody.kind : NoticeBody → Nat
  | .slip .. => 0x01
  | .homeMissed .. => 0x02
  | .headDegraded .. => 0x03
  | .modeChanged .. => 0x04
  | .sortClearedHall .. => 0x05
  | .sortClearedBerth .. => 0x05
  | .berthState .. => 0x06
  | .bagDelivered .. => 0x07
  | .bagToHold .. => 0x08
  | .bagStrayed .. => 0x09
  | .tagPending .. => 0x0A
  | .cabinComplete .. => 0x0B
  | .cabinOver .. => 0x0C
  | .laneState .. => 0x0D
  | .laneFault .. => 0x0E
  | .laneArrival .. => 0x0F
  | .strayEntered .. => 0x10
  | .strayResolved .. => 0x11
  | .linkState .. => 0x12

/-- The bit of a notice's class in a set of notice classes: LOOP 0, MODE 1, BERTH 2, BAG 3, CABIN 4, LANE 5,
STRAY 6, LINK 7 (R175, R180). -/
def NoticeBody.classBit : NoticeBody → Nat
  | .slip .. => 0
  | .homeMissed .. => 0
  | .headDegraded .. => 0
  | .modeChanged .. => 1
  | .sortClearedHall .. => 1
  | .sortClearedBerth .. => 1
  | .berthState .. => 2
  | .bagDelivered .. => 3
  | .bagToHold .. => 3
  | .bagStrayed .. => 3
  | .tagPending .. => 3
  | .cabinComplete .. => 4
  | .cabinOver .. => 4
  | .laneState .. => 5
  | .laneFault .. => 5
  | .laneArrival .. => 5
  | .strayEntered .. => 6
  | .strayResolved .. => 6
  | .linkState .. => 7

/-- The reclaimed indication and the former owner of LANE STATE (R121): 01h and the owner for RECLAIM LANE, for which
alone R121 has them; for any other cause the notice ends without them (DESIGN CHOICE, log 41: here log 13's presence
byte and zeros are not sent). -/
def reclaimedBytes : Option Principal → List Byte
  | none => []
  | some p => 1 :: bytesOf 1 p.code

/-- The kind fields of a notice, in the order its posting rule lists them (R181), a named value in one byte (log 39); the
request kind of STRAY RESOLVED is the record type of the request (DESIGN CHOICE, log 54). -/
def NoticeBody.bytes : NoticeBody → List Byte
  | .slip e u f h => bytesOf 2 e ++ bytesOf 2 u ++ bytesOf 2 f ++ flagByte h
  | .homeMissed n => bytesOf 1 n
  | .headDegraded s h n => bytesOf 1 s.val ++ bytesOf 1 h ++ bytesOf 1 n
  | .modeChanged p n c l u => bytesOf 1 p.code ++ bytesOf 1 n.code ++ bytesOf 1 c.code ++ bytesOf 2 l ++ bytesOf 2 u
  | .sortClearedHall l s r a b => bytesOf 1 l ++ bytesOf 1 s ++ bytesOf 1 r ++ bytesOf 2 a ++ bytesOf 2 b
  | .sortClearedBerth n => bytesOf 2 n
  | .berthState b t f => bytesOf 1 b.number ++ bytesOf 1 t.code ++ bytesOrZero 1 t.ship ++ flagByte f
  | .bagDelivered c e s j d x =>
    bytesOf 2 c ++ bytesOf 2 e ++ bytesOrFF 3 s ++ bytesOf 1 j.val ++ bytesOf 2 d ++ bytesOf 1 x
  | .bagToHold c e s j h => bytesOf 2 c ++ bytesOf 2 e ++ bytesOrFF 3 s ++ bytesOf 1 j.val ++ bytesOf 2 h
  | .bagStrayed c e s r k => bytesOf 2 c ++ bytesOf 2 e ++ bytesOrFF 3 s ++ bytesOf 1 r.code ++ bytesOf 2 k
  | .tagPending s k w => bytesOf 3 s ++ bytesOf 2 k ++ bytesOf 1 w
  | .cabinComplete c d n x h => bytesOf 2 c ++ bytesOf 1 d ++ bytesOf 2 n ++ bytesOf 1 x ++ bytesOf 2 h
  | .cabinOver c d n x h => bytesOf 2 c ++ bytesOf 1 d ++ bytesOf 2 n ++ bytesOf 1 x ++ bytesOf 2 h
  | .laneState j o f g t fi i c ca re =>
    bytesOf 1 j.val ++ bytesOf 1 o.code ++ bytesOf 1 f.code ++ bytesOrFF 1 g ++ bytesOf 1 t.code ++ bytesOf 1 fi
      ++ bytesOf 1 i ++ bytesOf 1 c ++ bytesOf 1 ca.code ++ reclaimedBytes re
  | .laneFault j o s k c a r f =>
    bytesOf 1 j.val ++ bytesOf 1 o.code ++ bytesOf 1 s ++ bytesOf 2 k ++ bytesOf 1 c.code ++ bytesOf 1 a
      ++ bytesOf 2 r ++ bytesOf 2 f
  | .laneArrival j k z d t =>
    bytesOf 1 j.val ++ bytesOf 2 k ++ sizeBytes z ++ dispositionBytes d
      ++ reportedBytes 4 (fun t => tagBytes (some t)) t
  | .strayEntered t r z j c b e n =>
    bytesOrZero 2 t ++ bytesOf 1 r.code ++ bytesOf 1 z.code ++ bytesOf 1 j.val ++ tagBytes c
      ++ bytesOrZero 1 (b.map BerthId.number) ++ bytesOrFF 2 e ++ bytesOf 1 n
  | .strayResolved t q b e s st a r =>
    bytesOf 2 t ++ bytesOf 1 q.code ++ bytesOrZero 1 (b.map BerthId.number) ++ bytesOrFF 2 e ++ bytesOrFF 3 s
      ++ bytesOf 1 st.code ++ bytesOf 1 a ++ bytesOf 1 r
  | .linkState l st n p d c =>
    bytesOf 1 l.val ++ bytesOf 1 st.code ++ bytesOf 1 n ++ principalBytes p ++ bytesOrFF 1 (d.map Fin.val)
      ++ bytesOf 1 c.code

/-- A notice frame: sequence tag 00h, kind code, gap flag, timestamp, kind fields (R181). -/
def Notice.frame (n : Notice) : OutFrame :=
  ⟨0x90, 0, bytesOf 1 n.body.kind ++ flagByte n.gap ++ bytesOf 2 n.revolutions ++ bytesOf 2 n.position
    ++ n.body.bytes, false⟩

/-! ## Field records -/

/-- The type byte of an order record (Table 11-4). -/
def Order.type : Order → Byte
  | .grant .. => 0x81
  | .reject .. => 0x82
  | .poll .. => 0x83
  | .fire .. => 0x84
  | .label .. => 0x85
  | .done .. => 0x90
  | .error .. => 0x91
  | .busy .. => 0x92

/-- The data fields of an order record (Table 11-4). -/
def Order.data : Order → List Byte
  | .grant i k => bytesOf 1 i.val ++ bytesOf 2 k
  | .reject i r => bytesOf 1 i.val ++ bytesOf 1 r.code
  | .poll s h n => bytesOf 1 s.val ++ bytesOf 1 h ++ bytesOf 1 n
  | .fire j k => bytesOf 1 j.val ++ bytesOf 2 k
  | .label t j z r => bytesOrZero 2 t ++ bytesOf 1 j.val ++ bytesOf 1 z.code ++ bytesOf 1 r.code
  | .done n l q t d => partByte n l :: (bytesOf 1 q.code ++ bytesOf 2 t ++ d)
  | .error q t e => bytesOf 1 q.code ++ bytesOf 2 t ++ bytesOf 1 e.code
  | .busy q t => bytesOf 1 q.code ++ bytesOf 2 t

/-- The twelve bytes of a field record: sync byte, type, nine data bytes, check byte (R182). -/
def Order.record (o : Order) : List Byte :=
  let counted := o.type :: (o.data ++ List.replicate (9 - o.data.length) 0)
  0x5A :: (counted ++ [checkByte counted])

/-- The last record of a taken request's answer: an ERROR, or a DONE record marked last (R141, log 22). -/
def Order.endsExchange : Order → Bool
  | .done _ last _ _ _ => last
  | .error .. => true
  | _ => false

/-- A DONE answer's data cut into records of five bytes (R182). -/
def cutFives : Nat → List Byte → List (List Byte)
  | 0, bytes => [bytes]
  | fuel + 1, bytes =>
    if bytes.length ≤ 5 then [bytes] else bytes.take 5 :: cutFives fuel (bytes.drop 5)

/-- The records of a DONE answer (R182). -/
def doneRecords (request : CodingRequest) (ticket : Nat) (data : List Byte) : List Order :=
  let parts := cutFives data.length data
  parts.zipIdx.map fun (bytes, i) => .done i (i + 1 == parts.length) request ticket bytes

end Sys2Proof.Machine
end

