-- ==== Sys2Proof/Machine/Flags.lean ====
section
/-! DEFINITION. The status computations shared by the blocks: saturating and wrapping counts, clamped settings
(00_scope 7), what each mode allows (Table 9-1), and the flags of a carrier record. -/

namespace Sys2Proof.Machine

/-- A count that saturates at the top of its range (00_scope 7). -/
def raiseTo (top n by_ : Nat) : Nat :=
  min top (n + by_)

/-- A value brought to the nearest end of a range (00_scope 7). -/
def clampTo (low high n : Nat) : Nat :=
  max low (min high n)

/-- The revolution count after one more crossing, wrapping from 65535 to 0 (R1). -/
def nextRevolution (n : Nat) : Nat :=
  (n + 1) % 65536

/-- The poll number after one more poll, wrapping from 255 to 0 (R42). -/
def nextPollNumber (n : Nat) : Nat :=
  (n + 1) % 256

/-- Modes in which windows open and targets are chosen: RUN, HOLD and DRAINING (R40, R91). -/
def Mode.sorts : Mode → Bool
  | .run | .hold | .draining => true
  | .setup | .halted => false

/-- Modes in which targets are armed and laps counted: RUN and DRAINING (R97, R125). -/
def Mode.diverts : Mode → Bool
  | .run | .draining => true
  | .setup | .hold | .halted => false

/-- The load units of a size class (00_scope 1). -/
def Size.units : Size → Nat
  | .S => 1 | .M => 2 | .L => 3

/-- The load units of the bag on a carrier, none on an EMPTY one. -/
def Carrier.units (c : Carrier) : Nat :=
  match c.size with
  | none => 0
  | some z => z.units

/-- The size of the bag on a loaded carrier (R9; an absent size, which no run reaches, counts as S: log 23). -/
def Carrier.bagSize (c : Carrier) : Size :=
  c.size.getD .S

/-- Loaded: in any state other than EMPTY (R1). -/
def Carrier.isLoaded (c : Carrier) : Bool :=
  c.state != .empty

/-- In state UNVERIFIED (R1). -/
def Carrier.isUnverified (c : Carrier) : Bool :=
  c.state == .unverified

/-- CARRYING with target `j`, not armed: a tentative target (00_scope 6). -/
def Carrier.isTentativeAt (c : Carrier) (j : LaneNo) : Bool :=
  c.state == .carrying && c.target == some j && !c.armed

/-- FIRED at lane `j` (R123). -/
def Carrier.isFiredAt (c : Carrier) (j : LaneNo) : Bool :=
  c.state == .fired && c.target == some j

/-- CARRYING without a target (R92). -/
def Carrier.isUntargeted (c : Carrier) : Bool :=
  c.state == .carrying && c.target == none

/-- CARRYING and not armed, so that a manifest edit reaches it (R65). -/
def Carrier.isReachable (c : Carrier) : Bool :=
  c.state == .carrying && !c.armed

/-- Holds an identity of berth `b` (R56). -/
def Carrier.isOf (c : Carrier) (b : BerthId) : Bool :=
  match c.identity with
  | none => false
  | some i => i.berth == b

/-- The stray reason that a carrier's disposition carries. -/
def Carrier.strayReason (c : Carrier) : Option StrayReason :=
  match c.disposition with
  | some (.stray r) => some r
  | _ => none

/-- A principal takes a notice whose class it has selected (R175). -/
def PrincipalRecord.selects (r : PrincipalRecord) (body : NoticeBody) : Bool :=
  r.classes.getLsbD body.classBit

/-- A principal's record after a notice is posted to it: appended with the gap flag set if a notice was lost before
it, or dropped with the gap-pending flag set when the queue is full; a notice of a class not selected leaves no
trace (R175). -/
def PrincipalRecord.posted (r : PrincipalRecord) (body : NoticeBody) (revolutions position : Nat) : PrincipalRecord :=
  if !r.selects body then r
  else if r.notices.length < Config.noticePlaces then
    { r with notices := r.notices ++ [⟨body, revolutions, position, r.gap⟩], gap := false }
  else { r with gap := true }

/-- Whether a link's permission flags allow a principal (R163). -/
def Allowed.allows (a : Allowed) : Principal → Bool
  | .hall => a.hall
  | .berth .one => a.one
  | .berth .two => a.two

/-- A link's permission flags with one of them stored (R174). -/
def Allowed.store (a : Allowed) (p : Principal) (flag : Bool) : Allowed :=
  match p with
  | .hall => { a with hall := flag }
  | .berth .one => { a with one := flag }
  | .berth .two => { a with two := flag }

end Sys2Proof.Machine
end

