-- ==== Sys2Proof/Machine/Operands.lean ====
section
/-! DEFINITION. What the numbers of a command's or an event's fields name (R179, R180): lanes, points, stations,
berths, modes, lane functions, principals, tags. A number that names nothing reads as none, and the rule that reads
it says what follows. -/

namespace Sys2Proof.Machine

/-- A lane number 0..39. -/
def laneOf (n : Nat) : Option LaneNo :=
  if h : n < 40 then some ⟨n, h⟩ else none

/-- An induction point number 0..5. -/
def pointOf (n : Nat) : Option PointNo :=
  if h : n < 6 then some ⟨n, h⟩ else none

/-- A read station number 0..3. -/
def stationOf (n : Nat) : Option StationNo :=
  if h : n < 4 then some ⟨n, h⟩ else none

/-- A link number 0..3. -/
def linkOf (n : Nat) : Option LinkNo :=
  if h : n < 4 then some ⟨n, h⟩ else none

/-- A berth number 1 or 2. -/
def berthOf : Nat → Option BerthId
  | 1 => some .one
  | 2 => some .two
  | _ => none

/-- A mode by its code (R179). -/
def modeOf : Nat → Option Mode
  | 0 => some .setup
  | 1 => some .run
  | 2 => some .hold
  | 3 => some .draining
  | 4 => some .halted
  | _ => none

/-- A lane function by its code (R179). -/
def functionOf : Nat → Option LaneFunction
  | 0 => some .makeup
  | 1 => some .overflow
  | 2 => some .hold
  | 3 => some .stray
  | _ => none

/-- A principal by its code (R179). -/
def principalOf : Nat → Option Principal
  | 0 => some .hall
  | 1 => some (.berth .one)
  | 2 => some (.berth .two)
  | _ => none

/-- The size class that a carrier takes, none for OOG (R23). -/
def bagSizeOf : SizeClass → Option Size
  | .S => some .S
  | .M => some .M
  | .L => some .L
  | .OOG => none

/-- A ticket 1..4095, any other value being no ticket (R23). -/
def ticketOf (n : Nat) : Option Nat :=
  if 1 ≤ n ∧ n ≤ Config.lastTicket then some n else none

/-- A poll result: a tag with ship code 1..63 and serial 0..999999, any other NONE (R43). -/
def tagOf (ship serial : Nat) : Option Tag :=
  if 1 ≤ ship ∧ ship ≤ Config.lastShip ∧ serial ≤ Config.lastSerial then some ⟨ship, serial⟩ else none

/-- A value 1..63 that a ship code may have (R53). -/
def isShip (n : Nat) : Bool :=
  1 ≤ n && n ≤ Config.lastShip

/-- A value 1..9999 that a cabin number may have (R59). -/
def isCabin (n : Nat) : Bool :=
  1 ≤ n && n ≤ Config.lastCabin

/-- A value 1..24 that a deck may have (R59). -/
def isDeck (n : Nat) : Bool :=
  1 ≤ n && n ≤ 24

/-- None, or a deck group 0..15 (R62, R113). -/
def isGroup : Option Nat → Bool
  | none => true
  | some g => g ≤ 15

/-- An entry reference within range: a serial 0..999999, or an index 0..8191 (R60, R64). -/
def isEntryRef : EntryRef → Bool
  | .serial n => n ≤ Config.lastSerial
  | .index n => n < Config.tagPlaces

/-- A station offset that is unconfigured or below C (R5). -/
def isOffset (count : Nat) : Option Nat → Bool
  | none => true
  | some d => d < count

end Sys2Proof.Machine
end

