-- ==== Sys2Proof/Machine/Ops.lean ====
section
/-! DEFINITION. The named operations over the state that every block's rules are written with: one update per field,
the records of each table by number, the carrier table with its two counts (R12), notices (R175), orders (R184),
replies (R171), and the manifest's tables (R59 to R63). -/

namespace Sys2Proof.Machine

/-! ## One update per field of the state -/

def State.setLoop (s : State) (x : Loop) : State := { s with loop := x }
def State.setCarriers (s : State) (x : CarrierTable) : State := { s with carriers := x }
def State.setInduction (s : State) (x : Induction) : State := { s with induction := x }
def State.setStations (s : State) (x : Vector Station 4) : State := { s with stations := x }
def State.setBerths (s : State) (x : Berths) : State := { s with berths := x }
def State.setRouter (s : State) (x : Router) : State := { s with router := x }
def State.setLanes (s : State) (x : Vector Lane 40) : State := { s with lanes := x }
def State.setDiverters (s : State) (x : Vector Diverter 40) : State := { s with diverters := x }
def State.setCoding (s : State) (x : Coding) : State := { s with coding := x }
def State.setMode (s : State) (x : Mode) : State := { s with mode := x }
def State.setLinks (s : State) (x : Vector Link 4) : State := { s with links := x }
def State.setLastServed (s : State) (x : LinkNo) : State := { s with lastServed := x }
def State.setPrincipals (s : State) (x : Principals) : State := { s with principals := x }
def State.setOrders (s : State) (x : List Order) : State := { s with orders := x }
def State.setWires (s : State) (x : Wires) : State := { s with wires := x }
def State.setPending (s : State) (x : List Instr) : State := { s with pending := x }

/-- Apply an operation for each member of a list, in its order. -/
def forEach {α : Type} (xs : List α) (f : State → α → State) (s : State) : State :=
  xs.foldl f s

/-! ## Records by number -/

def State.lane (s : State) (j : LaneNo) : Lane := s.lanes[j]
def State.setLane (s : State) (j : LaneNo) (x : Lane) : State := s.setLanes (s.lanes.set j.val x j.isLt)
def State.diverter (s : State) (j : LaneNo) : Diverter := s.diverters[j]
def State.setDiverter (s : State) (j : LaneNo) (x : Diverter) : State :=
  s.setDiverters (s.diverters.set j.val x j.isLt)
def State.point (s : State) (i : PointNo) : Point := s.induction.points[i]
def State.setPoint (s : State) (i : PointNo) (x : Point) : State :=
  s.setInduction { s.induction with points := s.induction.points.set i.val x i.isLt }
def State.station (s : State) (n : StationNo) : Station := s.stations[n]
def State.setStation (s : State) (n : StationNo) (x : Station) : State :=
  s.setStations (s.stations.set n.val x n.isLt)
def State.link (s : State) (l : LinkNo) : Link := s.links[l]
def State.setLink (s : State) (l : LinkNo) (x : Link) : State := s.setLinks (s.links.set l.val x l.isLt)

def State.berth (s : State) : BerthId → Berth
  | .one => s.berths.one
  | .two => s.berths.two

def State.setBerth (s : State) (b : BerthId) (x : Berth) : State :=
  match b with
  | .one => s.setBerths { s.berths with one := x }
  | .two => s.setBerths { s.berths with two := x }

def State.principal (s : State) : Principal → PrincipalRecord
  | .hall => s.principals.hall
  | .berth .one => s.principals.one
  | .berth .two => s.principals.two

def State.setPrincipal (s : State) (p : Principal) (x : PrincipalRecord) : State :=
  match p with
  | .hall => s.setPrincipals { s.principals with hall := x }
  | .berth .one => s.setPrincipals { s.principals with one := x }
  | .berth .two => s.setPrincipals { s.principals with two := x }

/-- Every lane, in ascending number. -/
def allLanes : List LaneNo := List.finRange 40

/-- Every induction point, in ascending number. -/
def allPoints : List PointNo := List.finRange 6

/-- Every read station, in ascending number. -/
def allStations : List StationNo := List.finRange 4

/-- Every link, in ascending number. -/
def allLinks : List LinkNo := List.finRange 4

/-- Both berths, in ascending number. -/
def allBerths : List BerthId := [.one, .two]

/-! ## Carriers (R8, R12) -/

/-- The record of carrier `k`. -/
def State.carrier (s : State) (k : Nat) : Carrier :=
  s.carriers.table.getD k Carrier.empty

/-- One if it holds, for a count. -/
def oneIf (b : Bool) : Nat :=
  if b then 1 else 0

/-- The carrier table with the record of carrier `k` replaced; the loaded and the unverified count follow the change
of its state, whichever block makes it (R1, R12). A number with no record changes nothing. -/
def CarrierTable.store (t : CarrierTable) (k : Nat) (c : Carrier) : CarrierTable :=
  match t.table[k]? with
  | none => t
  | some old =>
    { table := t.table.set k c
      loaded := t.loaded + oneIf c.isLoaded - oneIf old.isLoaded
      unverified := t.unverified + oneIf c.isUnverified - oneIf old.isUnverified }

def State.setCarrier (s : State) (k : Nat) (c : Carrier) : State :=
  s.setCarriers (s.carriers.store k c)

/-- The carrier numbers 0..C-1, ascending. -/
def State.carrierNumbers (s : State) : List Nat :=
  List.range s.carriers.table.length

/-- The carriers whose record satisfies a test, ascending. -/
def State.carriersWith (s : State) (p : Carrier → Bool) : List Nat :=
  s.carrierNumbers.filter fun k => p (s.carrier k)

/-! ## Offsets and distances (R5, R6, R7) -/

/-- off(k), the pitches carrier `k` has travelled since it last crossed home (R5). -/
def Loop.offsetOf (l : Loop) (k : Nat) : Nat :=
  (l.position + l.count - k) % l.count

/-- The carrier at a station of offset `d` (R5). -/
def Loop.carrierAt (l : Loop) (d : Nat) : Nat :=
  (l.position + l.count - d) % l.count

/-- dist(k, d), the pitches carrier `k` must still travel to a station at offset `d` (R6). -/
def Loop.distance (l : Loop) (k d : Nat) : Nat :=
  (d + l.count - l.offsetOf k) % l.count

/-- eff(k, j) for a lane whose diverter is at offset `d` (R7). -/
def Loop.effective (l : Loop) (k d : Nat) : Nat :=
  if l.commit ≤ l.distance k d then l.distance k d else l.distance k d + l.count

/-! ## Notices (R175) -/

/-- Post a notice to a principal, with the revolution count and loop position as its timestamp. -/
def State.post (s : State) (p : Principal) (body : NoticeBody) : State :=
  s.setPrincipal p ((s.principal p).posted body s.loop.revolutions s.loop.position)

/-- Post a notice to HALL, BERTH-1 and BERTH-2. -/
def State.postAll (s : State) (body : NoticeBody) : State :=
  ((s.post .hall body).post (.berth .one) body).post (.berth .two) body

/-- Post a notice to HALL and to a berth principal. -/
def State.postHallAnd (s : State) (b : BerthId) (body : NoticeBody) : State :=
  (s.post .hall body).post (.berth b) body

/-- Post a notice to a lane's owner and, when that is a berth principal, also to HALL (R121, R133). -/
def State.postOwner (s : State) (owner : Principal) (body : NoticeBody) : State :=
  match owner with
  | .hall => s.post .hall body
  | .berth b => s.postHallAnd b body

/-! ## Orders (R184) -/

/-- Hand an order over to the order queue; it is dropped when 32 wait. -/
def State.handOver (s : State) (o : Order) : State :=
  if s.orders.length < Config.orderPlaces then s.setOrders (s.orders ++ [o]) else s

/-! ## Replies (R171) -/

/-- Form frames for a link, after those already formed. -/
def State.addReplies (s : State) (l : LinkNo) (frames : List OutFrame) : State :=
  s.setLink l { s.link l with replies := (s.link l).replies ++ frames }

/-- Answer a command OK with its reply data (R171, R181). -/
def State.replyOk (s : State) (l : LinkNo) (tag : Byte) (code : Nat) (data : List Byte) : State :=
  s.addReplies l (okFrames tag code data)

/-- Refuse a command with a refusal code (R171, R181). -/
def State.replyRefused (s : State) (l : LinkNo) (tag : Byte) (code : Nat) (r : RefusalCode) : State :=
  s.addReplies l [refusedFrame tag code r]

/-- What taking a command comes to: a refusal, which leaves every table as it was, or its effect with the reply data
that its rule names. -/
inductive Taken
  | refused (r : RefusalCode)
  | ok (s : State) (data : List Byte)

/-- Take a command of kind `code` from a link (R171): the link becomes the last served; an IDLE link is refused with
NOT_ATTACHED; from an attached link the command acts for its principal and is answered by one reply. From a MUTED
link no command is taken (R166, R167, log 3). R171 makes the link the last served once the reply is formed; no rule but
QUERY LINKS reads it, and that one is given the state before (`execQueryLinks`). -/
def State.takeCommand (s : State) (l : LinkNo) (tag : Byte) (code : Nat) (body : Principal → State → Taken) : State :=
  match (s.link l).state with
  | .muted => s
  | .idle => (s.setLastServed l).replyRefused l tag code .notAttached
  | .attached p =>
    match body p (s.setLastServed l) with
    | .refused r => (s.setLastServed l).replyRefused l tag code r
    | .ok s' data => s'.replyOk l tag code data

/-! ## Manifest tables (R59 to R63) -/

def Berth.findCabin (r : Berth) (n : Nat) : Option Cabin :=
  r.cabins.find? (·.number == n)

def Berth.findEntry (r : Berth) (i : Nat) : Option Entry :=
  r.tags.find? (·.index == i)

def Berth.findSerial (r : Berth) (n : Nat) : Option Entry :=
  r.tags.find? (·.serial == some n)

/-- The entry that a reference names (R60). -/
def Berth.findRef (r : Berth) : EntryRef → Option Entry
  | .serial n => r.findSerial n
  | .index i => r.findEntry i

def Berth.modifyCabin (r : Berth) (n : Nat) (f : Cabin → Cabin) : Berth :=
  { r with cabins := r.cabins.map fun c => if c.number == n then f c else c }

def Berth.modifyEntry (r : Berth) (i : Nat) (f : Entry → Entry) : Berth :=
  { r with tags := r.tags.map fun e => if e.index == i then f e else e }

/-- Insert a cabin in ascending number. -/
def Berth.insertCabin (r : Berth) (c : Cabin) : Berth :=
  { r with cabins := r.cabins.takeWhile (·.number < c.number) ++ c :: r.cabins.dropWhile (·.number < c.number) }

/-- The lowest free index of a tag table (R60). -/
def Berth.freeIndex (r : Berth) : Nat :=
  ((List.range (r.tags.length + 1)).find? fun i => r.tags.all (·.index != i)).getD 0

/-- A cabin's counts after one of its entries passes from one state to another (R61). -/
def Cabin.recount (c : Cabin) (old new : EntryState) : Cabin :=
  { c with
    delivered := c.delivered + oneIf (new == .delivered) - oneIf (old == .delivered)
    inHold := c.inHold + oneIf (new == .inHold) - oneIf (old == .inHold) }

/-- A cabin's counts after an entry in a state joins it, or leaves it (R61). -/
def Cabin.countIn (c : Cabin) (st : EntryState) : Cabin :=
  { c with delivered := c.delivered + oneIf (st == .delivered), inHold := c.inHold + oneIf (st == .inHold) }

def Cabin.countOut (c : Cabin) (st : EntryState) : Cabin :=
  { c with delivered := c.delivered - oneIf (st == .delivered), inHold := c.inHold - oneIf (st == .inHold) }

/-- Give an entry a state and a ticket, its cabin's counts following in the same action (R61, R63). -/
def Berth.setEntryState (r : Berth) (i : Nat) (st : EntryState) (ticket : Option Nat) : Berth :=
  match r.findEntry i with
  | none => r
  | some e =>
    (r.modifyEntry i fun x => { x with state := st, ticket := ticket }).modifyCabin e.cabin (·.recount e.state st)

/-- Make an entry at the lowest free index and append it to its cabin's list (R60, R61). -/
def Berth.makeEntry (r : Berth) (serial : Option Nat) (cabin : Nat) (st : EntryState) (ticket : Option Nat) : Berth :=
  let i := r.freeIndex
  let e : Entry := ⟨i, serial, cabin, st, ticket⟩
  ({ r with tags := r.tags.takeWhile (fun x => x.index < i) ++ e :: r.tags.dropWhile (fun x => x.index < i) } : Berth).modifyCabin cabin
    fun c => { c.countIn st with entries := c.entries ++ [i] }

/-- Remove an entry from the table and from its cabin's list; the others keep their order (R61, R71). -/
def Berth.removeEntry (r : Berth) (e : Entry) : Berth :=
  ({ r with tags := r.tags.filter (·.index != e.index) } : Berth).modifyCabin e.cabin
    fun c => { c.countOut e.state with entries := c.entries.filter (· != e.index) }

/-- Move an entry to another cabin's list, the counts of both following (R61, R70). -/
def Berth.moveEntry (r : Berth) (e : Entry) (cabin : Nat) : Berth :=
  ((r.modifyEntry e.index fun x => { x with cabin := cabin }).modifyCabin e.cabin
    fun c => { c.countOut e.state with entries := c.entries.filter (· != e.index) }).modifyCabin cabin
    fun c => { c.countIn e.state with entries := c.entries ++ [e.index] }

/-- A berth that holds a manifest: BOUND or CLOSING (R53). -/
def BerthState.isOpen : BerthState → Bool
  | .unbound => false
  | .bound _ => true
  | .closing _ => true

def BerthState.isBound : BerthState → Bool
  | .bound _ => true
  | _ => false

def BerthState.isClosing : BerthState → Bool
  | .closing _ => true
  | _ => false

/-- The berth that is BOUND or CLOSING with a ship code (R75). -/
def State.berthOfShip (s : State) (ship : Nat) : Option BerthId :=
  allBerths.find? fun b => (s.berth b).state.ship == some ship

/-- Give a tag entry of a berth a state and a ticket (R63). -/
def State.setEntryState (s : State) (b : BerthId) (i : Nat) (st : EntryState) (ticket : Option Nat) : State :=
  s.setBerth b ((s.berth b).setEntryState i st ticket)

/-- The entry that an identity names. -/
def State.entryOf (s : State) (d : Identity) : Option Entry :=
  (s.berth d.berth).findEntry d.entry

/-- The cabin of the entry that an identity names (R75). -/
def State.cabinOf (s : State) (d : Identity) : Option Cabin :=
  (s.entryOf d).bind fun e => (s.berth d.berth).findCabin e.cabin

/-- The group to which a berth's deck map maps a deck 1..24 (R62). -/
def Berth.groupOf (r : Berth) (deck : Nat) : Option Nat :=
  (r.deckMap[deck - 1]?).getD none

/-- The disposition that a cabin's held flag gives (R84). -/
def dispositionOf (held : Bool) : Disposition :=
  if held then .hold else .delivery

/-! ## Lanes (R106) -/

/-- Raise a lane's inbound by a bag's units. -/
def State.raiseInbound (s : State) (j : LaneNo) (units : Nat) : State :=
  s.setLane j { s.lane j with inbound := (s.lane j).inbound + units }

/-- Lower a lane's inbound by a bag's units. -/
def State.lowerInbound (s : State) (j : LaneNo) (units : Nat) : State :=
  s.setLane j { s.lane j with inbound := (s.lane j).inbound - units }

/-- Drop a carrier's target and release its units at the lane (R95, R106). -/
def State.dropTarget (s : State) (k : Nat) : State :=
  match (s.carrier k).target with
  | none => s
  | some j => (s.setCarrier k { s.carrier k with target := none, armed := false }).lowerInbound j (s.carrier k).units

/-- Drop a carrier's identity, the Manifest Store moving its entry to a given state without a ticket (R10). -/
def State.dropIdentity (s : State) (k : Nat) (st : EntryState) : State :=
  match (s.carrier k).identity with
  | none => s
  | some d => (s.setCarrier k { s.carrier k with identity := none }).setEntryState d.berth d.entry st none

end Sys2Proof.Machine
end

