-- ==== Sys2Proof/Machine/Closing.lean ====
section
/-! DEFINITION. The end of a sailing: the per-berth clear (R58) and the completion of CLOSING (R56), which many blocks'
rules reach. CLOSING_COMPLETE is the row of that step. -/

namespace Sys2Proof.Machine

/-- A lane returned to the hall's pool: owner HALL, CLOSED, MAKEUP, no group; fill, inbound, capacity and offset kept
(R58, R110). -/
def Lane.returned (x : Lane) : Lane :=
  { x with owner := .hall, function := .makeup, group := none, state := .closed }

/-- A stray record without its reference to a cleared berth (R148, log 11). -/
def StrayRecord.forget (r : StrayRecord) (b : BerthId) : StrayRecord :=
  if r.berth == some b then { r with berth := none, entry := none } else r

/-- A reinject record without its reference to a cleared berth (R148, log 11). -/
def ReinjectRecord.forget (r : ReinjectRecord) (b : BerthId) : ReinjectRecord :=
  if r.berth == some b then { r with berth := none, entry := none } else r

/-- The lists without their references to a cleared berth (R148). -/
def Coding.forget (c : Coding) (b : BerthId) : Coding :=
  { c with strays := c.strays.map (·.forget b), reinject := c.reinject.map (·.forget b) }

/-- Return a lane to the hall if its owner is the principal of berth `b` (R58). -/
def State.takeBackLane (s : State) (b : BerthId) (j : LaneNo) : State :=
  if (s.lane j).owner == .berth b then s.setLane j (s.lane j).returned else s

/-- R58: the berth's tables, deck map and ship code are cleared, the records of both lists lose their references to
it, and its lanes return to the hall. -/
def State.perBerthClear (s : State) (b : BerthId) : State :=
  let s := s.setBerth b Berth.clear
  let s := s.setCoding (s.coding.forget b)
  forEach allLanes (fun s j => s.takeBackLane b j) s

/-- A carrier holds an identity of the berth, or the pending-tag list holds a record of it (R56). -/
def State.holdsBags (s : State) (b : BerthId) : Bool :=
  s.carriers.table.any (·.isOf b) || s.router.pendingTags.any (·.berth == b)

/-- R56: a CLOSING berth with no identity on the loop and no pending record becomes UNBOUND, with the per-berth clear
and BERTH STATE to HALL and to the berth principal. -/
def State.testClosing (s : State) (b : BerthId) : State :=
  if (s.berth b).state.isClosing && !s.holdsBags b then
    (s.perBerthClear b).postHallAnd b (.berthState b .unbound false)
  else s

/-- R56 for every CLOSING berth: when one event completes both closings, berth 1 is told of before berth 2, an order that
R15 and R56 leave open (DESIGN CHOICE, log 43). -/
def State.testAllClosing (s : State) : State :=
  (s.testClosing .one).testClosing .two

/-- CLOSING_COMPLETE (R56): the step as a row of its own; a berth whose condition does not hold is left as it is
(log 4). -/
def execClosingComplete (berth : Nat) (s : State) : Host.Outcome State Fault Refusal :=
  match berthOf berth with
  | none => .next s
  | some b => .next (s.testClosing b)

end Sys2Proof.Machine
end

