-- ==== Sys2Proof/Machine/Modes.lean ====
section
/-! DEFINITION. Chapter 9: changes of mode (R151 to R157), the exit from HALTED (R159), FORCE SETUP (R160), CLEAR SORT
(R161), QUERY MODE (R162); and the operations they share with a slip (R14, R15). -/

namespace Sys2Proof.Machine

/-- Every reservation ends (R30, R154). -/
def State.endReservations (s : State) : State :=
  s.setCarriers { s.carriers with table := s.carriers.table.map fun c => { c with reservation := none } }

/-- R154, R155: the mode changes, reservations ending when it leaves RUN, and MODE CHANGED is posted to all three
principals. -/
def State.changeMode (s : State) (new : Mode) (cause : ModeCause) : State :=
  let s' := if s.mode == .run then s.endReservations else s
  (s'.setMode new).postAll (.modeChanged s.mode new cause s.carriers.loaded s.carriers.unverified)

/-- R156: a drain completes when the loaded count is 0 in DRAINING. -/
def State.testDrain (s : State) : State :=
  if s.mode == .draining && s.carriers.loaded == 0 then s.changeMode .setup .drainComplete else s

/-- DRAIN_COMPLETE (R156): the step as a row of its own; where its condition does not hold it changes nothing
(log 4). -/
def execDrainComplete (s : State) : Host.Outcome State Fault Refusal :=
  .next s.testDrain

/-- Every armed queue of every lane is emptied (R14, R160). -/
def State.emptyQueues (s : State) : State :=
  forEach allLanes (fun s j => s.setDiverter j { s.diverter j with queue := [] }) s

/-- Every open read window is abandoned without an outcome (R15, R45). -/
def State.abandonWindows (s : State) : State :=
  forEach allStations (fun s n => s.setStation n { s.station n with window := none }) s

/-- The pending-tag list is emptied (R15, R159, R160). -/
def State.emptyPendingTags (s : State) : State :=
  s.setRouter { s.router with pendingTags := [] }

/-- A loaded carrier that is not FIRED (R14, R159). -/
def Carrier.losesIdentity (c : Carrier) : Bool :=
  c.isLoaded && c.state != .fired

/-- R14, R159: one carrier made UNVERIFIED: its target dropped with its units released, its entry returned to EXPECTED,
its disposition and candidate dropped, laps and divert tries 0; size, origin and ticket kept. -/
def State.unverify (s : State) (k : Nat) : State :=
  let s := (s.dropTarget k).dropIdentity k .expected
  s.setCarrier k
    { s.carrier k with
      state := .unverified, disposition := none, candidate := none, armed := false, laps := 0, tries := 0 }

/-- The carriers that a slip or the exit from HALTED makes UNVERIFIED (R14, R159). -/
def State.losers (s : State) : List Nat :=
  s.carriersWith (·.losesIdentity)

def State.unverifyAll (s : State) : State :=
  forEach s.losers (fun s k => s.unverify k) s

/-- R153: at least one read station is configured and enabled, and every configured offset is below C. -/
def State.configurationValid (s : State) : Bool :=
  allStations.any (fun n => (s.station n).enabled && (s.station n).offset.isSome)
    && allPoints.all (fun i => isOffset s.loop.count (s.point i).offset)
    && allStations.all (fun n => isOffset s.loop.count (s.station n).offset)
    && allLanes.all (fun j => isOffset s.loop.count (s.lane j).offset)

/-- R159: the exit from HALTED. -/
def State.exitHalted (s : State) : State :=
  (s.unverifyAll.emptyPendingTags.testAllClosing).changeMode .run .haltedExit

/-- The reply data of SET MODE: the mode in force. -/
def modeData (s : State) : List Byte :=
  bytesOf 1 s.mode.code

/-- Table 9-2, for a requested mode that is RUN, HOLD or SETUP. -/
def State.requestMode (s : State) (requested : Mode) : Taken :=
  let taken (s : State) : Taken := .ok s (modeData s)
  match s.mode, requested with
  | .setup, .run => if s.configurationValid then taken (s.changeMode .run .setMode) else .refused .badConfig
  | .setup, .setup => taken s
  | .run, .run => taken s
  | .run, .hold => taken (s.changeMode .hold .setMode)
  | .run, .setup => taken (s.changeMode .draining .setMode).testDrain
  | .hold, .run => taken (s.changeMode .run .setMode)
  | .hold, .hold => taken s
  | .hold, .setup => taken (s.changeMode .draining .setMode).testDrain
  | .draining, .run => taken (s.changeMode .run .setMode)
  | .draining, .setup => taken s
  | .halted, .run => .ok s.exitHalted (modeData s.exitHalted ++ bytesOf 2 s.losers.length)
  | _, _ => .refused .wrongMode

/-- SET MODE (R152). -/
def setModeBody (mode : Nat) (p : Principal) (s : State) : Taken :=
  if p ≠ .hall then .refused .notPermitted
  else
    match modeOf mode with
    | some .run => s.requestMode .run
    | some .hold => s.requestMode .hold
    | some .setup => s.requestMode .setup
    | _ => .refused .badValue

def execSetMode (link : LinkNo) (tag : Byte) (mode : Nat) (s : State) : Host.Outcome State Fault Refusal :=
  .next (s.takeCommand link tag 0x28 (setModeBody mode))

/-- The entry of each carrier that holds an identity returns to EXPECTED (R160). -/
def State.returnEntries (s : State) : State :=
  forEach (s.carriers.table.filterMap (·.identity)) (fun s d => s.setEntryState d.berth d.entry .expected none) s

/-- R160: what FORCE SETUP makes of the state before the mode is looked at: no window, no armed entry, no loaded
carrier, no inbound, no pending record. -/
def State.emptyLoop (s : State) : State :=
  let s := s.abandonWindows.emptyQueues.returnEntries
  let s := s.setCarriers (CarrierTable.allEmpty s.carriers.table.length)
  let s := forEach allLanes (fun s j => s.setLane j { s.lane j with inbound := 0 }) s
  s.emptyPendingTags

/-- FORCE SETUP (R160; the order of its notices: log 10). -/
def forceSetupBody (p : Principal) (s : State) : Taken :=
  if p ≠ .hall then .refused .notPermitted
  else
    let data := bytesOf 2 s.carriers.loaded ++ bytesOf 2 (s.carriers.table.filterMap (·.identity)).length
      ++ bytesOf 2 (s.carriers.table.countP fun c => c.state == .fired)
    let s' := s.emptyLoop
    let s' := if s.mode == .setup then s' else s'.changeMode .setup .forceSetup
    .ok s'.testAllClosing data

def execForceSetup (link : LinkNo) (tag : Byte) (s : State) : Host.Outcome State Fault Refusal :=
  .next (s.takeCommand link tag 0x29 forceSetupBody)

/-- The entries that records of the stray list and the reinject list name (R161). -/
def Coding.namedEntries (c : Coding) : List Identity :=
  (c.strays.filterMap fun r => r.berth.bind fun b => r.entry.map fun e => ⟨b, e⟩)
    ++ c.reinject.filterMap fun r => r.berth.bind fun b => r.entry.map fun e => ⟨b, e⟩

/-- A lane at CLEAR SORT: fill 0, FULL and FAULTED become CLOSED (R161). -/
def Lane.cleared (x : Lane) : Lane :=
  { x with fill := 0, state := if x.state == .full || x.state == .faulted then .closed else x.state }

/-- CLEAR SORT (R161). -/
def clearSortBody (p : Principal) (s : State) : Taken :=
  if p ≠ .hall then .refused .notPermitted
  else if s.mode ≠ .setup then .refused .wrongMode
  else
    let named := s.coding.namedEntries
    let changed := allLanes.countP fun j => (s.lane j).cleared.state != (s.lane j).state
    let one := named.countP (·.berth == .one)
    let two := named.countP (·.berth == .two)
    let strays := s.coding.strays.length
    let reinject := s.coding.reinject.length
    let s := forEach allLanes
      (fun s j => (s.setLane j (s.lane j).cleared).setDiverter j { s.diverter j with score := 0 }) s
    let s := forEach named (fun s d => s.setEntryState d.berth d.entry .expected none) s
    let s := s.setCoding { Coding.reset with exchange := s.coding.exchange }
    let hall := NoticeBody.sortClearedHall changed strays reinject one two
    let s := ((s.post .hall hall).post (.berth .one) (.sortClearedBerth one)).post (.berth .two) (.sortClearedBerth two)
    .ok s hall.bytes

def execClearSort (link : LinkNo) (tag : Byte) (s : State) : Host.Outcome State Fault Refusal :=
  .next (s.takeCommand link tag 0x2A clearSortBody)

/-- The number of carriers in a state. -/
def State.countState (s : State) (t : CarrierState) : Nat :=
  s.carriers.table.countP fun c => c.state == t

/-- The reply data of QUERY MODE (R162). -/
def queryModeData (s : State) : List Byte :=
  bytesOf 1 s.mode.code ++ bytesOf 2 s.carriers.loaded ++ bytesOf 2 s.induction.loadLimit
    ++ bytesOf 2 s.carriers.unverified
    ++ ([.empty, .unread, .unverified, .waiting, .carrying, .fired].map fun t => bytesOf 2 (s.countState t)).flatten
    ++ bytesOf 2 (s.carriers.table.countP (·.isUntargeted))
    ++ bytesOf 1 s.coding.strays.length ++ bytesOf 1 s.coding.reinject.length
    ++ bytesOf 1 s.router.pendingTags.length

/-- QUERY MODE (R162). -/
def execQueryMode (link : LinkNo) (tag : Byte) (s : State) : Host.Outcome State Fault Refusal :=
  .next (s.takeCommand link tag 0x2B fun _ s => .ok s (queryModeData s))

end Sys2Proof.Machine
end

