-- ==== Sys2Proof/Machine/Routing.lean ====
section
/-! DEFINITION. Chapter 5, the Route Selector: candidate sets and admission (R89, R90), the choice (R91), re-choice
(R95, R96), dispositions (R82 to R85), the pending-tag list (R86, R87), laps (R97 to R99), becoming a stray (R101),
and its commands. -/

namespace Sys2Proof.Machine

/-! ## The choice -/

/-- The deck group of the bag that an identity names, or none (R62, R75). -/
def State.groupOfBag (s : State) (d : Identity) : Option Nat :=
  (s.cabinOf d).bind fun c => (s.berth d.berth).groupOf c.deck

/-- A lane belongs to a carrier's first candidate set (Table 5-5). -/
def State.inFirstSet (s : State) (c : Carrier) (x : Lane) : Bool :=
  match c.disposition, c.identity with
  | some .delivery, some d =>
    x.owner == .berth d.berth && x.function == .makeup && (s.groupOfBag d).isSome && x.group == s.groupOfBag d
  | some .hold, some d => x.owner == .berth d.berth && x.function == .hold
  | some (.stray _), _ => x.owner == .hall && x.function == .stray
  | _, _ => false

/-- A lane belongs to a carrier's second candidate set (Table 5-5). -/
def inSecondSet (c : Carrier) (x : Lane) : Bool :=
  match c.disposition, c.identity with
  | some .delivery, some d => x.owner == .berth d.berth && x.function == .overflow
  | _, _ => false

/-- A lane admits a carrier's bag (R90). -/
def State.laneAdmits (s : State) (c : Carrier) (x : Lane) : Bool :=
  x.state == .opened && x.fill + x.inbound + c.units ≤ x.capacity
    && (c.strayReason.isNone || s.coding.strays.length < Config.strayPlaces)

/-- The better of the lane found so far and lane `j`: the lesser effective distance, the lower lane number when equal
(R91). A lane without an offset has no effective distance and is passed over (log 26). -/
def State.nearer (s : State) (k : Nat) (ok : Lane → Bool) (best : Option LaneNo) (j : LaneNo) : Option LaneNo :=
  match (s.lane j).offset with
  | none => best
  | some d =>
    if ok (s.lane j) then
      match best.bind fun i => (s.lane i).offset with
      | none => some j
      | some d' => if s.loop.effective k d < s.loop.effective k d' then some j else best
    else best

/-- The lane of least effective distance from carrier `k` among those of a set (R91). -/
def State.nearest (s : State) (k : Nat) (ok : Lane → Bool) : Option LaneNo :=
  allLanes.foldl (fun best j => s.nearer k ok best j) none

/-- The lane that carrier `k` is given: the nearest admitting lane of its first set, else of its second (R89, R91). -/
def State.bestLane (s : State) (k : Nat) : Option LaneNo :=
  let c := s.carrier k
  match s.nearest k fun x => s.inFirstSet c x && s.laneAdmits c x with
  | some j => some j
  | none => s.nearest k fun x => inSecondSet c x && s.laneAdmits c x

/-- R91: choose a target for a CARRYING carrier without one, in RUN, HOLD and DRAINING; the lane's inbound is raised in
the same action. When no lane admits, the carrier is left untargeted (R92). -/
def State.chooseTarget (s : State) (k : Nat) : State :=
  if s.mode.sorts && (s.carrier k).isUntargeted then
    match s.bestLane k with
    | none => s
    | some j =>
      (s.setCarrier k { s.carrier k with target := some j, armed := false }).raiseInbound j (s.carrier k).units
  else s

/-- Choices for several carriers, each seeing the room left by those before it (R93, R96). -/
def State.chooseAll (s : State) (ks : List Nat) : State :=
  forEach ks (fun s k => s.chooseTarget k) s

/-- R95: re-choose a carrier that is CARRYING with a tentative target. -/
def State.rechoose (s : State) (k : Nat) : State :=
  if (s.carrier k).isReachable && (s.carrier k).target.isSome then (s.dropTarget k).chooseTarget k else s

/-- The carriers whose tentative target is a lane, ascending (R96). -/
def State.tentativeAt (s : State) (j : LaneNo) : List Nat :=
  s.carriersWith (·.isTentativeAt j)

/-- The carriers FIRED at a lane, ascending (R123). -/
def State.firedAt (s : State) (j : LaneNo) : List Nat :=
  s.carriersWith (·.isFiredAt j)

/-- Drop the targets of several carriers, releasing their units (R96). -/
def State.dropTargets (s : State) (ks : List Nat) : State :=
  forEach ks (fun s k => s.dropTarget k) s

/-- R96: re-choose every carrier whose tentative target is lane `j`: every such target is dropped, then the choices
are made in ascending carrier number. -/
def State.rechooseLane (s : State) (j : LaneNo) : State :=
  (s.dropTargets (s.tentativeAt j)).chooseAll (s.tentativeAt j)

/-! ## Dispositions -/

/-- R85 less its choice: a carrier that is not armed enters a disposition. -/
def State.enterDisposition (s : State) (k : Nat) (d : Disposition) : State :=
  let s := s.dropTarget k
  s.setCarrier k { s.carrier k with state := .carrying, disposition := some d, laps := 0 }

/-- R85 with its choice, for a disposition given at a command or at a field event other than ADVANCE (R93). -/
def State.giveDisposition (s : State) (k : Nat) (d : Disposition) : State :=
  (s.enterDisposition k d).chooseTarget k

/-- Remove the pending record of a carrier (R86). -/
def State.removePending (s : State) (k : Nat) : State :=
  s.setRouter { s.router with pendingTags := s.router.pendingTags.filter (·.carrier != k) }

/-- R101 less the choice: a carrier with an identity becomes a stray: its entry STRAYED without a ticket, BAG STRAYED to
the berth principal, the test of its berth's closing, then the STRAY disposition. -/
def State.becomeStray (s : State) (k : Nat) (r : StrayReason) : State :=
  match (s.carrier k).identity with
  | none => s.enterDisposition k (.stray r)
  | some d =>
    let s' := s.dropIdentity k .strayed
    let s' := match s.entryOf d with
      | none => s'
      | some e => s'.post (.berth d.berth) (.bagStrayed e.cabin e.index e.serial r k)
    (s'.testClosing d.berth).enterDisposition k (.stray r)

/-- R84 less the choice: the entry becomes the carrier's identity and ON_LOOP, and the disposition is HOLD or DELIVERY as
its cabin is held. -/
def State.matchEntry (s : State) (k : Nat) (d : Identity) : State :=
  let held := match s.cabinOf d with
    | none => false
    | some c => c.held
  let s := s.setEntryState d.berth d.entry .onLoop none
  let s := s.setCarrier k { s.carrier k with identity := some d }
  s.enterDisposition k (dispositionOf held)

/-- R87: the carrier becomes WAITING and joins the pending-tag list; TAG PENDING is posted. -/
def State.joinPending (s : State) (k : Nat) (b : BerthId) (serial : Nat) : State :=
  let s := s.setRouter { s.router with pendingTags := s.router.pendingTags ++ [⟨b, serial, k⟩] }
  let s := s.setCarrier k { s.carrier k with state := .waiting, laps := 0 }
  s.post (.berth b) (.tagPending serial k s.router.waitLimit)

/-- Outcomes of a read window (R46). -/
inductive ReadOutcome
  | noRead | weak | ambiguous
  | accepted (t : Tag)
deriving DecidableEq, Repr

/-- Table 5-2 for a tag that names berth `b`, BOUND, and no entry of it (R83). -/
def State.takeUnlisted (s : State) (k : Nat) (b : BerthId) (serial : Nat) : State :=
  if s.router.pendingTags.any (fun r => r.berth == b && r.serial == serial) then s.enterDisposition k (.stray .duplicate)
  else if 0 < s.router.waitLimit ∧ s.router.pendingTags.length < Config.pendingTagPlaces then s.joinPending k b serial
  else s.enterDisposition k (.stray .unknown)

/-- Table 5-2 for an entry that holds the tag in a BOUND berth (R83). -/
def State.takeListed (s : State) (k : Nat) (b : BerthId) (e : Entry) : State :=
  match e.state with
  | .expected => s.matchEntry k ⟨b, e.index⟩
  | .onLoop => s.enterDisposition k (.stray .duplicate)
  | .delivered | .inHold | .strayed | .offSystem => s.enterDisposition k (.stray .repeated)

/-- R83 less the choice: an ACCEPTED tag. -/
def State.takeAccepted (s : State) (k : Nat) (t : Tag) : State :=
  let s := s.setCarrier k { s.carrier k with candidate := some t }
  match s.berthOfShip t.ship with
  | none => s.enterDisposition k (.stray .foreign)
  | some b =>
    if (s.berth b).state.isClosing then s.enterDisposition k (.stray .berthClosing)
    else
      match (s.berth b).findSerial t.serial with
      | some e => s.takeListed k b e
      | none => s.takeUnlisted k b t.serial

/-- A carrier whose window outcome the Route Selector takes: UNREAD or UNVERIFIED (R82). -/
def Carrier.awaitsRead (c : Carrier) : Bool :=
  c.state == .unread || c.state == .unverified

/-- R82 less the choice: the outcome of a window on a carrier; one naming a carrier in another state is discarded. -/
def State.takeOutcome (s : State) (k : Nat) (o : ReadOutcome) : State :=
  if (s.carrier k).awaitsRead then
    match o with
    | .noRead => s.enterDisposition k (.stray .noRead)
    | .weak => s.enterDisposition k (.stray .weak)
    | .ambiguous => s.enterDisposition k (.stray .ambiguous)
    | .accepted t => s.takeAccepted k t
  else s

/-! ## Laps -/

/-- A carrier whose laps a home crossing counts: WAITING, or CARRYING without a target (R97). -/
def Carrier.isLapping (c : Carrier) : Bool :=
  c.state == .waiting || c.isUntargeted

/-- R97: one lap more, saturating at 15. -/
def State.countLap (s : State) (k : Nat) : State :=
  s.setCarrier k { s.carrier k with laps := raiseTo 15 (s.carrier k).laps 1 }

/-- R98: a WAITING carrier at R_wait laps leaves the pending-tag list and enters STRAY(UNKNOWN). -/
def State.expireWait (s : State) (k : Nat) : State :=
  if (s.carrier k).state == .waiting && s.router.waitLimit ≤ (s.carrier k).laps then
    (s.removePending k).enterDisposition k (.stray .unknown)
  else s

/-- R98: an untargeted DELIVERY or HOLD carrier at R_max laps becomes a stray of reason NO_ROOM or HELD. -/
def State.strayAtLimit (s : State) (k : Nat) : State :=
  if (s.carrier k).isUntargeted && s.router.lapLimit ≤ (s.carrier k).laps then
    match (s.carrier k).disposition with
    | some .delivery => s.becomeStray k .noRoom
    | some .hold => s.becomeStray k .held
    | _ => s
  else s

/-- R97 and R98 at a home crossing, for the carriers that were lapping before the advance. -/
def State.countLaps (s : State) (before : List Nat) : State :=
  if s.mode.diverts then
    let s := forEach before (fun s k => s.countLap k) s
    forEach before (fun s k => (s.expireWait k).strayAtLimit k) s
  else s

/-- WAIT_EXPIRY (R98): the step as a row of its own, with its choice; where its condition does not hold it changes
nothing (log 4). -/
def execWaitExpiry (carrier : Nat) (s : State) : Host.Outcome State Fault Refusal :=
  .next <|
    if s.mode.diverts && (s.carrier carrier).state == .waiting && s.router.waitLimit ≤ (s.carrier carrier).laps then
      (s.expireWait carrier).chooseTarget carrier
    else s

/-- LAP_LIMIT (R98): the step as a row of its own, with its choice; where its condition does not hold it changes
nothing (log 4). -/
def execLapLimit (carrier : Nat) (s : State) : Host.Outcome State Fault Refusal :=
  .next <|
    if s.mode.diverts && (s.carrier carrier).isUntargeted && (s.carrier carrier).strayReason.isNone
        && s.router.lapLimit ≤ (s.carrier carrier).laps then
      (s.strayAtLimit carrier).chooseTarget carrier
    else s

/-! ## Commands -/

/-- SET LAP LIMITS (R100). -/
def setLapLimitsBody (lapLimit waitLimit : Nat) (p : Principal) (s : State) : Taken :=
  if p ≠ .hall then .refused .notPermitted
  else
    let s := s.setRouter { s.router with lapLimit := clampTo 1 15 lapLimit, waitLimit := clampTo 0 7 waitLimit }
    .ok s (bytesOf 1 s.router.lapLimit ++ bytesOf 1 s.router.waitLimit)

def execSetLapLimits (link : LinkNo) (tag : Byte) (lapLimit waitLimit : Nat) (s : State) :
    Host.Outcome State Fault Refusal :=
  .next (s.takeCommand link tag 0x19 (setLapLimitsBody lapLimit waitLimit))

/-- A pending record as QUERY PENDING gives it: berth, serial, carrier, the carrier's laps (R102). -/
def pendingTagBytes (s : State) (r : PendingTag) : List Byte :=
  bytesOf 1 r.berth.number ++ bytesOf 3 r.serial ++ bytesOf 2 r.carrier ++ bytesOf 1 (s.carrier r.carrier).laps

/-- Whether a principal is shown the records and bags of a berth (R102). -/
def Principal.sees (p : Principal) (b : BerthId) : Bool :=
  p == .hall || p == .berth b

/-- Untargeted carriers of a disposition, of the berths that a principal sees (R102). -/
def State.untargetedOf (s : State) (p : Principal) (d : Disposition) : Nat :=
  s.carriers.table.countP fun c => c.isUntargeted && c.disposition == some d
    && (match c.identity with | none => p == .hall | some i => p.sees i.berth)

/-- The reply data of QUERY PENDING (R102). -/
def queryPendingData (p : Principal) (s : State) : List Byte :=
  let shown := s.router.pendingTags.filter fun r => p.sees r.berth
  bytesOf 1 s.router.lapLimit ++ bytesOf 1 s.router.waitLimit ++ bytesOf 1 shown.length
    ++ (shown.map (pendingTagBytes s)).flatten
    ++ bytesOf 2 (s.untargetedOf p .delivery) ++ bytesOf 2 (s.untargetedOf p .hold)
    ++ bytesOf 2 (s.carriers.table.countP fun c => c.isUntargeted && c.strayReason.isSome)

/-- QUERY PENDING (R102). -/
def execQueryPending (link : LinkNo) (tag : Byte) (s : State) : Host.Outcome State Fault Refusal :=
  .next (s.takeCommand link tag 0x1A fun p s => .ok s (queryPendingData p s))

end Sys2Proof.Machine
end

