-- ==== Sys2Proof/Machine/Strays.lean ====
section
/-! DEFINITION. Chapter 8, the Stray Controller: tickets (R137), arrivals of strays (R138, R139), the coding station's
requests (R141 to R146), the consumption of a reinject record (R147), its notices (R149) and QUERY STRAYS (R150). -/

namespace Sys2Proof.Machine

/-! ## Tickets -/

/-- The number after a ticket, wrapping from 4095 to 1 (R137). -/
def nextTicket (t : Nat) : Nat :=
  if t < Config.lastTicket then t + 1 else 1

/-- A record of either list holds the ticket (R136). -/
def Coding.holdsTicket (c : Coding) (t : Nat) : Bool :=
  c.strays.any (·.ticket == t) || c.reinject.any (·.ticket == t)

/-- The first number from `t` on that no record holds, looking at `fuel` numbers at most (R137). -/
def Coding.freeFrom (c : Coding) : Nat → Nat → Nat
  | 0, t => t
  | fuel + 1, t => if c.holdsTicket t then c.freeFrom fuel (nextTicket t) else t

/-- The ticket that the next issue gives (R137): as many held numbers can be passed as the lists have records. -/
def Coding.issued (c : Coding) : Nat :=
  c.freeFrom (c.strays.length + c.reinject.length) c.ticketCounter

/-- Remove the ticket of an entry, which stays in the state it is in (R63). -/
def State.dropEntryTicket (s : State) (b : BerthId) (i : Nat) : State :=
  s.setBerth b ((s.berth b).modifyEntry i fun e => { e with ticket := none })

/-! ## Arrivals -/

/-- The stray reason of an arriving carrier (a disposition without one, which no run reaches: log 23). -/
def Carrier.arrivalReason (c : Carrier) : StrayReason :=
  c.strayReason.getD .unknown

/-- R138 step 3: the berth of a candidate's ship code, and its entry of the candidate's serial if that is STRAYED
without a ticket. -/
def State.strayReference (s : State) (candidate : Option Tag) : Option BerthId × Option Nat :=
  match candidate with
  | none => (none, none)
  | some t =>
    match s.berthOfShip t.ship with
    | none => (none, none)
    | some b =>
      match (s.berth b).findSerial t.serial with
      | none => (some b, none)
      | some e => (some b, if e.state = .strayed ∧ e.ticket = none then some e.index else none)

/-- Post a stray notice to HALL and to the principal of a berth, if there is one (R149). -/
def State.postStray (s : State) (b : Option BerthId) (body : NoticeBody) : State :=
  match b with
  | none => s.post .hall body
  | some b => s.postHallAnd b body

/-- R138: the arrival of carrier `k`, without an identity, in STRAY lane `j`, with room in the stray list. -/
def State.recordStray (s : State) (k : Nat) (j : LaneNo) : State :=
  let c := s.carrier k
  let t := s.coding.issued
  let ref := s.strayReference c.candidate
  let r : StrayRecord :=
    ⟨t, c.arrivalReason, c.candidate, ref.1, ref.2, c.bagSize, j, s.loop.revolutions, s.loop.position⟩
  let s := match ref.1, ref.2 with
    | some b, some i => s.setEntryState b i .strayed (some t)
    | _, _ => s
  let s := s.setCoding { s.coding with strays := s.coding.strays ++ [r], ticketCounter := nextTicket t }
  let s := s.handOver (.label (some t) j c.bagSize c.arrivalReason)
  s.postStray ref.1
    (.strayEntered (some t) c.arrivalReason c.bagSize j c.candidate ref.1 ref.2 s.coding.strays.length)

/-- R139: the same arrival while the stray list holds 64 records. -/
def State.countUnlisted (s : State) (k : Nat) (j : LaneNo) : State :=
  let c := s.carrier k
  let s := s.setCoding { s.coding with unlisted := raiseTo 255 s.coding.unlisted 1 }
  let s := s.handOver (.label none j c.bagSize c.arrivalReason)
  s.post .hall (.strayEntered none c.arrivalReason c.bagSize j c.candidate none none s.coding.strays.length)

/-- R138, R139: the Stray Controller takes an arrival. -/
def State.takeStray (s : State) (k : Nat) (j : LaneNo) : State :=
  if s.coding.strays.length < Config.strayPlaces then s.recordStray k j else s.countUnlisted k j

/-! ## Exchanges -/

/-- Hand over a coding answer whole and open its exchange; when fewer places are free than it has records, all of them
are dropped and the exchange is closed at once (R141, R184). -/
def State.answer (s : State) (q : CodingRequest) (ticket : Nat) (records : List Order) : State :=
  if s.orders.length + records.length ≤ Config.orderPlaces then
    (s.setOrders (s.orders ++ records)).setCoding { s.coding with exchange := some ⟨q, ticket⟩ }
  else s

/-- What a coding request that passes the checks of R141 comes to. -/
inductive Coded
  | error (e : CodingError)
  | done (s : State) (data : List Byte)

/-- R141: BUSY while an exchange is open, then the two checks in order, then the request's own rule. -/
def State.codingRequest (s : State) (q : CodingRequest) (ticket : Nat) (body : StrayRecord → Coded) : State :=
  if s.coding.exchange.isSome then s.handOver (.busy q ticket)
  else if (ticketOf ticket).isNone then s.answer q ticket [.error q ticket .noTicket]
  else if s.coding.reinject.any (·.ticket == ticket) then s.answer q ticket [.error q ticket .alreadyCoded]
  else
    match s.coding.strays.find? (·.ticket == ticket) with
    | none => s.answer q ticket [.error q ticket .noTicket]
    | some r =>
      match body r with
      | .error e => s.answer q ticket [.error q ticket e]
      | .done s' data => s'.answer q ticket (doneRecords q ticket data)

/-- A stray record as an answer or a reply gives it, in the order of R136. -/
def StrayRecord.bytes (r : StrayRecord) : List Byte :=
  bytesOf 2 r.ticket ++ bytesOf 1 r.reason.code ++ tagBytes r.candidate ++ bytesOrZero 1 (r.berth.map BerthId.number)
    ++ bytesOrFF 2 r.entry ++ bytesOf 1 r.size.code ++ bytesOf 1 r.lane.val ++ bytesOf 2 r.revolutions
    ++ bytesOf 2 r.position

/-- The entry that a stray record refers to. -/
def StrayRecord.reference (r : StrayRecord) : Option Identity :=
  r.berth.bind fun b => r.entry.map fun e => ⟨b, e⟩

/-- What FETCH adds for a record that refers to an entry: serial, cabin, deck, held flag, group (R142). -/
def State.referredBytes (s : State) (d : Identity) : Option (List Byte) :=
  (s.entryOf d).bind fun e => (s.cabinOf d).map fun c =>
    bytesOrFF 3 e.serial ++ bytesOf 2 e.cabin ++ bytesOf 1 c.deck ++ flagByte c.held
      ++ bytesOrFF 1 ((s.berth d.berth).groupOf c.deck)

/-- What FETCH adds for a record that holds a berth: its state and ship code (R142). -/
def State.berthBytes (s : State) (b : BerthId) : List Byte :=
  bytesOf 1 (s.berth b).state.code ++ bytesOrZero 1 (s.berth b).state.ship

/-- The data of a FETCH answer (R142, log 13, log 30). -/
def State.fetchData (s : State) (r : StrayRecord) : List Byte :=
  r.bytes ++ groupBytes 8 (r.reference.bind s.referredBytes) ++ groupBytes 2 (r.berth.map s.berthBytes)

/-- FETCH (R142). -/
def execFetch (ticket : Nat) (s : State) : Host.Outcome State Fault Refusal :=
  .next (s.codingRequest .fetch ticket fun r => .done s (s.fetchData r))

/-- Post STRAY RESOLVED to HALL and to the principals of the berths named, each once (R149). -/
def State.postResolved (s : State) (berths : List BerthId) (body : NoticeBody) : State :=
  forEach (allBerths.filter (berths.contains ·)) (fun s b => s.post (.berth b) body) (s.post .hall body)

/-- The STRAY RESOLVED notice of a request, for the entry resolved to when there is one (R149, log 31). -/
def State.resolvedNotice (s : State) (q : CodingRequest) (ticket : Nat) (d : Option Identity) (st : ResolvedState) :
    NoticeBody :=
  .strayResolved ticket q (d.map (·.berth)) (d.map (·.entry)) ((d.bind s.entryOf).bind (·.serial)) st
    s.coding.strays.length s.coding.reinject.length

/-- Step 1 of R143: an entry that the record refers to, other than the one resolved to, loses its ticket. -/
def State.leaveEntry (s : State) (r : StrayRecord) (d : Option Identity) : State :=
  match r.reference with
  | none => s
  | some old => if some old = d then s else s.dropEntryTicket old.berth old.entry

/-- Step 3 of R143: the stray record passes to the end of the reinject list. -/
def State.moveRecord (s : State) (r : StrayRecord) (how : Resolution) (b : Option BerthId) (e : Option Nat) : State :=
  s.setCoding { s.coding with
    strays := s.coding.strays.filter (·.ticket != r.ticket)
    reinject := s.coding.reinject ++ [⟨r.ticket, how, b, e, r.candidate, r.size, s.loop.revolutions, s.loop.position⟩] }

/-- Steps 3 and 4 of R143, for an entry that already holds the ticket. -/
def State.codeTo (s : State) (q : CodingRequest) (r : StrayRecord) (d : Identity) : State :=
  let s := s.moveRecord r .coded (some d.berth) (some d.entry)
  s.postResolved (d.berth :: (r.reference.map (·.berth)).toList)
    (s.resolvedNotice q r.ticket (some d) .strayedWithTicket)

/-- The data of a CODE TAG or CODE CABIN answer: berth, entry index, cabin, held flag (R143, R144). -/
def codedData (d : Identity) (c : Cabin) : List Byte :=
  bytesOf 1 d.berth.number ++ bytesOf 2 d.entry ++ bytesOf 2 c.number ++ flagByte c.held

/-- The berth that is BOUND with a ship code (R143). -/
def State.boundTo (s : State) (ship : Nat) : Option BerthId :=
  allBerths.find? fun b => (s.berth b).state == .bound ship

/-- An entry that CODE TAG may code to a ticket: EXPECTED, OFF_SYSTEM, or STRAYED holding no ticket or this one
(R143). -/
def Entry.codable (e : Entry) (ticket : Nat) : Bool :=
  match e.state with
  | .expected | .offSystem => true
  | .strayed => e.ticket.isNone || e.ticket == some ticket
  | .onLoop | .delivered | .inHold => false

/-- The cabin of an entry as an answer gives it (R143; an entry without a cabin record, which no run reaches:
log 23). -/
def Berth.cabinOfEntry (r : Berth) (e : Entry) : Cabin :=
  (r.findCabin e.cabin).getD ⟨e.cabin, 0, 0, 0, 0, false, []⟩

/-- CODE TAG after the checks of R141 (R143). -/
def State.codeTag (s : State) (ship serial : Nat) (r : StrayRecord) : Coded :=
  match s.boundTo ship with
  | none => .error .berthNotBound
  | some b =>
    match (s.berth b).findSerial serial with
    | none => .error .tagUnknown
    | some e =>
      if !e.codable r.ticket then .error .tagInUse
      else if Config.reinjectPlaces ≤ s.coding.reinject.length then .error .listFull
      else
        let d : Identity := ⟨b, e.index⟩
        let s' := (s.leaveEntry r (some d)).setEntryState b e.index .strayed (some r.ticket)
        .done (s'.codeTo .codeTag r d) (codedData d ((s.berth b).cabinOfEntry e))

/-- CODE TAG (R143). -/
def execCodeTag (ticket ship serial : Nat) (s : State) : Host.Outcome State Fault Refusal :=
  .next (s.codingRequest .codeTag ticket (s.codeTag ship serial))

/-- CODE CABIN after the checks of R141 (R144). -/
def State.codeCabin (s : State) (berth cabin : Nat) (r : StrayRecord) : Coded :=
  match berthOf berth with
  | none => .error .berthNotBound
  | some b =>
    if !(s.berth b).state.isBound then .error .berthNotBound
    else
      match (s.berth b).findCabin cabin with
      | none => .error .cabinUnknown
      | some c =>
        if Config.cabinEntries ≤ c.entries.length then .error .cabinFull
        else if Config.tagPlaces ≤ (s.berth b).tags.length then .error .tableFull
        else if Config.reinjectPlaces ≤ s.coding.reinject.length then .error .listFull
        else
          let d : Identity := ⟨b, (s.berth b).freeIndex⟩
          let s' := s.leaveEntry r none
          let s' := s'.setBerth b ((s'.berth b).makeEntry none cabin .strayed (some r.ticket))
          .done (s'.codeTo .codeCabin r d) (codedData d c)

/-- CODE CABIN (R144). -/
def execCodeCabin (ticket berth cabin : Nat) (s : State) : Host.Outcome State Fault Refusal :=
  .next (s.codingRequest .codeCabin ticket (s.codeCabin berth cabin))

/-- REMOVE after the checks of R141 (R145). -/
def State.removeStray (s : State) (r : StrayRecord) : State :=
  let s := s.setCoding { s.coding with strays := s.coding.strays.filter (·.ticket != r.ticket) }
  let s := match r.reference with
    | none => s
    | some d => s.setEntryState d.berth d.entry .offSystem none
  s.postResolved (r.reference.map (·.berth)).toList (s.resolvedNotice .remove r.ticket r.reference .offSystem)

/-- REMOVE (R145). -/
def execRemove (ticket : Nat) (s : State) : Host.Outcome State Fault Refusal :=
  .next (s.codingRequest .remove ticket fun r => .done (s.removeStray r) [])

/-- RETRY after the checks of R141 (R146). -/
def State.retryStray (s : State) (r : StrayRecord) : Coded :=
  if Config.reinjectPlaces ≤ s.coding.reinject.length then .error .listFull
  else
    let s := s.moveRecord r .readAgain r.berth r.entry
    .done (s.postResolved (r.reference.map (·.berth)).toList (s.resolvedNotice .retry r.ticket r.reference .unchanged))
      []

/-- RETRY (R146). -/
def execRetry (ticket : Nat) (s : State) : Host.Outcome State Fault Refusal :=
  .next (s.codingRequest .retry ticket s.retryStray)

/-! ## The reinject list -/

/-- The reinject record that holds a ticket (R147). -/
def Coding.findReinject (c : Coding) (ticket : Nat) : Option ReinjectRecord :=
  c.reinject.find? (·.ticket == ticket)

/-- R147: a reinject record leaves its list; an entry that it refers to loses its ticket. -/
def State.consume (s : State) (r : ReinjectRecord) : State :=
  let s := s.setCoding { s.coding with reinject := s.coding.reinject.filter (·.ticket != r.ticket) }
  match r.berth, r.entry with
  | some b, some i => s.dropEntryTicket b i
  | _, _ => s

/-- The entry that a CODED record still gives its bag: its berth BOUND, its entry STRAYED and naming the ticket
(Table 2-3). -/
def State.codedIdentity (s : State) (r : ReinjectRecord) : Option Identity :=
  match r.resolution, r.berth, r.entry with
  | .coded, some b, some i =>
    match (s.berth b).findEntry i with
    | none => none
    | some e =>
      if (s.berth b).state.isBound ∧ e.state = .strayed ∧ e.ticket = some r.ticket then some ⟨b, i⟩ else none
  | _, _, _ => none

/-! ## Query -/

/-- The code of a resolution in QUERY STRAYS: the named value sets of R179 have none for it, so CODED is 0 and READ AGAIN 1,
in the order of R136 (DESIGN CHOICE, log 51). -/
def Resolution.code : Resolution → Nat
  | .coded => 0
  | .readAgain => 1

/-- A reinject record as a reply gives it, in the order of R136. -/
def ReinjectRecord.bytes (r : ReinjectRecord) : List Byte :=
  bytesOf 2 r.ticket ++ bytesOf 1 r.resolution.code ++ bytesOrZero 1 (r.berth.map BerthId.number)
    ++ bytesOrFF 2 r.entry ++ tagBytes r.candidate ++ bytesOf 1 r.size.code ++ bytesOf 2 r.revolutions
    ++ bytesOf 2 r.position

/-- A principal is shown a record: HALL every one, a berth principal those of its berth (R150). -/
def Principal.seesRecord (p : Principal) (b : Option BerthId) : Bool :=
  p == .hall || b.any fun b => p == .berth b

/-- The reply data of QUERY STRAYS (R150). The two counts that R150 gives are of all records, and no other length leads the
records, of which a berth principal is shown its own alone (DESIGN CHOICE, log 52). -/
def queryStraysData (p : Principal) (s : State) : List Byte :=
  bytesOf 2 s.coding.ticketCounter ++ bytesOf 1 s.coding.unlisted ++ bytesOf 1 s.coding.strays.length
    ++ bytesOf 1 s.coding.reinject.length
    ++ ((s.coding.strays.filter fun r => p.seesRecord r.berth).map StrayRecord.bytes).flatten
    ++ ((s.coding.reinject.filter fun r => p.seesRecord r.berth).map ReinjectRecord.bytes).flatten

/-- QUERY STRAYS (R150). -/
def execQueryStrays (link : LinkNo) (tag : Byte) (s : State) : Host.Outcome State Fault Refusal :=
  .next (s.takeCommand link tag 0x27 fun p s => .ok s (queryStraysData p s))

end Sys2Proof.Machine
end

