-- ==== Sys2Proof/Machine/Diversion.lean ====
section
/-! DEFINITION. Chapter 7, the Diverter Sequencer: arming (R125), firing (R126), outcomes (R127 to R130), timeouts (R131),
fault scores and faulted lanes (R132, R133), QUERY DIVERSION (R135); and the Manifest Store's records of arrivals
(R76 to R78), which DIVERT DONE hands over. -/

namespace Sys2Proof.Machine

/-! ## Arrivals recorded by the Manifest Store -/

/-- What an entry becomes at the arrival of its bag, by the lane's function at arrival (R76). -/
def arrivalState (f : LaneFunction) (d : Option Disposition) : EntryState :=
  match f, d with
  | .makeup, _ => .delivered
  | .overflow, _ => .delivered
  | .hold, _ => .inHold
  | .stray, some .hold => .inHold
  | .stray, _ => .delivered

/-- The candidate as LANE ARRIVAL reports it to a lane's owner: withheld from a berth principal whose berth does not
hold the candidate's ship code (R78). -/
def State.reportedCandidate (s : State) (owner : Principal) (candidate : Option Tag) : Reported Tag :=
  match candidate, owner with
  | none, _ => .absent
  | some t, .hall => .present t
  | some t, .berth b => if (s.berth b).state.ship = some t.ship then .present t else .withheld

/-- Post LANE ARRIVAL of carrier `k` at lane `j` to the lane's owner (R78). -/
def State.postLaneArrival (s : State) (k : Nat) (c : Carrier) (j : LaneNo) (owner : Principal) : State :=
  s.post owner (.laneArrival j k c.size c.disposition (s.reportedCandidate owner c.candidate))

/-- The cabin notice that follows a delivery: COMPLETE when the counts are equal, OVER when more are delivered (R77). -/
def State.postCabin (s : State) (b : BerthId) (c : Cabin) : State :=
  if c.delivered = c.expected then
    s.post (.berth b) (.cabinComplete c.number c.deck c.delivered c.expected c.inHold)
  else if c.expected < c.delivered then
    s.post (.berth b) (.cabinOver c.number c.deck c.delivered c.expected c.inHold)
  else s

/-- The notices to a berth principal of an entry that has just become DELIVERED or IN_HOLD (R76, R77). -/
def State.postArrival (s : State) (d : Identity) (j : LaneNo) (st : EntryState) : State :=
  match s.entryOf d, s.cabinOf d with
  | some e, some c =>
    if st = .inHold then s.post (.berth d.berth) (.bagToHold c.number e.index e.serial j c.inHold)
    else
      (s.post (.berth d.berth) (.bagDelivered c.number e.index e.serial j c.delivered c.expected)).postCabin d.berth c
  | _, _ => s

/-- R76: the arrival of carrier `k` with identity `d` in lane `j`, whose owner and function at that moment `x` holds:
the entry leaves ON_LOOP, the identity is dropped, the notices are posted, the berth's closing is tested. -/
def State.recordArrival (s : State) (k : Nat) (d : Identity) (j : LaneNo) (x : Lane) : State :=
  let c := s.carrier k
  let st := arrivalState x.function c.disposition
  let s := (s.dropIdentity k st).postArrival d j st
  let s := if x.owner = .berth d.berth then s else s.postLaneArrival k c j x.owner
  s.testClosing d.berth

/-- R129: the hand-off of an arrival, by the first row of Table 7-2 that applies. -/
def State.handArrival (s : State) (k : Nat) (j : LaneNo) (x : Lane) : State :=
  match (s.carrier k).identity with
  | some d => s.recordArrival k d j x
  | none => if x.function = .stray then s.takeStray k j else s.postLaneArrival k (s.carrier k) j x.owner

/-! ## Successful diverts -/

/-- A lane after a divert lands a bag: the units pass from inbound to fill (R106, R128). -/
def Lane.landed (x : Lane) (units : Nat) : Lane :=
  { x with inbound := x.inbound - units, fill := x.fill + units }

/-- A diverter's score lowered by one, not below 0 (R132). -/
def Diverter.lowered (v : Diverter) : Diverter :=
  { v with score := v.score - 1 }

/-- R128 for a carrier FIRED at the lane. -/
def State.divertDone (s : State) (k : Nat) (j : LaneNo) : State :=
  let s := s.setLane j ((s.lane j).landed (s.carrier k).units)
  let s := s.setDiverter j (s.diverter j).lowered
  let s := s.handArrival k j (s.lane j)
  (s.setCarrier k Carrier.empty).testDrain

/-- DIVERT DONE (R127, R128). -/
def execDivertDone (lane carrier : Nat) (s : State) : Host.Outcome State Fault Refusal :=
  match laneOf lane with
  | none => .next s
  | some j => .next (if (s.carrier carrier).isFiredAt j then s.divertDone carrier j else s)

/-! ## Failed diverts -/

/-- A lane made FAULTED, as LANE FAULT reports it (R133); its owner is read when the notice is posted. -/
structure FaultReport where
  lane : LaneNo
  score : Nat
  carrier : Nat
  cause : DivertCause
  cancelled : Nat
  rechosen : Nat
  fired : Nat
deriving DecidableEq, Repr

/-- What a failed divert leaves to do: the carriers to choose for, and the LANE FAULT to post after the choices. -/
structure Failure where
  state : State
  wants : List Nat
  report : Option FaultReport

/-- A diverter's score raised by 8, not above 31 (R132). -/
def Diverter.raised (v : Diverter) : Diverter :=
  { v with score := raiseTo 31 v.score 8 }

/-- Steps 1 to 3 of R133: the lane becomes FAULTED, its armed entries are cancelled, its tentative targets dropped. -/
def State.faultLane (s : State) (j : LaneNo) : State :=
  let s := s.setLane j { s.lane j with state := .faulted }
  let s := (s.dropTargets (s.diverter j).queue).setDiverter j { s.diverter j with queue := [] }
  s.dropTargets (s.tentativeAt j)

/-- Steps 1 and 2 of R130: back to CARRYING, the target dropped with its units, one try more. -/
def State.takeBack (s : State) (k : Nat) : State :=
  let s := s.dropTarget k
  s.setCarrier k { s.carrier k with state := .carrying, armed := false, tries := raiseTo 2 (s.carrier k).tries 1 }

/-- Step 4 of R130 less the choice: at two tries a DELIVERY or HOLD bag becomes a stray (R101). -/
def State.settleFailed (s : State) (k : Nat) : State :=
  if (s.carrier k).tries < 2 then s
  else
    match (s.carrier k).disposition with
    | some .delivery => s.becomeStray k .divertFail
    | some .hold => s.becomeStray k .divertFail
    | _ => s

/-- R130 less its choices, for a carrier FIRED at lane `j`. -/
def State.failDivert (s : State) (k : Nat) (j : LaneNo) (cause : DivertCause) : Failure :=
  let s := s.takeBack k
  let s := s.setDiverter j (s.diverter j).raised
  if Config.faultThreshold ≤ (s.diverter j).score ∧ (s.lane j).state ≠ .faulted then
    let armed := (s.diverter j).queue
    let tentative := s.tentativeAt j
    let report : FaultReport :=
      ⟨j, (s.diverter j).score, k, cause, armed.length, tentative.length, (s.firedAt j).length⟩
    ⟨(s.faultLane j).settleFailed k, k :: (armed ++ tentative), some report⟩
  else ⟨s.settleFailed k, [k], none⟩

/-- Carriers of a list in ascending number, each once (R93). -/
def State.ascending (s : State) (ks : List Nat) : List Nat :=
  s.carrierNumbers.filter fun k => ks.contains k

/-- Step 5 of R133: LANE FAULT to the lane's owner and, when that is a berth principal, to HALL. -/
def State.postFault (s : State) (r : FaultReport) : State :=
  let owner := (s.lane r.lane).owner
  s.postOwner owner (.laneFault r.lane owner r.score r.carrier r.cause r.cancelled r.rechosen r.fired)

/-- A failed divert with its choices and its LANE FAULT, for a failure that no ADVANCE brings (R130, R133). -/
def Failure.finish (f : Failure) : State :=
  forEach f.report.toList (fun s r => s.postFault r) (f.state.chooseAll (f.state.ascending f.wants))

/-- DIVERT FAILED (R127, R130). -/
def execDivertFailed (lane carrier : Nat) (s : State) : Host.Outcome State Fault Refusal :=
  match laneOf lane with
  | none => .next s
  | some j => .next (if (s.carrier carrier).isFiredAt j then (s.failDivert carrier j .failed).finish else s)

/-! ## Timeouts -/

/-- The lane at which a FIRED carrier times out: it stands at distance C - K from the lane's diverter (R131). -/
def State.timedOutAt (s : State) (k : Nat) : Option LaneNo :=
  match (s.carrier k).state, (s.carrier k).target with
  | .fired, some j =>
    match (s.lane j).offset with
    | none => none
    | some d => if s.loop.distance k d = s.loop.count - s.loop.commit then some j else none
  | _, _ => none

/-- NO_REPORT_TIMEOUT (R131): the timeout as a row of its own, with its choices; where the condition does not hold it
changes nothing (log 4). -/
def execNoReportTimeout (carrier : Nat) (s : State) : Host.Outcome State Fault Refusal :=
  match s.timedOutAt carrier with
  | none => .next s
  | some j => .next (s.failDivert carrier j .noReport).finish

/-- R131 at an ADVANCE: the timeouts it brings, in ascending carrier number (log 6), their choices and notices being
left to the end of the advance. -/
def State.timeouts (s : State) : Failure × List FaultReport :=
  s.carrierNumbers.foldl
    (fun acc k =>
      match acc.1.state.timedOutAt k with
      | none => acc
      | some j =>
        let f := acc.1.state.failDivert k j .noReport
        (⟨f.state, acc.1.wants ++ f.wants, none⟩, acc.2 ++ f.report.toList))
    (⟨s, [], none⟩, [])

/-! ## Firing and arming -/

/-- The distance of carrier `k` from lane `j`'s diverter (R6; a lane without an offset holds no armed or FIRED carrier:
log 23). -/
def State.distanceTo (s : State) (k : Nat) (j : LaneNo) : Nat :=
  s.loop.distance k ((s.lane j).offset.getD 0)

/-- R126 at one lane: the head of its queue, at distance 0, is fired. -/
def State.fireAt (s : State) (j : LaneNo) : State :=
  match (s.diverter j).queue with
  | [] => s
  | k :: rest =>
    if s.distanceTo k j = 0 then
      let s := (s.handOver (.fire j k)).setDiverter j { s.diverter j with queue := rest }
      s.setCarrier k { s.carrier k with armed := false, state := .fired }
    else s

/-- R126: every lane, in ascending number (R184). -/
def State.fireAll (s : State) : State :=
  forEach allLanes (fun s j => s.fireAt j) s

/-- R125 for one carrier: in RUN and DRAINING, CARRYING with a tentative target at distance K - 1. A target chosen in
response to the same ADVANCE is not there yet, since that advance's choices follow (R94). -/
def State.armOne (s : State) (k : Nat) : State :=
  match (s.carrier k).target with
  | none => s
  | some j =>
    if (s.carrier k).isTentativeAt j && (s.lane j).offset.isSome && s.distanceTo k j == s.loop.commit - 1 then
      (s.setCarrier k { s.carrier k with armed := true }).setDiverter j
        { s.diverter j with queue := (s.diverter j).queue ++ [k] }
    else s

/-- R125: every target that the advance brings to the commit point. -/
def State.armAll (s : State) : State :=
  if s.mode.diverts then forEach s.carrierNumbers (fun s k => s.armOne k) s else s

/-! ## Query -/

/-- An armed entry: carrier, distance, size, tries (R135). -/
def State.armedBytes (s : State) (j : LaneNo) (k : Nat) : List Byte :=
  bytesOf 2 k ++ bytesOf 2 (s.distanceTo k j) ++ sizeBytes (s.carrier k).size ++ bytesOf 1 (s.carrier k).tries

/-- A FIRED carrier: carrier, distance, tries (R135). -/
def State.firedBytes (s : State) (j : LaneNo) (k : Nat) : List Byte :=
  bytesOf 2 k ++ bytesOf 2 (s.distanceTo k j) ++ bytesOf 1 (s.carrier k).tries

/-- One lane in the reply of QUERY DIVERSION, each list led by its length (R135, log 13). -/
def queryDiversionBytes (s : State) (j : LaneNo) : List Byte :=
  bytesOrFF 2 (s.lane j).offset ++ bytesOf 1 (s.lane j).state.code ++ bytesOf 1 (s.diverter j).score
    ++ bytesOf 1 (s.diverter j).queue.length ++ ((s.diverter j).queue.map (s.armedBytes j)).flatten
    ++ bytesOf 2 (s.firedAt j).length ++ ((s.firedAt j).map (s.firedBytes j)).flatten

/-- QUERY DIVERSION (R135), a lane or all of them. -/
def queryDiversionBody (lane : Option Nat) (_ : Principal) (s : State) : Taken :=
  match lane with
  | none => .ok s (allLanes.map (queryDiversionBytes s)).flatten
  | some n =>
    match laneOf n with
    | none => .refused .badValue
    | some j => .ok s (queryDiversionBytes s j)

def execQueryDiversion (link : LinkNo) (tag : Byte) (lane : Option Nat) (s : State) :
    Host.Outcome State Fault Refusal :=
  .next (s.takeCommand link tag 0x26 (queryDiversionBody lane))

end Sys2Proof.Machine
end

