-- ==== Sys2Proof/Machine/Induction.lean ====
section
/-! DEFINITION. Chapter 2, the Induction Controller: presentation and withdrawal (R23, R24), the four steps of a point at an
ADVANCE (R25): grant (R26 to R28), lapse, wait, reservation (R29, R30); the limits (R31, R32), CONFIGURE INDUCTION POINT
(R33) and QUERY INDUCTION (R34). -/

namespace Sys2Proof.Machine

/-! ## Presentation and withdrawal -/

/-- A point takes part in induction when it is configured and enabled (R21). -/
def Point.takesPart (x : Point) : Bool :=
  x.offset.isSome && x.enabled

/-- A waiting record as an accepted presentation makes it: a ticket only at the marked point (R23). -/
def Point.presented (x : Point) (size : Size) (ticket : Nat) : Point :=
  { x with waiting := some ⟨size, if x.mark then ticketOf ticket else none, 0⟩ }

/-- R23 for a point 0..5: the first check that fails gives the REJECT order. -/
def State.present (s : State) (i : PointNo) (size : SizeClass) (ticket : Nat) : State :=
  if !(s.point i).takesPart then s.handOver (.reject i .closed)
  else
    match bagSizeOf size with
    | none => s.handOver (.reject i .oog)
    | some z =>
      if (s.point i).waiting.isSome then s.handOver (.reject i .busy)
      else s.setPoint i ((s.point i).presented z ticket)

/-- BAG PRESENTED (R23). -/
def execBagPresented (point : Nat) (size : SizeClass) (ticket : Nat) (s : State) : Host.Outcome State Fault Refusal :=
  match pointOf point with
  | none => .next s
  | some i => .next (s.present i size ticket)

/-- A carrier record without a reservation for point `i`. -/
def Carrier.unreserve (c : Carrier) (i : PointNo) : Carrier :=
  { c with reservation := if c.reservation = some i then none else c.reservation }

/-- The reservation of a point ends (R30). -/
def State.endReservation (s : State) (i : PointNo) : State :=
  s.setCarriers { s.carriers with table := s.carriers.table.map (·.unreserve i) }

/-- The waiting record of a point is removed. -/
def State.removeWaiting (s : State) (i : PointNo) : State :=
  s.setPoint i { s.point i with waiting := none }

/-- R24 for a point 0..5. -/
def State.withdrawBag (s : State) (i : PointNo) : State :=
  if (s.point i).waiting.isSome then (s.removeWaiting i).endReservation i else s

/-- BAG WITHDRAWN (R24). -/
def execBagWithdrawn (point : Nat) (s : State) : Host.Outcome State Fault Refusal :=
  match pointOf point with
  | none => .next s
  | some i => .next (s.withdrawBag i)

/-! ## The grant -/

/-- What the points have done so far at an ADVANCE: the state, the carriers granted, and the carriers whose coded grant
asks a choice (R28, R93). -/
structure Granting where
  state : State
  granted : List Nat
  wants : List Nat

/-- R26: carrier `k` is granted to the bag at point `i`. -/
def State.grants (s : State) (i : PointNo) (k : Nat) : Bool :=
  s.mode == .run && s.carriers.loaded < s.induction.loadLimit && (s.carrier k).state == .empty
    && ((s.carrier k).reservation == none || (s.carrier k).reservation == some i)

/-- An EMPTY carrier loaded with an ordinary bag (R27). -/
def loadedCarrier (i : PointNo) (w : Waiting) (ticket : Option Nat) : Carrier :=
  { Carrier.empty with state := .unread, size := some w.size, origin := some i, ticket := ticket }

/-- The coded case of Table 2-3: the carrier is CARRYING with the record's identity and the disposition that its cabin's
held flag gives, and the entry is ON_LOOP; the choice follows. -/
def State.grantCoded (s : State) (i : PointNo) (k : Nat) (w : Waiting) (d : Identity) : State :=
  (s.setCarrier k { loadedCarrier i w none with state := .carrying }).matchEntry k d

/-- R28: the grant of a ticketed bag at the marked point, with whether it asks a choice (Table 2-3). -/
def State.grantTicketed (s : State) (i : PointNo) (k : Nat) (w : Waiting) (t : Nat) : State × Bool :=
  match s.coding.findReinject t with
  | none => (s.setCarrier k (loadedCarrier i w none), false)
  | some r =>
    match s.codedIdentity r with
    | none => ((s.consume r).setCarrier k (loadedCarrier i w (some t)), false)
    | some d => ((s.consume r).grantCoded i k w d, true)

/-- The carrier part of a grant, with whether it asks a choice (R27, R28). -/
def State.loadBag (s : State) (i : PointNo) (k : Nat) (w : Waiting) : State × Bool :=
  match (s.point i).mark, w.ticket with
  | true, some t => s.grantTicketed i k w t
  | _, _ => (s.setCarrier k (loadedCarrier i w none), false)

/-- R27: a grant: the GRANT order, the carrier loaded, the point's reservation ended, its waiting record removed. -/
def State.grant (s : State) (i : PointNo) (k : Nat) (w : Waiting) : State × Bool :=
  (((s.handOver (.grant i k)).endReservation i).removeWaiting i).loadBag i k w

/-! ## Reservations -/

/-- The better of the carrier found so far and carrier `k`, for a reservation at offset `d`: EMPTY, not reserved, at the
smallest distance above 0 (R29). -/
def State.nearerEmpty (s : State) (d : Nat) (best : Option Nat) (k : Nat) : Option Nat :=
  if (s.carrier k).state == .empty && (s.carrier k).reservation == none && 0 < s.loop.distance k d then
    match best with
    | none => some k
    | some b => if s.loop.distance k d < s.loop.distance b d then some k else some b
  else best

/-- The carrier that R29 reserves for a station at offset `d`. -/
def State.reservable (s : State) (d : Nat) : Option Nat :=
  s.carrierNumbers.foldl (s.nearerEmpty d) none

/-- R29: the point tries to reserve a carrier. -/
def State.reserve (s : State) (i : PointNo) (d : Nat) : State :=
  match s.reservable d with
  | none => s
  | some k => s.setCarrier k { s.carrier k with reservation := some i }

/-- The point holds a reservation (R22). -/
def State.holdsReservation (s : State) (i : PointNo) : Bool :=
  s.carriers.table.any fun c => c.reservation == some i

/-- Steps 2 to 4 of R25, for a point whose bag was not granted. -/
def State.waitOn (s : State) (i : PointNo) (d k : Nat) (w : Waiting) : State :=
  let s := if (s.carrier k).reservation = some i then s.setCarrier k { s.carrier k with reservation := none } else s
  let wait := raiseTo 255 w.wait 1
  let s := s.setPoint i { s.point i with waiting := some { w with wait := wait } }
  if s.mode == .run && s.induction.starveLimit ≤ wait && !s.holdsReservation i then s.reserve i d else s

/-- R25 at one point. -/
def Granting.pointStep (g : Granting) (i : PointNo) : Granting :=
  let s := g.state
  match (s.point i).enabled, (s.point i).offset, (s.point i).waiting with
  | true, some d, some w =>
    let k := s.loop.carrierAt d
    if s.grants i k then
      let r := s.grant i k w
      ⟨r.1, g.granted ++ [k], if r.2 then g.wants ++ [k] else g.wants⟩
    else { g with state := s.waitOn i d k w }
  | _, _, _ => g

/-- R25: every point, in ascending number. -/
def State.induct (s : State) : Granting :=
  allPoints.foldl Granting.pointStep ⟨s, [], []⟩

/-! ## Commands -/

/-- SET LOAD LIMIT (R31). -/
def setLoadLimitBody (limit : Nat) (p : Principal) (s : State) : Taken :=
  if p ≠ .hall then .refused .notPermitted
  else
    let n := clampTo 1 s.loop.count limit
    .ok (s.setInduction { s.induction with loadLimit := n }) (bytesOf 2 n)

def execSetLoadLimit (link : LinkNo) (tag : Byte) (limit : Nat) (s : State) : Host.Outcome State Fault Refusal :=
  .next (s.takeCommand link tag 0x05 (setLoadLimitBody limit))

/-- SET STARVE LIMIT (R32). -/
def setStarveLimitBody (limit : Nat) (p : Principal) (s : State) : Taken :=
  if p ≠ .hall then .refused .notPermitted
  else
    let n := clampTo 8 255 limit
    .ok (s.setInduction { s.induction with starveLimit := n }) (bytesOf 1 n)

def execSetStarveLimit (link : LinkNo) (tag : Byte) (limit : Nat) (s : State) : Host.Outcome State Fault Refusal :=
  .next (s.takeCommand link tag 0x06 (setStarveLimitBody limit))

/-- A point without its mark; a ticket in its waiting record is dropped (R33). -/
def Point.unmark (x : Point) : Point :=
  { x with mark := false, waiting := x.waiting.map fun w => { w with ticket := none } }

/-- R33: the mark is removed from every point but `i`. -/
def State.unmarkOthers (s : State) (i : PointNo) : State :=
  forEach allPoints (fun s q => if q ≠ i ∧ (s.point q).mark then s.setPoint q (s.point q).unmark else s) s

/-- R33: a configured item stored at a point, a ticket in its record being dropped with the mark. -/
def Point.configured (x : Point) (offset : Option Nat) (enabled mark : Bool) : Point :=
  let x := if mark then { x with mark := true } else x.unmark
  { x with offset := offset, enabled := enabled }

/-- R33: a point that no longer takes part gives up its waiting bag. -/
def State.turnAway (s : State) (i : PointNo) : State :=
  if !(s.point i).takesPart && (s.point i).waiting.isSome then
    ((s.removeWaiting i).endReservation i).handOver (.reject i .closed)
  else s

/-- The number of the point that carries the mark, or none (R33). -/
def State.markedPoint (s : State) : Option PointNo :=
  allPoints.find? fun i => (s.point i).mark

/-- The configuration of a point as a reply gives it: offset, enabled, mark (R33, R34). -/
def Point.bytes (x : Point) : List Byte :=
  bytesOrFF 2 x.offset ++ flagByte x.enabled ++ flagByte x.mark

/-- Another configured point has this offset (R33). -/
def State.offsetTaken (s : State) (i : PointNo) (offset : Option Nat) : Bool :=
  offset.isSome && allPoints.any fun q => q != i && (s.point q).offset == offset

/-- CONFIGURE INDUCTION POINT (R33). -/
def configureInductionPointBody (point : Nat) (offset : Option Nat) (enabled mark : Bool) (p : Principal) (s : State) :
    Taken :=
  if p ≠ .hall then .refused .notPermitted
  else
    match pointOf point with
    | none => .refused .badValue
    | some i =>
      let x := s.point i
      if !isOffset s.loop.count offset then .refused .badValue
      else if s.offsetTaken i offset then .refused .duplicate
      else if enabled ∧ offset = none then .refused .notConfigured
      else if s.mode ≠ .setup ∧ ¬(offset = x.offset ∧ mark = x.mark) then .refused .wrongMode
      else
        let s := if mark then s.unmarkOthers i else s
        let s := (s.setPoint i ((s.point i).configured offset enabled mark)).turnAway i
        .ok s ((s.point i).bytes ++ bytesOrFF 1 (s.markedPoint.map Fin.val))

def execConfigureInductionPoint (link : LinkNo) (tag : Byte) (point : Nat) (offset : Option Nat) (enabled mark : Bool)
    (s : State) : Host.Outcome State Fault Refusal :=
  .next (s.takeCommand link tag 0x04 (configureInductionPointBody point offset enabled mark))

/-! ## Query -/

/-- A waiting record's ticket as a principal is given it: withheld from a berth principal (R34). R34 does not say how a
record without one is reported to a berth principal: as absent, not as withheld (DESIGN CHOICE, log 44). -/
def Principal.shownTicket (p : Principal) (t : Option Nat) : Reported Nat :=
  match t with
  | none => .absent
  | some n => if p = .hall then .present n else .withheld

/-- A waiting record: presence, size, wait count, ticket (R34). -/
def waitingBytes (p : Principal) (w : Option Waiting) : List Byte :=
  groupBytes 5 (w.map fun w => bytesOf 1 w.size.code ++ bytesOf 1 w.wait
    ++ reportedBytes 2 (bytesOf 2) (p.shownTicket w.ticket))

/-- The carrier reserved for a point (R34). -/
def State.reservedFor (s : State) (i : PointNo) : Option Nat :=
  (s.carriersWith fun c => c.reservation == some i).head?

/-- The reply data of QUERY INDUCTION (R34). -/
def queryInductionData (p : Principal) (s : State) : List Byte :=
  bytesOf 2 s.induction.loadLimit ++ bytesOf 1 s.induction.starveLimit ++ bytesOf 2 s.carriers.loaded
    ++ (allPoints.map fun i => (s.point i).bytes).flatten
    ++ (allPoints.map fun i => waitingBytes p (s.point i).waiting).flatten
    ++ (allPoints.map fun i => bytesOrFF 2 (s.reservedFor i)).flatten

/-- QUERY INDUCTION (R34). -/
def execQueryInduction (link : LinkNo) (tag : Byte) (s : State) : Host.Outcome State Fault Refusal :=
  .next (s.takeCommand link tag 0x07 fun p s => .ok s (queryInductionData p s))

end Sys2Proof.Machine
end

