-- ==== Sys2Proof/Machine/Reading.lean ====
section
/-! DEFINITION. Chapter 3, the Read Station Controller: poll orders (R41), windows (R39, R40, R42 to R44), the tally (R46),
head scoring and suspension (R48 to R50), its commands (R37, R38, R51) and QUERY READ STATION (R52). -/

namespace Sys2Proof.Machine

/-! ## Heads and poll orders -/

/-- The record of a head of a station. -/
def Station.head (x : Station) (h : Nat) : HeadRecord :=
  (x.headRecords[h]?).getD HeadRecord.clear

def Station.setHead (x : Station) (h : Nat) (r : HeadRecord) : Station :=
  { x with headRecords := x.headRecords.setIfInBounds h r }

/-- The unsuspended heads of a station, ascending. -/
def Station.polled (x : Station) : List Nat :=
  (List.range x.heads).filter fun h => !(x.head h).suspended

/-- The cycle of R41: plain, or interleaved with the unsuspended priority heads. -/
def Station.cycle (x : Station) : List Nat :=
  let first := x.polled.filter (x.priority.contains ·)
  let others := x.polled.filter (!x.priority.contains ·)
  if first.isEmpty || others.isEmpty then x.polled else (others.map fun h => first ++ [h]).flatten

/-- The poll order of a window: the first W entries of the repeated cycle (R41). -/
def Station.pollOrder (x : Station) : List Nat :=
  (List.range x.polls).map fun i => x.cycle.getD (i % x.cycle.length) 0

/-! ## The window -/

/-- R42: the poll number is raised and the next head of the window's order is polled. -/
def State.sendPoll (s : State) (n : StationNo) (w : Window) : State :=
  let number := nextPollNumber (s.station n).pollNumber
  let head := w.order.getD w.answers.length 0
  let s := s.setStation n
    { s.station n with pollNumber := number, window := some { w with outstanding := some ⟨head, number⟩ } }
  s.handOver (.poll n head number)

/-- A window as it opens on carrier `k`, before its first poll (R39, R40). -/
def State.freshWindow (s : State) (n : StationNo) (k : Nat) : Window :=
  let x := s.station n
  ⟨k, (s.carrier k).state, x.polls, x.votes, x.pollOrder, [], none⟩

/-- R40: a window opens on carrier `k` and the first poll is sent. -/
def State.openWindow (s : State) (n : StationNo) (k : Nat) : State :=
  s.sendPoll n (s.freshWindow n k)

/-- R46: the outcome of the answers in hand, for a least count `votes`. -/
def tally (answers : List Answer) (votes : Nat) : ReadOutcome :=
  let decodes := answers.filterMap (·.result)
  let m := (decodes.map fun t => decodes.count t).foldl max 0
  match decodes.filter fun t => decodes.count t == m with
  | [] => .noRead
  | t :: rest => if rest.any (· != t) then .ambiguous else if m < votes then .weak else .accepted t

/-- R48 for one answer: a head's score after an answer of a window that accepted `t`. -/
def HeadRecord.scored (r : HeadRecord) (t : Tag) : Option Tag → HeadRecord
  | none => { r with score := raiseTo 255 r.score 2 }
  | some u => if u = t then { r with score := r.score - 1 } else { r with score := raiseTo 255 r.score 8 }

/-- R48: every answer in hand, in the order taken. -/
def Station.scored (x : Station) (answers : List Answer) (t : Tag) : Station :=
  answers.foldl (fun x a => x.setHead a.head ((x.head a.head).scored t a.result)) x

/-- R49 for one head of a station, with HEAD DEGRADED (R50). -/
def State.judgeHead (s : State) (n : StationNo) (h : Nat) : State :=
  let x := s.station n
  let r := x.head h
  if r.suspended then s
  else if Config.headThreshold ≤ r.score then
    if x.polled.any (· != h) then s.setStation n (x.setHead h { r with suspended := true, degraded := false })
    else if r.degraded then s
    else (s.setStation n (x.setHead h { r with degraded := true })).post .hall (.headDegraded n h r.score)
  else s.setStation n (x.setHead h { r with degraded := false })

/-- R48 and R49 after a window of the station that accepted `t`. -/
def State.scoreHeads (s : State) (n : StationNo) (answers : List Answer) (t : Tag) : State :=
  let s := s.setStation n ((s.station n).scored answers t)
  forEach (List.range (s.station n).heads) (fun s h => s.judgeHead n h) s

/-- A window closes: it leaves the station, its outcome goes to the Route Selector (R47), and an ACCEPTED one scores the
heads; the choice is the caller's. -/
def State.closeWindow (s : State) (n : StationNo) (w : Window) : State :=
  let o := tally w.answers w.votes
  let s := s.setStation n { s.station n with window := none }
  let s := s.takeOutcome w.carrier o
  match o with
  | .accepted t => s.scoreHeads n w.answers t
  | .noRead => s
  | .weak => s
  | .ambiguous => s

/-- R43 for an answer that its station takes: it joins the answers in hand; at W answers the window closes, with its
choice, else the next head is polled. -/
def State.takeAnswer (s : State) (n : StationNo) (w : Window) (head : Nat) (result : Option Tag) : State :=
  let w := { w with answers := w.answers ++ [⟨head, result⟩], outstanding := none }
  if w.polls ≤ w.answers.length then
    if (s.carrier w.carrier).awaitsRead then (s.closeWindow n w).chooseTarget w.carrier else s.closeWindow n w
  else s.sendPoll n w

/-- POLL ANSWER (R43); one that matches no outstanding poll is discarded. -/
def execPollAnswer (station head pollNumber ship serial : Nat) (s : State) : Host.Outcome State Fault Refusal :=
  match stationOf station with
  | none => .next s
  | some n =>
    match (s.station n).window with
    | none => .next s
    | some w =>
      if w.outstanding = some ⟨head, pollNumber⟩ then .next (s.takeAnswer n w head (tagOf ship serial)) else .next s

/-! ## Windows at an ADVANCE -/

/-- R44: every open window is closed; with the carriers that were given an outcome. R40 and R44 give no order among
stations: ascending station number (DESIGN CHOICE, log 45). -/
def State.closeWindows (s : State) : State × List Nat :=
  allStations.foldl
    (fun acc n =>
      match (acc.1.station n).window with
      | none => acc
      | some w =>
        (acc.1.closeWindow n w, acc.2 ++ if (acc.1.carrier w.carrier).awaitsRead then [w.carrier] else []))
    (s, [])

/-- R40 at one station: the carrier at it gets a window, unless it was granted, or had a window closed, at this same
advance. -/
def State.considerWindow (s : State) (excluded : List Nat) (n : StationNo) : State :=
  match (s.station n).enabled, (s.station n).offset with
  | true, some d =>
    let k := s.loop.carrierAt d
    if s.mode.sorts && (s.carrier k).awaitsRead && !excluded.contains k then s.openWindow n k else s
  | _, _ => s

/-- R40: every station, in ascending number (R184). -/
def State.openWindows (s : State) (excluded : List Nat) : State :=
  forEach allStations (fun s n => s.considerWindow excluded n) s

/-! ## Commands -/

/-- A priority set as it is stored: its heads in ascending number, each once (log 14). -/
def canonicalSet (heads : List Nat) : List Nat :=
  (List.range 8).filter (heads.contains ·)

/-- A set of heads as a reply gives it: a count and the heads (R180). -/
def headSetBytes (heads : List Nat) : List Byte :=
  bytesOf 1 heads.length ++ (heads.map (bytesOf 1)).flatten

/-- The configuration of a station as a reply gives it, in the order of Table 3-1. R35 and R52 name the poll number beside
the configuration and Table 3-1 within it: that the reply of CONFIGURE READ STATION (R37) holds it too is a DESIGN CHOICE
(log 55). -/
def Station.bytes (x : Station) : List Byte :=
  bytesOrFF 2 x.offset ++ flagByte x.enabled ++ bytesOf 1 x.heads ++ headSetBytes x.priority ++ bytesOf 1 x.polls
    ++ bytesOf 1 x.votes ++ bytesOf 1 x.pollNumber

/-- A station with its items stored: head records return to their power-on values when the offset or the head count
changes, and an open window is abandoned when the station is disabled (R37). -/
def Station.configured (x : Station) (offset : Option Nat) (heads : Nat) (priority : List Nat) (enabled : Bool) :
    Station :=
  { x with
    offset := offset
    heads := heads
    priority := priority
    enabled := enabled
    headRecords := if x.offset = offset ∧ x.heads = heads then x.headRecords else Vector.replicate 8 HeadRecord.clear
    window := if enabled then x.window else none }

/-- Another configured station has this offset (R37). -/
def State.stationOffsetTaken (s : State) (n : StationNo) (offset : Option Nat) : Bool :=
  offset.isSome && allStations.any fun m => m != n && (s.station m).offset == offset

/-- Another station is configured and enabled (R37). -/
def State.otherStationReads (s : State) (n : StationNo) : Bool :=
  allStations.any fun m => m != n && (s.station m).enabled && (s.station m).offset.isSome

/-- CONFIGURE READ STATION (R37). -/
def configureReadStationBody (station : Nat) (offset : Option Nat) (heads : Nat) (priority : List Nat) (enabled : Bool)
    (p : Principal) (s : State) : Taken :=
  if p ≠ .hall then .refused .notPermitted
  else
    match stationOf station with
    | none => .refused .badValue
    | some n =>
      let x := s.station n
      let chosen := canonicalSet priority
      if !isOffset s.loop.count offset then .refused .badValue
      else if !(1 ≤ heads && heads ≤ 8) then .refused .badValue
      else if !(priority.length ≤ 4 && priority.all (· < heads)) then .refused .badValue
      else if s.stationOffsetTaken n offset then .refused .duplicate
      else if enabled ∧ offset = none then .refused .notConfigured
      else if s.mode ≠ .setup ∧ ¬(offset = x.offset ∧ heads = x.heads ∧ chosen = x.priority) then .refused .wrongMode
      else if s.mode ≠ .setup ∧ !enabled ∧ !s.otherStationReads n then .refused .badConfig
      else
        let y := x.configured offset heads chosen enabled
        .ok (s.setStation n y) y.bytes

def execConfigureReadStation (link : LinkNo) (tag : Byte) (station : Nat) (offset : Option Nat) (heads : Nat)
    (priority : List Nat) (enabled : Bool) (s : State) : Host.Outcome State Fault Refusal :=
  .next (s.takeCommand link tag 0x08 (configureReadStationBody station offset heads priority enabled))

/-- SET READ VOTING (R38). -/
def setReadVotingBody (station polls votes : Nat) (p : Principal) (s : State) : Taken :=
  if p ≠ .hall then .refused .notPermitted
  else
    match stationOf station with
    | none => .refused .badValue
    | some n =>
      let w := clampTo 1 16 polls
      let v := min w (clampTo 1 8 votes)
      .ok (s.setStation n { s.station n with polls := w, votes := v }) (bytesOf 1 w ++ bytesOf 1 v)

def execSetReadVoting (link : LinkNo) (tag : Byte) (station polls votes : Nat) (s : State) :
    Host.Outcome State Fault Refusal :=
  .next (s.takeCommand link tag 0x09 (setReadVotingBody station polls votes))

/-- A head record as a reply gives it: score, suspended, degraded (R51, R52). -/
def HeadRecord.bytes (r : HeadRecord) : List Byte :=
  bytesOf 1 r.score ++ flagByte r.suspended ++ flagByte r.degraded

/-- RESTORE HEAD (R51). -/
def restoreHeadBody (station head : Nat) (p : Principal) (s : State) : Taken :=
  if p ≠ .hall then .refused .notPermitted
  else
    match stationOf station with
    | none => .refused .badValue
    | some n =>
      let x := s.station n
      if x.offset = none then .refused .notConfigured
      else if x.heads ≤ head then .refused .badValue
      else .ok (s.setStation n (x.setHead head HeadRecord.clear)) HeadRecord.clear.bytes

def execRestoreHead (link : LinkNo) (tag : Byte) (station head : Nat) (s : State) :
    Host.Outcome State Fault Refusal :=
  .next (s.takeCommand link tag 0x0A (restoreHeadBody station head))

/-! ## Query -/

/-- An open window as QUERY READ STATION gives it: carrier, W, V, answers in hand, head polled (R52). -/
def Window.bytes (w : Window) : List Byte :=
  bytesOf 2 w.carrier ++ bytesOf 1 w.polls ++ bytesOf 1 w.votes ++ bytesOf 1 w.answers.length
    ++ bytesOrFF 1 (w.outstanding.map (·.head))

/-- The reply data of QUERY READ STATION (R52). -/
def queryReadStationData (s : State) (n : StationNo) : List Byte :=
  let x := s.station n
  x.bytes ++ ((List.range x.heads).map fun h => (x.head h).bytes).flatten ++ groupBytes 6 (x.window.map Window.bytes)

/-- QUERY READ STATION (R52). -/
def queryReadStationBody (station : Nat) (_ : Principal) (s : State) : Taken :=
  match stationOf station with
  | none => .refused .badValue
  | some n => .ok s (queryReadStationData s n)

def execQueryReadStation (link : LinkNo) (tag : Byte) (station : Nat) (s : State) :
    Host.Outcome State Fault Refusal :=
  .next (s.takeCommand link tag 0x0B (queryReadStationBody station))

end Sys2Proof.Machine
end

