-- ==== Sys2Proof/Machine/Tracker.lean ====
section
/-! DEFINITION. Chapter 1, the Loop Tracker: its cases of an ADVANCE (R2, R4), slips (R13 to R17), CONFIGURE LOOP (R18),
QUERY POSITION (R19) and QUERY CARRIER (R20). -/

namespace Sys2Proof.Machine

/-! ## The cases of an ADVANCE -/

/-- The expected position of an ADVANCE (R2). -/
def Loop.expected (l : Loop) : Nat :=
  (l.position + 1) % l.count

/-- P, with the revolution count raised, at a home crossing or a slip (R2). -/
def Loop.atHome (l : Loop) : Loop :=
  { l with position := 0, revolutions := nextRevolution l.revolutions }

/-- R4: a home crossing without its mark: the home-missed count rises and HOME MISSED goes to HALL. -/
def State.missHome (s : State) : State :=
  let n := raiseTo 255 s.loop.homeMissed 1
  (s.setLoop { s.loop.atHome with homeMissed := n }).post .hall (.homeMissed n)

/-- R14 and R15: the effects of a slip on carriers, armed queues, the pending-tag list, windows and CLOSING berths. -/
def State.loseTrack (s : State) : State :=
  s.unverifyAll.emptyQueues.emptyPendingTags.abandonWindows.testAllClosing

/-- The SLIP notice of a slip taken from this state (R16). -/
def State.slipNotice (s : State) : NoticeBody :=
  .slip s.loop.expected s.losers.length (s.carriers.table.countP fun c => c.state == .fired) (0 < s.carriers.unverified)

/-- R17: the Mode Controller enters HALTED from RUN, HOLD or DRAINING. -/
def State.halt (s : State) : State :=
  if s.mode.sorts then s.changeMode .halted .secondSlip else s

/-- R13: a slip; one that finds a carrier UNVERIFIED is a second slip (R17). -/
def State.slip (s : State) : State :=
  let notice := s.slipNotice
  let second := 0 < s.carriers.unverified
  let s := s.setLoop { s.loop.atHome with slips := raiseTo 255 s.loop.slips 1 }
  let s := s.loseTrack.post .hall notice
  if second then s.halt else s

/-- A home-mark byte of 00h is absent, any other present (R2). -/
def isHomeMark (b : Byte) : Bool :=
  b != 0

/-- Table 1-2: the Loop Tracker takes an ADVANCE, with whether it is a home crossing. -/
def State.track (s : State) (mark : Bool) : State × Bool :=
  match s.loop.expected, mark with
  | 0, true => (s.setLoop s.loop.atHome, true)
  | 0, false => (s.missHome, true)
  | n + 1, false => (s.setLoop { s.loop with position := n + 1 }, false)
  | _ + 1, true => (s.slip, false)

/-! ## Configuration -/

/-- Every offset that some station has been given: points, read stations, lanes (R18). -/
def State.offsets (s : State) : List Nat :=
  allPoints.filterMap (fun i => (s.point i).offset) ++ allStations.filterMap (fun n => (s.station n).offset)
    ++ allLanes.filterMap fun j => (s.lane j).offset

/-- The table and P after CONFIGURE LOOP: remade when C changes (R8, R18). -/
def State.resize (s : State) (count : Nat) : State :=
  if count = s.loop.count then s
  else (s.setLoop { s.loop with count := count, position := 0 }).setCarriers (CarrierTable.allEmpty count)

/-- CONFIGURE LOOP (R18); the load limit is clamped to the new C (R31). K is one byte on the wire: Table 11-1 does not name
the commit distance (DESIGN CHOICE, log 49). -/
def configureLoopBody (count commit : Nat) (p : Principal) (s : State) : Taken :=
  if p ≠ .hall then .refused .notPermitted
  else if s.mode ≠ .setup then .refused .wrongMode
  else if !(64 ≤ count && count ≤ 1024) then .refused .badValue
  else if s.offsets.any (count ≤ ·) then .refused .badValue
  else
    let k := clampTo 2 15 commit
    let s := s.resize count
    let s := s.setLoop { s.loop with commit := k }
    let s := s.setInduction { s.induction with loadLimit := min s.induction.loadLimit count }
    .ok s (bytesOf 2 count ++ bytesOf 1 k)

def execConfigureLoop (link : LinkNo) (tag : Byte) (count commit : Nat) (s : State) : Host.Outcome State Fault Refusal :=
  .next (s.takeCommand link tag 0x01 (configureLoopBody count commit))

/-! ## Queries -/

/-- The reply data of QUERY POSITION (R19), K in one byte (log 49). -/
def queryPositionData (s : State) : List Byte :=
  bytesOf 2 s.loop.position ++ bytesOf 2 s.loop.count ++ bytesOf 1 s.loop.commit ++ bytesOf 2 s.loop.revolutions
    ++ bytesOf 1 s.loop.slips ++ bytesOf 1 s.loop.homeMissed ++ bytesOf 2 s.carriers.loaded
    ++ bytesOf 2 s.carriers.unverified

/-- QUERY POSITION (R19). -/
def execQueryPosition (link : LinkNo) (tag : Byte) (s : State) : Host.Outcome State Fault Refusal :=
  .next (s.takeCommand link tag 0x02 fun _ s => .ok s (queryPositionData s))

/-- An identity as a principal is shown it: withheld when its berth is the other berth (R20). -/
def Principal.shownIdentity (p : Principal) (d : Option Identity) : Reported Identity :=
  match d with
  | none => .absent
  | some d => if p = .hall ∨ p = .berth d.berth then .present d else .withheld

/-- A candidate as a principal is shown it: withheld unless its ship code is the one that the principal's berth holds
(R20). -/
def State.shownCandidate (s : State) (p : Principal) (t : Option Tag) : Reported Tag :=
  match t, p with
  | none, _ => .absent
  | some t, .hall => .present t
  | some t, .berth b => if (s.berth b).state.ship = some t.ship then .present t else .withheld

/-- A carrier record in the order of Table 1-4, as a principal is shown it (R20); state, size and disposition take one byte
each (the width is a DESIGN CHOICE: log 39). -/
def State.carrierBytes (s : State) (p : Principal) (c : Carrier) : List Byte :=
  bytesOf 1 c.state.code ++ bytesOrFF 1 (c.reservation.map Fin.val) ++ sizeBytes c.size
    ++ bytesOrFF 1 (c.origin.map Fin.val)
    ++ reportedBytes 3 (fun d => bytesOf 1 d.berth.number ++ bytesOf 2 d.entry) (p.shownIdentity c.identity)
    ++ reportedBytes 4 (fun t => tagBytes (some t)) (s.shownCandidate p c.candidate)
    ++ dispositionBytes c.disposition ++ bytesOrFF 1 (c.target.map Fin.val) ++ flagByte c.armed ++ bytesOf 1 c.laps
    ++ bytesOf 1 c.tries ++ bytesOrZero 2 c.ticket

/-- QUERY CARRIER (R20): the record, the carrier's offset and P. -/
def queryCarrierBody (carrier : Nat) (p : Principal) (s : State) : Taken :=
  if s.loop.count ≤ carrier then .refused .badValue
  else
    .ok s (s.carrierBytes p (s.carrier carrier) ++ bytesOf 2 (s.loop.offsetOf carrier) ++ bytesOf 2 s.loop.position)

def execQueryCarrier (link : LinkNo) (tag : Byte) (carrier : Nat) (s : State) : Host.Outcome State Fault Refusal :=
  .next (s.takeCommand link tag 0x03 (queryCarrierBody carrier))

end Sys2Proof.Machine
end

