-- ==== Sys2Proof/Machine/Advance.lean ====
section
/-! DEFINITION. The ADVANCE event (R2, R3): the Loop Tracker takes it, then the Induction Controller, the Read Station
Controller, the Route Selector and the Diverter Sequencer, in the order in which R3 and R184 list them (log 5). -/

namespace Sys2Proof.Machine

/-- What one ADVANCE leaves to its end: the state, the carriers that ask a choice (R93), the LANE FAULT reports. -/
structure Advance where
  state : State
  wants : List Nat
  reports : List FaultReport

/-- R3 up to the choices: every block acts on the advance, judging positions from the new P. -/
def State.passOn (s : State) (mark : Bool) : Advance :=
  let before := s.carriersWith (·.isLapping)
  let tracked := s.track mark
  let g := tracked.1.induct
  let closed := g.state.closeWindows
  let s := closed.1.openWindows (closed.2 ++ g.granted)
  let s := if tracked.2 then s.countLaps before else s
  let timed := s.timeouts
  let s := timed.1.state.fireAll.armAll
  ⟨s, g.wants ++ closed.2 ++ (if tracked.2 then before else []) ++ timed.1.wants, timed.2⟩

/-- R93: the choices of the advance, together, in ascending carrier number; then the LANE FAULT notices. -/
def Advance.finish (a : Advance) : State :=
  forEach a.reports (fun s r => s.postFault r) (a.state.chooseAll (a.state.ascending a.wants))

/-- ADVANCE (R2, R3). -/
def execAdvance (homeMark : Byte) (s : State) : Host.Outcome State Fault Refusal :=
  .next (s.passOn (isHomeMark homeMark)).finish

end Sys2Proof.Machine
end

