-- ==== Sys2Proof/Machine/Lanes.lean ====
section
/-! DEFINITION. Chapter 6, the Lane Controller: configuration (R105, R107), ownership (R108 to R111), functions and groups
(R112, R113), states (R114 to R117), RESET LANE FAULT (R120), LANE STATE (R121) and QUERY LANE (R122). A lane change
comes first, then the re-choices of R96, then its notice, which shows the lane after them (log 28). -/

namespace Sys2Proof.Machine

/-! ## Shared -/

/-- A lane record as a reply gives it, in the order of Table 6-1. -/
def Lane.bytes (x : Lane) : List Byte :=
  bytesOrFF 2 x.offset ++ bytesOf 1 x.capacity ++ bytesOf 1 x.fill ++ bytesOf 1 x.inbound ++ bytesOf 1 x.owner.code
    ++ bytesOf 1 x.function.code ++ bytesOrFF 1 x.group ++ bytesOf 1 x.state.code

/-- The LANE STATE notice of a lane (R121). -/
def State.laneStateOf (s : State) (j : LaneNo) (cause : LaneCause) (reclaimedFrom : Option Principal) : NoticeBody :=
  let x := s.lane j
  .laneState j x.owner x.function x.group x.state x.fill x.inbound x.capacity cause reclaimedFrom

/-- Post LANE STATE to the lane's owner and, when that is a berth principal, to HALL (R121). -/
def State.postLaneState (s : State) (j : LaneNo) (cause : LaneCause) : State :=
  s.postOwner (s.lane j).owner (s.laneStateOf j cause none)

/-- A lane change that R96 lists: the record is stored, the carriers whose tentative target is the lane are re-chosen,
LANE STATE is posted. -/
def State.changeLane (s : State) (j : LaneNo) (x : Lane) (cause : LaneCause) : State :=
  ((s.setLane j x).rechooseLane j).postLaneState j cause

/-- The count of the carriers that a lane change re-chooses, as a reply gives it. -/
def State.rechosenBytes (s : State) (j : LaneNo) : List Byte :=
  bytesOf 2 (s.tentativeAt j).length

/-- The checks of R108: a lane number 0..39, the lane owned by the issuing principal. -/
def asOwner (p : Principal) (s : State) (lane : Nat) (body : LaneNo → Lane → Taken) : Taken :=
  match laneOf lane with
  | none => .refused .badValue
  | some j => if (s.lane j).owner = p then body j (s.lane j) else .refused .notOwner

/-- A capacity brought to the lane's fill plus inbound when below it, and to 255 when above (R107). -/
def Lane.clampCapacity (x : Lane) (capacity : Nat) : Nat :=
  min 255 (max (x.fill + x.inbound) capacity)

/-! ## Configuration -/

/-- CONFIGURE LANE (R105). -/
def configureLaneBody (lane : Nat) (offset : Option Nat) (capacity : Nat) (p : Principal) (s : State) : Taken :=
  if p ≠ .hall then .refused .notPermitted
  else if s.mode ≠ .setup then .refused .wrongMode
  else
    match laneOf lane with
    | none => .refused .badValue
    | some j =>
      let x := s.lane j
      if !isOffset s.loop.count offset then .refused .badValue
      else if offset = none ∧ x.state ≠ .closed then .refused .inUse
      else
        let y := { x with offset := offset, capacity := x.clampCapacity capacity }
        let s := s.setLane j y
        let s := if x.offset = offset then s else s.setDiverter j { s.diverter j with score := 0 }
        .ok s y.bytes

def execConfigureLane (link : LinkNo) (tag : Byte) (lane : Nat) (offset : Option Nat) (capacity : Nat) (s : State) :
    Host.Outcome State Fault Refusal :=
  .next (s.takeCommand link tag 0x1B (configureLaneBody lane offset capacity))

/-- SET LANE CAPACITY (R107). -/
def setLaneCapacityBody (lane capacity : Nat) (p : Principal) (s : State) : Taken :=
  if p ≠ .hall then .refused .notPermitted
  else
    match laneOf lane with
    | none => .refused .badValue
    | some j =>
      let x := s.lane j
      .ok (s.setLane j { x with capacity := x.clampCapacity capacity }) (bytesOf 1 (x.clampCapacity capacity))

def execSetLaneCapacity (link : LinkNo) (tag : Byte) (lane capacity : Nat) (s : State) :
    Host.Outcome State Fault Refusal :=
  .next (s.takeCommand link tag 0x1C (setLaneCapacityBody lane capacity))

/-! ## Ownership -/

/-- A lane as CLAIM LANE makes it (R109). -/
def Lane.claimed (x : Lane) (b : BerthId) : Lane :=
  { x with owner := .berth b, function := .makeup, group := none, state := .closed }

/-- The refusal that a lane's condition gives a claim, in the order of R109. -/
def Lane.claimRefusal (x : Lane) : Option RefusalCode :=
  if x.offset = none then some .notConfigured
  else if x.owner ≠ .hall then some .owned
  else if x.function = .stray then some .owned
  else if x.state = .faulted then some .faulted
  else if x.state ≠ .closed then some .inUse
  else if x.fill ≠ 0 ∨ x.inbound ≠ 0 then some .notEmpty
  else none

/-- CLAIM LANE (R109). -/
def claimLaneBody (lane : Nat) (p : Principal) (s : State) : Taken :=
  asManifestOwner p s fun b =>
    match laneOf lane with
    | none => .refused .badValue
    | some j =>
      match (s.lane j).claimRefusal with
      | some r => .refused r
      | none =>
        let x := (s.lane j).claimed b
        .ok ((s.setLane j x).postLaneState j .claimLane) x.bytes
where
  /-- The first two checks of R109. -/
  asManifestOwner (p : Principal) (s : State) (body : BerthId → Taken) : Taken :=
    match p with
    | .hall => .refused .notPermitted
    | .berth b => if (s.berth b).state.isOpen then body b else .refused .notConfigured

def execClaimLane (link : LinkNo) (tag : Byte) (lane : Nat) (s : State) : Host.Outcome State Fault Refusal :=
  .next (s.takeCommand link tag 0x1D (claimLaneBody lane))

/-- R110: a lane goes back to the hall, its tentative carriers being re-chosen. -/
def State.returnLane (s : State) (j : LaneNo) : State :=
  (s.setLane j (s.lane j).returned).rechooseLane j

/-- RELEASE LANE (R110): LANE STATE goes to HALL and to the berth principal that owned the lane (R121). HALL is refused with
NOT_PERMITTED before the checks of R108 (DEDUCED from R110's order against R108's "first": log 48). -/
def releaseLaneBody (lane : Nat) (p : Principal) (s : State) : Taken :=
  match p with
  | .hall => .refused .notPermitted
  | .berth b =>
    asOwner p s lane fun j _ =>
      let s' := s.returnLane j
      .ok (s'.postHallAnd b (s'.laneStateOf j .releaseLane none)) ((s'.lane j).bytes ++ s.rechosenBytes j)

def execReleaseLane (link : LinkNo) (tag : Byte) (lane : Nat) (s : State) : Host.Outcome State Fault Refusal :=
  .next (s.takeCommand link tag 0x1E (releaseLaneBody lane))

/-- RECLAIM LANE (R111). -/
def reclaimLaneBody (lane : Nat) (p : Principal) (s : State) : Taken :=
  if p ≠ .hall then .refused .notPermitted
  else
    match laneOf lane with
    | none => .refused .badValue
    | some j =>
      match (s.lane j).owner with
      | .hall => .refused .notOwner
      | .berth b =>
        let s' := s.returnLane j
        .ok (s'.postHallAnd b (s'.laneStateOf j .reclaimLane (some (.berth b))))
          ((s'.lane j).bytes ++ bytesOf 1 (Principal.berth b).code ++ s.rechosenBytes j)

def execReclaimLane (link : LinkNo) (tag : Byte) (lane : Nat) (s : State) : Host.Outcome State Fault Refusal :=
  .next (s.takeCommand link tag 0x1F (reclaimLaneBody lane))

/-! ## Functions and groups -/

/-- The functions that an owner may choose (R112). -/
def Principal.mayChoose : Principal → LaneFunction → Bool
  | .hall, .makeup | .hall, .stray => true
  | .hall, .overflow | .hall, .hold => false
  | .berth _, .stray => false
  | .berth _, .makeup | .berth _, .overflow | .berth _, .hold => true

/-- SET LANE FUNCTION (R112); a lane that leaves or enters MAKEUP has no group. -/
def setLaneFunctionBody (lane function : Nat) (p : Principal) (s : State) : Taken :=
  asOwner p s lane fun j x =>
    match functionOf function with
    | none => .refused .badValue
    | some f =>
      if !p.mayChoose f then .refused .badValue
      else if x.function = f then .ok s (x.bytes ++ bytesOf 2 0)
      else
        let s' := s.changeLane j { x with function := f, group := none } .setFunction
        .ok s' ((s'.lane j).bytes ++ s.rechosenBytes j)

def execSetLaneFunction (link : LinkNo) (tag : Byte) (lane function : Nat) (s : State) :
    Host.Outcome State Fault Refusal :=
  .next (s.takeCommand link tag 0x22 (setLaneFunctionBody lane function))

/-- SET LANE GROUP (R113). HALL is refused with NOT_PERMITTED before the checks of R108 (DEDUCED from R113's order against
R108's "first": log 48). -/
def setLaneGroupBody (lane : Nat) (group : Option Nat) (p : Principal) (s : State) : Taken :=
  if p = .hall then .refused .notPermitted
  else
    asOwner p s lane fun j x =>
      if !isGroup group then .refused .badValue
      else if x.function ≠ .makeup then .refused .badValue
      else if x.group = group then .ok s (x.bytes ++ bytesOf 2 0)
      else
        let s' := s.changeLane j { x with group := group } .setGroup
        .ok s' ((s'.lane j).bytes ++ s.rechosenBytes j)

def execSetLaneGroup (link : LinkNo) (tag : Byte) (lane : Nat) (group : Option Nat) (s : State) :
    Host.Outcome State Fault Refusal :=
  .next (s.takeCommand link tag 0x23 (setLaneGroupBody lane group))

/-! ## States -/

/-- OPEN LANE (R114). -/
def openLaneBody (lane : Nat) (p : Principal) (s : State) : Taken :=
  asOwner p s lane fun j x =>
    if x.offset = none then .refused .notConfigured
    else
      match x.state with
      | .closed => .ok ((s.setLane j { x with state := .opened }).postLaneState j .openLane) []
      | .opened => .ok s []
      | .full => .refused .laneFull
      | .faulted => .refused .faulted

def execOpenLane (link : LinkNo) (tag : Byte) (lane : Nat) (s : State) : Host.Outcome State Fault Refusal :=
  .next (s.takeCommand link tag 0x20 (openLaneBody lane))

/-- CLOSE LANE (R115). -/
def closeLaneBody (lane : Nat) (p : Principal) (s : State) : Taken :=
  asOwner p s lane fun j x =>
    match x.state with
    | .opened => .ok (s.changeLane j { x with state := .closed } .closeLane) (s.rechosenBytes j)
    | .full => .ok ((s.setLane j { x with state := .closed }).postLaneState j .closeLane) []
    | .closed => .ok s []
    | .faulted => .refused .faulted

def execCloseLane (link : LinkNo) (tag : Byte) (lane : Nat) (s : State) : Host.Outcome State Fault Refusal :=
  .next (s.takeCommand link tag 0x21 (closeLaneBody lane))

/-- R116 for a lane that exists. -/
def State.laneFull (s : State) (j : LaneNo) : State :=
  match (s.lane j).state with
  | .opened => s.changeLane j { s.lane j with state := .full } .laneFull
  | .closed => (s.setLane j { s.lane j with state := .full }).postLaneState j .laneFull
  | .full => s
  | .faulted => s

/-- LANE FULL (R116). -/
def execLaneFull (lane : Nat) (s : State) : Host.Outcome State Fault Refusal :=
  match laneOf lane with
  | none => .next s
  | some j => .next (s.laneFull j)

/-- A lane at LANE EMPTIED: fill 0, FULL becomes OPEN (R117). -/
def Lane.emptied (x : Lane) : Lane :=
  { x with fill := 0, state := if x.state = .full then .opened else x.state }

/-- R117 for a lane that exists. -/
def State.laneEmptied (s : State) (j : LaneNo) : State :=
  (s.setLane j (s.lane j).emptied).postLaneState j .laneEmptied

/-- LANE EMPTIED (R117). -/
def execLaneEmptied (lane : Nat) (s : State) : Host.Outcome State Fault Refusal :=
  match laneOf lane with
  | none => .next s
  | some j => .next (s.laneEmptied j)

/-- RESET LANE FAULT (R120). -/
def resetLaneFaultBody (lane : Nat) (p : Principal) (s : State) : Taken :=
  if p ≠ .hall then .refused .notPermitted
  else
    match laneOf lane with
    | none => .refused .badValue
    | some j =>
      let s := s.setDiverter j { s.diverter j with score := 0 }
      let s := if (s.lane j).state = .faulted then
        (s.setLane j { s.lane j with state := .closed }).postLaneState j .resetFault else s
      .ok s ((s.lane j).bytes ++ bytesOf 1 (s.diverter j).score)

def execResetLaneFault (link : LinkNo) (tag : Byte) (lane : Nat) (s : State) : Host.Outcome State Fault Refusal :=
  .next (s.takeCommand link tag 0x24 (resetLaneFaultBody lane))

/-! ## Query -/

/-- One lane in the reply of QUERY LANE: its record, its diverter's score, armed entries and FIRED carriers (R122). -/
def queryLaneBytes (s : State) (j : LaneNo) : List Byte :=
  (s.lane j).bytes ++ bytesOf 1 (s.diverter j).score ++ bytesOf 1 (s.diverter j).queue.length
    ++ bytesOf 2 (s.firedAt j).length

/-- QUERY LANE (R122), a lane or all of them. -/
def queryLaneBody (lane : Option Nat) (_ : Principal) (s : State) : Taken :=
  match lane with
  | none => .ok s (allLanes.map (queryLaneBytes s)).flatten
  | some n =>
    match laneOf n with
    | none => .refused .badValue
    | some j => .ok s (queryLaneBytes s j)

def execQueryLane (link : LinkNo) (tag : Byte) (lane : Option Nat) (s : State) : Host.Outcome State Fault Refusal :=
  .next (s.takeCommand link tag 0x25 (queryLaneBody lane))

end Sys2Proof.Machine
end

