-- ==== Sys2Proof/Machine/Links.lean ====
section
/-! DEFINITION. Chapter 10, the Link Interface: frames and errors (R165 to R167), breaks (R169), the command processor
(R171), attachment (R172 to R174), sending (R171, R176), RESTORE LINK (R168), SET NOTICE CLASSES (R177) and QUERY LINKS
(R178). -/

namespace Sys2Proof.Machine

/-! ## Frames -/

/-- Post LINK STATE of a link, as it stands, to HALL (R166 to R174). -/
def State.postLinkState (s : State) (l : LinkNo) (p : Option Principal) (displaced : Option LinkNo) (cause : LinkCause) :
    State :=
  s.post .hall (.linkState l (s.link l).state (s.link l).errorCount p displaced cause)

/-- R166: the link becomes MUTED, its frames and its unsent replies are discarded, its principal is detached. -/
def State.mute (s : State) (l : LinkNo) : State :=
  let x := s.link l
  (s.setLink l { x with state := .muted, checkCount := 0, queue := [], replies := [], busyReplies := [] }).postLinkState l
    x.state.principal none .muted

/-- R165: a bad frame on a link that is not MUTED. -/
def State.badFrame (s : State) (l : LinkNo) : State :=
  let n := raiseTo 255 (s.link l).errorCount 8
  let s := s.setLink l { s.link l with errorCount := n }
  if Config.muteThreshold ≤ n then s.mute l else s

/-- R165, R170: a good frame on a link that is not MUTED is queued, or answered BUSY when four frames wait. -/
def State.goodFrame (s : State) (l : LinkNo) (f : CommandFrame) : State :=
  let x := { s.link l with errorCount := (s.link l).errorCount - 1 }
  if x.queue.length < Config.commandPlaces then s.setLink l { x with queue := x.queue ++ [f] }
  else s.setLink l { x with busyReplies := x.busyReplies ++ [busyFrame f.tag f.kind] }

/-- R167: a good LINK CHECK on a MUTED link; the sixteenth returns the link to IDLE (the check count of its reply:
log 19). -/
def State.mutedCheck (s : State) (l : LinkNo) (tag : Byte) : State :=
  let x := s.link l
  if x.checkCount + 1 < Config.checksToRestore then
    (s.setLink l { x with checkCount := x.checkCount + 1 }).replyOk l tag 0x2E
      (bytesOf 1 LinkState.muted.code ++ bytesOf 1 (x.checkCount + 1))
  else
    ((s.setLink l { x with state := .idle, errorCount := 0, checkCount := 0 }).replyOk l tag 0x2E
      (bytesOf 1 LinkState.idle.code ++ bytesOf 1 0)).postLinkState l none none .checked

/-- R165 and R167: what a judged frame does to its link. -/
def State.takeFrame (s : State) (l : LinkNo) (j : FrameJudgement) : State :=
  match j, (s.link l).state with
  | .incomplete, _ => s
  | .bad, .muted => s.setLink l { s.link l with errorCount := raiseTo 255 (s.link l).errorCount 8, checkCount := 0 }
  | .bad, _ => s.badFrame l
  | .good f, .muted => if f.kind = linkCheckKind then s.mutedCheck l f.tag else s
  | .good f, _ => s.goodFrame l f

/-- FRAME RECEIVED (R165). -/
def execFrameReceived (link : LinkNo) (characters : List RxChar) (s : State) : Host.Outcome State Fault Refusal :=
  .next (s.takeFrame link (judgeFrame characters))

/-- A link record at a line break: no frames, no replies (a DISPLACED link frame is no reply: log 15), check count 0;
an ATTACHED link becomes IDLE (R169). -/
def Link.broken (x : Link) : Link :=
  { x with
    state := match x.state with
      | .attached _ => .idle
      | .idle => .idle
      | .muted => .muted
    checkCount := 0
    queue := []
    replies := x.replies.filter (·.isLinkFrame)
    busyReplies := [] }

/-- R169. -/
def State.breakLine (s : State) (l : LinkNo) : State :=
  let s' := s.setLink l (s.link l).broken
  match (s.link l).state with
  | .attached p => s'.postLinkState l (some p) none .broken
  | .idle => s'
  | .muted => s'

/-- LINE BREAK (R169). -/
def execLineBreak (link : LinkNo) (s : State) : Host.Outcome State Fault Refusal :=
  .next (s.breakLine link)

/-! ## Sending -/

/-- The transmitter is between two parts of one reply (R181). -/
def Link.midReply (x : Link) : Bool :=
  match x.replies with
  | [] => false
  | f :: _ => f.later

/-- A frame has been sent in full on a link (log 24). -/
def State.putOnWire (s : State) (l : LinkNo) (f : OutFrame) : State :=
  s.setWires { s.wires with links := s.wires.links.set l.val f.bytes l.isLt }

/-- R176: the head notice of the principal that link `l` carries has been sent in full and leaves its queue. -/
def State.sendNotice (s : State) (l : LinkNo) : State :=
  match (s.link l).state with
  | .attached p =>
    match (s.principal p).notices with
    | [] => s
    | n :: rest =>
      if (s.link l).midReply then s
      else (s.setPrincipal p { s.principal p with notices := rest }).putOnWire l n.frame
  | .idle => s
  | .muted => s

/-- NOTICE SENT (R176). -/
def execNoticeSent (link : LinkNo) (s : State) : Host.Outcome State Fault Refusal :=
  .next (s.sendNotice link)

/-- R171, R170: the next ordered reply, or the next BUSY reply, of a link has been sent in full. -/
def State.sendReply (s : State) (l : LinkNo) (which : SentReply) : State :=
  let x := s.link l
  match which with
  | .ordered =>
    match x.replies with
    | [] => s
    | f :: rest => (s.setLink l { x with replies := rest }).putOnWire l f
  | .busy =>
    match x.busyReplies with
    | [] => s
    | f :: rest => if x.midReply then s else (s.setLink l { x with busyReplies := rest }).putOnWire l f

/-- REPLY SENT (R171). -/
def execReplySent (link : LinkNo) (which : SentReply) (s : State) : Host.Outcome State Fault Refusal :=
  .next (s.sendReply link which)

/-! ## The command processor -/

/-- The links in the order of service after the last-served link (R171). -/
def serviceOrder (last : LinkNo) : List LinkNo :=
  [last + 1, last + 2, last + 3, last]

/-- R171: the first link after the last-served link whose queue holds a frame, and that frame. -/
def State.nextFrame (s : State) : Option (LinkNo × CommandFrame) :=
  (serviceOrder s.lastServed).findSome? fun l => (s.link l).queue.head?.map fun f => (l, f)

/-- The head frame of a link's queue is removed (R171). -/
def State.popFrame (s : State) (l : LinkNo) : State :=
  s.setLink l { s.link l with queue := (s.link l).queue.tail }

/-- R171: a frame whose fields do not match its kind's layout: NOT_ATTACHED from an IDLE link that sent another kind than
ATTACH and LINK CHECK, else BAD_VALUE. -/
def State.refuseFrame (s : State) (l : LinkNo) (f : CommandFrame) : State :=
  let attachable := f.kind = attachKind ∨ f.kind = linkCheckKind
  (s.setLastServed l).replyRefused l f.tag f.kind.toNat
    (if (s.link l).state = .idle ∧ ¬attachable then .notAttached else .badValue)

/-- LINK CHECK taken from a link that is not MUTED (R171). -/
def State.linkCheckReply (s : State) (l : LinkNo) (tag : Byte) : State :=
  let x := s.link l
  (s.setLastServed l).replyOk l tag 0x2E
    (bytesOf 1 x.state.code ++ principalBytes x.state.principal ++ bytesOf 1 x.errorCount ++ bytesOf 1 x.queue.length)

/-- LINK CHECK (R171; on a MUTED link R167: log 3). -/
def execLinkCheck (link : LinkNo) (tag : Byte) (s : State) : Host.Outcome State Fault Refusal :=
  .next <|
    match (s.link link).state with
    | .muted => s.mutedCheck link tag
    | .idle => s.linkCheckReply link tag
    | .attached _ => s.linkCheckReply link tag

/-! ## Attachment -/

/-- The link to which a principal is attached. -/
def State.linkOfPrincipal (s : State) (p : Principal) : Option LinkNo :=
  allLinks.find? fun l => (s.link l).state == .attached p

/-- R172: an older link is displaced: after the replies already formed for it, its waiting frames are answered DISPLACED,
then the DISPLACED link frame is formed, and it becomes IDLE. BUSY replies are formed replies too, so they go before the
DISPLACED ones; their place after the other replies is the model's choice (log 42). -/
def State.displace (s : State) (old : LinkNo) (p : Principal) (new : LinkNo) : State :=
  let x := s.link old
  s.setLink old { x with
    state := .idle
    queue := []
    replies := x.replies ++ x.busyReplies ++ x.queue.map displacedFrame ++ [displacedLinkFrame p new]
    busyReplies := [] }

/-- R172: an IDLE link becomes ATTACHED to a principal, which leaves the link it was attached to. -/
def State.attachLink (s : State) (l : LinkNo) (p : Principal) : State :=
  let old := s.linkOfPrincipal p
  let s := match old with
    | none => s
    | some m => s.displace m p l
  let s := s.setLink l { s.link l with state := .attached p }
  s.postLinkState l (some p) old (if old.isSome then .displaced else .attached)

/-- The reply data of ATTACH: principal, link, notices waiting (R172, log 20). -/
def State.attachData (s : State) (l : LinkNo) (p : Principal) : List Byte :=
  bytesOf 1 p.code ++ bytesOf 1 l.val ++ bytesOf 1 (s.principal p).notices.length

/-- ATTACH from a link that is not MUTED (R172). -/
def State.attach (s : State) (l : LinkNo) (principal : Nat) : Taken :=
  match principalOf principal with
  | none => .refused .badValue
  | some p =>
    if !(s.link l).allowed.allows p then .refused .notPermitted
    else
      match (s.link l).state with
      | .attached q => if q = p then .ok s (s.attachData l p) else .refused .inUse
      | .idle => .ok (s.attachLink l p) ((s.attachLink l p).attachData l p)
      | .muted => .ok s []

/-- ATTACH (R172); from a MUTED link no command is taken (log 3). -/
def execAttach (link : LinkNo) (tag : Byte) (principal : Nat) (s : State) : Host.Outcome State Fault Refusal :=
  .next <|
    match (s.link link).state with
    | .muted => s
    | _ =>
      match (s.setLastServed link).attach link principal with
      | .refused r => (s.setLastServed link).replyRefused link tag 0x2C r
      | .ok s' data => s'.replyOk link tag 0x2C data

/-- R173: an ATTACHED link becomes IDLE; its queued frames stay. -/
def State.detachLink (s : State) (l : LinkNo) (p : Principal) (cause : LinkCause) : State :=
  (s.setLink l { s.link l with state := .idle }).postLinkState l (some p) none cause

/-- DETACH (R173). -/
def execDetach (link : LinkNo) (tag : Byte) (s : State) : Host.Outcome State Fault Refusal :=
  .next (s.takeCommand link tag 0x2D fun p s =>
    .ok (s.detachLink link p .detached) (bytesOf 1 link.val ++ bytesOf 1 p.code))

/-! ## Commands on links -/

/-- R168 for a link that exists. -/
def State.restoreLink (s : State) (l : LinkNo) : State :=
  match (s.link l).state with
  | .muted =>
    (s.setLink l { s.link l with state := .idle, errorCount := 0, checkCount := 0 }).postLinkState l none none .restored
  | .idle => s.setLink l { s.link l with errorCount := 0 }
  | .attached _ => s.setLink l { s.link l with errorCount := 0 }

/-- RESTORE LINK (R168). -/
def restoreLinkBody (named : Nat) (p : Principal) (s : State) : Taken :=
  if p ≠ .hall then .refused .notPermitted
  else
    match linkOf named with
    | none => .refused .badValue
    | some l =>
      let s := s.restoreLink l
      .ok s (bytesOf 1 (s.link l).state.code ++ bytesOf 1 (s.link l).errorCount)

def execRestoreLink (link : LinkNo) (tag : Byte) (named : Nat) (s : State) : Host.Outcome State Fault Refusal :=
  .next (s.takeCommand link tag 0x2F (restoreLinkBody named))

/-- The permission flags of a link as a reply gives them, one for each principal (R174, log 12). -/
def Allowed.bytes (a : Allowed) : List Byte :=
  flagByte a.hall ++ flagByte a.one ++ flagByte a.two

/-- HALL is allowed on no link other than this one (R174). -/
def State.hallOnlyOn (s : State) (l : LinkNo) : Bool :=
  allLinks.all fun m => m == l || !(s.link m).allowed.hall

/-- R174: the flag is stored; clearing the flag of the principal that the link carries detaches it. -/
def State.permit (s : State) (l : LinkNo) (q : Principal) (flag : Bool) : State :=
  let s := s.setLink l { s.link l with allowed := (s.link l).allowed.store q flag }
  if !flag && (s.link l).state == .attached q then s.detachLink l q .notPermitted else s

/-- SET LINK PERMISSION (R174). -/
def setLinkPermissionBody (named principal : Nat) (flag : Bool) (p : Principal) (s : State) : Taken :=
  if p ≠ .hall then .refused .notPermitted
  else
    match linkOf named, principalOf principal with
    | some l, some q =>
      if !flag && q == .hall && s.hallOnlyOn l then .refused .badConfig
      else .ok (s.permit l q flag) ((s.permit l q flag).link l).allowed.bytes
    | _, _ => .refused .badValue

def execSetLinkPermission (link : LinkNo) (tag : Byte) (named principal : Nat) (allowed : Bool) (s : State) :
    Host.Outcome State Fault Refusal :=
  .next (s.takeCommand link tag 0x30 (setLinkPermissionBody named principal allowed))

/-- SET NOTICE CLASSES (R177). -/
def setNoticeClassesBody (classes : Byte) (p : Principal) (s : State) : Taken :=
  .ok (s.setPrincipal p { s.principal p with classes := classes }) [classes]

def execSetNoticeClasses (link : LinkNo) (tag : Byte) (classes : Byte) (s : State) :
    Host.Outcome State Fault Refusal :=
  .next (s.takeCommand link tag 0x31 (setNoticeClassesBody classes))

/-! ## Query -/

/-- One link in the reply of QUERY LINKS (R178). -/
def Link.bytes (x : Link) : List Byte :=
  bytesOf 1 x.state.code ++ principalBytes x.state.principal ++ bytesOf 1 x.errorCount ++ bytesOf 1 x.checkCount
    ++ bytesOf 1 x.queue.length ++ x.allowed.bytes

/-- One principal in the reply of QUERY LINKS (R178). -/
def State.principalQueryBytes (s : State) (p : Principal) : List Byte :=
  bytesOrFF 1 ((s.linkOfPrincipal p).map Fin.val) ++ bytesOf 1 (s.principal p).notices.length
    ++ flagByte (s.principal p).gap ++ [(s.principal p).classes]

/-- The reply data of QUERY LINKS, as the command finds them: the last-served link is the one before it (R171, R178). -/
def queryLinksData (s : State) : List Byte :=
  (allLinks.map fun l => (s.link l).bytes).flatten ++ bytesOf 1 s.lastServed.val
    ++ ([Principal.hall, .berth .one, .berth .two].map s.principalQueryBytes).flatten

/-- QUERY LINKS (R178): what it reports is read before the command makes its own link the last served. -/
def execQueryLinks (link : LinkNo) (tag : Byte) (s : State) : Host.Outcome State Fault Refusal :=
  .next (s.takeCommand link tag 0x32 fun _ t => .ok t (queryLinksData s))

end Sys2Proof.Machine
end

