-- ==== Sys2Proof/Machine/Field.lean ====
section
/-! DEFINITION. The field port's own steps (R183, R184) and power-on (R151). -/

namespace Sys2Proof.Machine

/-- R184, R141: the order record at the head of the queue has been sent in full; the last record of a coding answer
closes its exchange. -/
def State.sendOrder (s : State) : State :=
  match s.orders with
  | [] => s
  | o :: rest =>
    let s := (s.setOrders rest).setWires { s.wires with field := o.record }
    if o.endsExchange then s.setCoding { s.coding with exchange := none } else s

/-- ORDER SENT (R184). -/
def execOrderSent (s : State) : Host.Outcome State Fault Refusal :=
  .next s.sendOrder

/-- R183: a good record is handed to the block that owns its event. -/
def handEvent (e : Instr) (s : State) : Host.Outcome State Fault Refusal :=
  match e with
  | .advance m => execAdvance m s
  | .bagPresented p z t => execBagPresented p z t s
  | .bagWithdrawn p => execBagWithdrawn p s
  | .pollAnswer a h n c r => execPollAnswer a h n c r s
  | .divertDone j k => execDivertDone j k s
  | .divertFailed j k => execDivertFailed j k s
  | .laneFull j => execLaneFull j s
  | .laneEmptied j => execLaneEmptied j s
  | .fetch t => execFetch t s
  | .codeTag t c r => execCodeTag t c r s
  | .codeCabin t b c => execCodeCabin t b c s
  | .remove t => execRemove t s
  | .retry t => execRetry t s
  | _ => .next s

/-- FIELD RECORD BAD (R183): the record is judged; a bad one is discarded and counts nothing (log 18). -/
def execFieldRecordBad (record : List RxChar) (s : State) : Host.Outcome State Fault Refusal :=
  match judgeRecord record with
  | .bad => .next s
  | .incomplete => .next s
  | .good e => handEvent e s

/-- POWER ON: every piece of state at its power-on value; the model's queue of waiting commands is kept (log 32). -/
def execPowerOn (s : State) : Host.Outcome State Fault Refusal :=
  .next (State.reset.setPending s.pending)

end Sys2Proof.Machine
end

