-- ==== Sys2Proof/Machine/Manifest.lean ====
section
/-! DEFINITION. Chapter 4, the Manifest Store: the berth lifecycle (R54 to R57), the manifest commands (R64 to R74) and
their queries (R79, R80). -/

namespace Sys2Proof.Machine

/-! ## Checks and look-ups -/

/-- The first two checks of R64: a berth principal whose berth is BOUND or CLOSING. -/
def asManifest (p : Principal) (s : State) (body : BerthId → Berth → Taken) : Taken :=
  match p with
  | .hall => .refused .notPermitted
  | .berth b => if (s.berth b).state.isOpen then body b (s.berth b) else .refused .notConfigured

/-- The carrier that holds an entry as its identity. -/
def State.holderOf (s : State) (b : BerthId) (i : Nat) : Option Nat :=
  (s.carriersWith fun c => c.identity == some ⟨b, i⟩).head?

/-- The carriers that a manifest edit of some of a berth's entries reaches: CARRYING, not armed, with such an entry as
identity (R65), ascending. -/
def State.reached (s : State) (b : BerthId) (p : Entry → Bool) : List Nat :=
  s.carriersWith fun c => c.isReachable &&
    match c.identity with
    | none => false
    | some d => d.berth == b && (s.entryOf d).any p

/-- Re-choices asked for by a manifest edit, in ascending carrier number, one at a time (R65, log 8). -/
def State.rechooseAll (s : State) (ks : List Nat) : State :=
  forEach ks (fun s k => s.rechoose k) s

/-- Dispositions given by a manifest edit, in ascending carrier number, one at a time (R65, R85, log 8). -/
def State.giveAll (s : State) (ks : List Nat) (d : Disposition) : State :=
  forEach ks (fun s k => s.giveDisposition k d) s

/-- An entry as a reply gives it: index, serial, cabin, state, ticket (R70, R73, R79). That "the entry" of MOVE TAG and
RELEASE HOLD BAG has no carrier number, which R79 adds in QUERY TAG alone, is a DESIGN CHOICE (log 46). -/
def Entry.bytes (e : Entry) : List Byte :=
  bytesOf 2 e.index ++ bytesOrFF 3 e.serial ++ bytesOf 2 e.cabin ++ bytesOf 1 e.state.code ++ bytesOrZero 2 e.ticket

/-- A cabin record as a reply gives it, in the order of R59, its entry list led by its length (log 13), which is a count
of tag entries and takes two bytes (Table 11-1), as its delivered and in-hold counts do (R61). Its expected count, of bags,
takes the one byte of Table 11-1's other counts (DESIGN CHOICE, log 50). -/
def Cabin.bytes (c : Cabin) : List Byte :=
  bytesOf 2 c.number ++ bytesOf 1 c.deck ++ bytesOf 1 c.expected ++ bytesOf 2 c.delivered ++ bytesOf 2 c.inHold
    ++ flagByte c.held ++ bytesOf 2 c.entries.length ++ (c.entries.map (bytesOf 2)).flatten

/-! ## The berth lifecycle -/

/-- OPEN BERTH (R54). -/
def openBerthBody (berth ship : Nat) (p : Principal) (s : State) : Taken :=
  if p ≠ .hall then .refused .notPermitted
  else
    match berthOf berth with
    | none => .refused .badValue
    | some b =>
      if !isShip ship then .refused .badValue
      else if (s.berth b).state ≠ .unbound then .refused .inUse
      else if (s.berthOfShip ship).isSome then .refused .duplicate
      else
        let s := s.setBerth b { s.berth b with state := .bound ship }
        .ok (s.postHallAnd b (.berthState b (.bound ship) false)) (bytesOf 1 berth ++ bytesOf 1 ship)

def execOpenBerth (link : LinkNo) (tag : Byte) (berth ship : Nat) (s : State) : Host.Outcome State Fault Refusal :=
  .next (s.takeCommand link tag 0x0C (openBerthBody berth ship))

/-- The carriers of a berth's pending records, ascending (R55, R57; order: log 8). -/
def State.pendingCarriers (s : State) (b : BerthId) : List Nat :=
  s.carrierNumbers.filter fun k => s.router.pendingTags.any fun r => r.berth == b && r.carrier == k

/-- R55, R57: every pending record of the berth is removed, its carrier becoming a stray of the reason given. -/
def State.strayPending (s : State) (b : BerthId) (r : StrayReason) : State :=
  let ks := s.pendingCarriers b
  let s := s.setRouter { s.router with pendingTags := s.router.pendingTags.filter (·.berth != b) }
  s.giveAll ks (.stray r)

/-- CLOSE SAILING (R55). -/
def closeSailingBody (p : Principal) (s : State) : Taken :=
  match p with
  | .hall => .refused .notPermitted
  | .berth b =>
    match (s.berth b).state with
    | .unbound => .refused .notConfigured
    | .closing _ => .refused .inUse
    | .bound ship =>
      let s := s.setBerth b { s.berth b with state := .closing ship }
      let s := s.strayPending b .berthClosing
      let s := (s.postHallAnd b (.berthState b (.closing ship) false)).testClosing b
      .ok s (bytesOf 1 (s.berth b).state.code)

def execCloseSailing (link : LinkNo) (tag : Byte) (s : State) : Host.Outcome State Fault Refusal :=
  .next (s.takeCommand link tag 0x0D closeSailingBody)

/-- An armed or FIRED carrier whose bag leaves the manifest keeps its target and its queue entry (R57, R72); its laps
become 0 with its new disposition (R85, log 37). -/
def State.disown (s : State) (k : Nat) (r : StrayReason) : State :=
  s.setCarrier k { s.carrier k with identity := none, disposition := some (.stray r), laps := 0 }

/-- A carrier not armed whose bag leaves the manifest becomes a stray, with its choice (R57, R72). -/
def State.strayUnlisted (s : State) (k : Nat) (r : StrayReason) : State :=
  (s.setCarrier k { s.carrier k with identity := none }).giveDisposition k (.stray r)

/-- R57: what FORCE CLOSE does to the carriers of the berth before the berth is cleared. -/
def State.disownBerth (s : State) (b : BerthId) : State :=
  let s := s.strayPending b .berthClosed
  let unarmed := s.carriersWith fun c => c.isOf b && c.isReachable
  let committed := s.carriersWith fun c => c.isOf b && !c.isReachable
  let s := forEach unarmed (fun s k => s.strayUnlisted k .berthClosed) s
  forEach committed (fun s k => s.disown k .berthClosed) s

/-- FORCE CLOSE (R57). -/
def forceCloseBody (berth : Nat) (p : Principal) (s : State) : Taken :=
  if p ≠ .hall then .refused .notPermitted
  else
    match berthOf berth with
    | none => .refused .badValue
    | some b =>
      if !(s.berth b).state.isOpen then .refused .notConfigured
      else
        let dropped := (s.router.pendingTags.countP (·.berth == b)) + s.carriers.table.countP (·.isOf b)
        let s := ((s.disownBerth b).perBerthClear b).postHallAnd b (.berthState b .unbound true)
        .ok s (bytesOf 2 dropped)

def execForceClose (link : LinkNo) (tag : Byte) (berth : Nat) (s : State) : Host.Outcome State Fault Refusal :=
  .next (s.takeCommand link tag 0x0E (forceCloseBody berth))

/-! ## Cabins -/

/-- LOAD CABIN (R66). -/
def loadCabinBody (cabin deck expected : Nat) (p : Principal) (s : State) : Taken :=
  asManifest p s fun b r =>
    if !(isCabin cabin && isDeck deck) then .refused .badValue
    else
      match r.findCabin cabin with
      | none =>
        if Config.cabinPlaces ≤ r.cabins.length then .refused .full
        else
          let c : Cabin := ⟨cabin, deck, min 15 expected, 0, 0, false, []⟩
          .ok (s.setBerth b (r.insertCabin c)) c.bytes
      | some old =>
        let c := { old with deck := deck, expected := min 15 expected }
        let s := s.setBerth b (r.modifyCabin cabin fun _ => c)
        .ok (if old.deck = deck then s else s.rechooseAll (s.reached b fun e => e.cabin == cabin)) c.bytes

def execLoadCabin (link : LinkNo) (tag : Byte) (cabin deck expected : Nat) (s : State) :
    Host.Outcome State Fault Refusal :=
  .next (s.takeCommand link tag 0x0F (loadCabinBody cabin deck expected))

/-- SET CABIN HOLD (R67). -/
def setCabinHoldBody (cabin : Nat) (held : Bool) (p : Principal) (s : State) : Taken :=
  asManifest p s fun b r =>
    if !isCabin cabin then .refused .badValue
    else
      match r.findCabin cabin with
      | none => .refused .notFound
      | some c =>
        if c.held = held then .ok s (flagByte held ++ bytesOf 2 0)
        else
          let s := s.setBerth b (r.modifyCabin cabin fun c => { c with held := held })
          let ks := (s.reached b fun e => e.cabin == cabin).filter
            fun k => (s.carrier k).disposition == some (dispositionOf (!held))
          .ok (s.giveAll ks (dispositionOf held)) (flagByte held ++ bytesOf 2 ks.length)

def execSetCabinHold (link : LinkNo) (tag : Byte) (cabin : Nat) (held : Bool) (s : State) :
    Host.Outcome State Fault Refusal :=
  .next (s.takeCommand link tag 0x10 (setCabinHoldBody cabin held))

/-! ## Tag entries -/

/-- R69: the carrier of a pending record is matched in place to its new entry, with its choice. -/
def State.matchPending (s : State) (k : Nat) (d : Identity) : State :=
  ((s.removePending k).matchEntry k d).chooseTarget k

/-- LOAD TAG (R68). -/
def loadTagBody (serial cabin : Nat) (p : Principal) (s : State) : Taken :=
  asManifest p s fun b r =>
    if !(serial ≤ Config.lastSerial && isCabin cabin) then .refused .badValue
    else
      match r.findCabin cabin with
      | none => .refused .notFound
      | some c =>
        if (r.findSerial serial).isSome then .refused .duplicate
        else if Config.cabinEntries ≤ c.entries.length ∨ Config.tagPlaces ≤ r.tags.length then .refused .full
        else
          let i := r.freeIndex
          let s := s.setBerth b (r.makeEntry (some serial) cabin .expected none)
          match s.router.pendingTags.find? fun t => t.berth == b && t.serial == serial with
          | none => .ok s (bytesOf 2 i ++ bytesOrFF 2 none)
          | some t => .ok (s.matchPending t.carrier ⟨b, i⟩) (bytesOf 2 i ++ bytesOf 2 t.carrier)

def execLoadTag (link : LinkNo) (tag : Byte) (serial cabin : Nat) (s : State) : Host.Outcome State Fault Refusal :=
  .next (s.takeCommand link tag 0x11 (loadTagBody serial cabin))

/-- R70: a moved ON_LOOP entry's carrier, if the edit reaches it, takes the disposition that its new cabin gives, or is
re-chosen when that is the disposition it has. -/
def State.followMove (s : State) (b : BerthId) (i : Nat) (held : Bool) : State :=
  forEach (s.reached b fun e => e.index == i)
    (fun s k =>
      if (s.carrier k).disposition == some (dispositionOf held) then s.rechoose k
      else s.giveDisposition k (dispositionOf held)) s

/-- MOVE TAG (R70). -/
def moveTagBody (entry : EntryRef) (cabin : Nat) (p : Principal) (s : State) : Taken :=
  asManifest p s fun b r =>
    if !(isEntryRef entry && isCabin cabin) then .refused .badValue
    else
      match r.findRef entry, r.findCabin cabin with
      | some e, some c =>
        if e.cabin = cabin then .ok s e.bytes
        else if Config.cabinEntries ≤ c.entries.length then .refused .full
        else .ok ((s.setBerth b (r.moveEntry e cabin)).followMove b e.index c.held) { e with cabin := cabin }.bytes
      | _, _ => .refused .notFound

def execMoveTag (link : LinkNo) (tag : Byte) (entry : EntryRef) (cabin : Nat) (s : State) :
    Host.Outcome State Fault Refusal :=
  .next (s.takeCommand link tag 0x12 (moveTagBody entry cabin))

/-- A stray record without its reference to a removed entry (R71). -/
def StrayRecord.forgetEntry (r : StrayRecord) (b : BerthId) (i : Nat) : StrayRecord :=
  if r.berth == some b && r.entry == some i then { r with berth := none, entry := none } else r

/-- A reinject record without its reference to a removed entry (R71). -/
def ReinjectRecord.forgetEntry (r : ReinjectRecord) (b : BerthId) (i : Nat) : ReinjectRecord :=
  if r.berth == some b && r.entry == some i then { r with berth := none, entry := none } else r

/-- The lists without their references to a removed entry (R71). -/
def Coding.forgetEntry (c : Coding) (b : BerthId) (i : Nat) : Coding :=
  { c with strays := c.strays.map (·.forgetEntry b i), reinject := c.reinject.map (·.forgetEntry b i) }

/-- R72: the carrier of a withdrawn ON_LOOP entry. -/
def State.withdrawFrom (s : State) (k : Nat) : State :=
  if (s.carrier k).isReachable then s.strayUnlisted k .withdrawn else s.disown k .withdrawn

/-- WITHDRAW TAG (R71). -/
def withdrawTagBody (entry : EntryRef) (p : Principal) (s : State) : Taken :=
  asManifest p s fun b r =>
    if !isEntryRef entry then .refused .badValue
    else
      match r.findRef entry with
      | none => .refused .notFound
      | some e =>
        let s' := s.setBerth b (r.removeEntry e)
        match e.state with
        | .onLoop =>
          let k := s.holderOf b e.index
          let s' := match k with
            | none => s'
            | some k => s'.withdrawFrom k
          .ok (s'.testClosing b) (bytesOf 1 e.state.code ++ bytesOrFF 2 k)
        | .strayed => .ok (s'.setCoding (s'.coding.forgetEntry b e.index)) (bytesOf 1 e.state.code ++ bytesOrFF 2 none)
        | .expected | .delivered | .inHold | .offSystem => .ok s' (bytesOf 1 e.state.code ++ bytesOrFF 2 none)

def execWithdrawTag (link : LinkNo) (tag : Byte) (entry : EntryRef) (s : State) : Host.Outcome State Fault Refusal :=
  .next (s.takeCommand link tag 0x13 (withdrawTagBody entry))

/-- RELEASE HOLD BAG (R73). -/
def releaseHoldBagBody (entry : EntryRef) (p : Principal) (s : State) : Taken :=
  asManifest p s fun b r =>
    if !isEntryRef entry then .refused .badValue
    else
      match r.findRef entry with
      | none => .refused .notFound
      | some e =>
        if e.state ≠ .inHold then .refused .inUse
        else .ok (s.setEntryState b e.index .expected none) { e with state := .expected, ticket := none }.bytes

def execReleaseHoldBag (link : LinkNo) (tag : Byte) (entry : EntryRef) (s : State) :
    Host.Outcome State Fault Refusal :=
  .next (s.takeCommand link tag 0x14 (releaseHoldBagBody entry))

/-- The entry's cabin is on a deck. -/
def Berth.onDeck (r : Berth) (deck : Nat) (e : Entry) : Bool :=
  (r.findCabin e.cabin).any (·.deck == deck)

/-- A berth with a deck 1..24 mapped to a group or to none (R62). -/
def Berth.mapDeck (r : Berth) (deck : Nat) (group : Option Nat) : Berth :=
  { r with deckMap := r.deckMap.setIfInBounds (deck - 1) group }

/-- SET DECK GROUP (R74). -/
def setDeckGroupBody (deck : Nat) (group : Option Nat) (p : Principal) (s : State) : Taken :=
  asManifest p s fun b r =>
    if !(isDeck deck && isGroup group) then .refused .badValue
    else
      let data := bytesOf 1 deck ++ bytesOrFF 1 group
      if r.groupOf deck = group then .ok s data
      else
        let s := s.setBerth b (r.mapDeck deck group)
        .ok (s.rechooseAll (s.reached b (r.onDeck deck))) data

def execSetDeckGroup (link : LinkNo) (tag : Byte) (deck : Nat) (group : Option Nat) (s : State) :
    Host.Outcome State Fault Refusal :=
  .next (s.takeCommand link tag 0x15 (setDeckGroupBody deck group))

/-! ## Queries -/

/-- The first two checks of R79: a berth principal names no berth, HALL a berth 1 or 2 (R180, log 29); the berth is not
UNBOUND. -/
def asViewer (p : Principal) (berth : Option Nat) (s : State) (body : BerthId → Berth → Taken) : Taken :=
  let asked : Option BerthId := match p, berth with
    | .hall, some n => berthOf n
    | .berth b, none => some b
    | _, _ => none
  match asked with
  | none => .refused .badValue
  | some b => if (s.berth b).state.isOpen then body b (s.berth b) else .refused .notConfigured

/-- QUERY TAG (R79). -/
def queryTagBody (berth : Option Nat) (entry : EntryRef) (p : Principal) (s : State) : Taken :=
  asViewer p berth s fun b r =>
    if !isEntryRef entry then .refused .badValue
    else
      match r.findRef entry with
      | none => .refused .notFound
      | some e =>
        let holder := if e.state = .onLoop then s.holderOf b e.index else none
        .ok s (e.bytes ++ bytesOrFF 2 holder)

def execQueryTag (link : LinkNo) (tag : Byte) (berth : Option Nat) (entry : EntryRef) (s : State) :
    Host.Outcome State Fault Refusal :=
  .next (s.takeCommand link tag 0x16 (queryTagBody berth entry))

/-- One entry of a cabin's list as QUERY CABIN gives it: index, serial, state. -/
def Berth.listedBytes (r : Berth) (i : Nat) : List Byte :=
  match r.findEntry i with
  | none => []
  | some e => bytesOf 2 e.index ++ bytesOrFF 3 e.serial ++ bytesOf 1 e.state.code

/-- The reply data of QUERY CABIN: the cabin record, its held flag, its deck's group, then its entries led by their
number, a count of tag entries in two bytes (R79, Table 11-1, log 13). The record already holds the held flag and the list
of indexes: the flag is sent once, and the bare list is left out for the entries themselves (DESIGN CHOICE, log 47). -/
def Berth.cabinData (r : Berth) (c : Cabin) : List Byte :=
  bytesOf 2 c.number ++ bytesOf 1 c.deck ++ bytesOf 1 c.expected ++ bytesOf 2 c.delivered ++ bytesOf 2 c.inHold
    ++ flagByte c.held ++ bytesOrFF 1 (r.groupOf c.deck) ++ bytesOf 2 c.entries.length
    ++ (c.entries.map r.listedBytes).flatten

/-- QUERY CABIN (R79). -/
def queryCabinBody (berth : Option Nat) (cabin : Nat) (p : Principal) (s : State) : Taken :=
  asViewer p berth s fun _ r =>
    if !isCabin cabin then .refused .badValue
    else
      match r.findCabin cabin with
      | none => .refused .notFound
      | some c => .ok s (r.cabinData c)

def execQueryCabin (link : LinkNo) (tag : Byte) (berth : Option Nat) (cabin : Nat) (s : State) :
    Host.Outcome State Fault Refusal :=
  .next (s.takeCommand link tag 0x17 (queryCabinBody berth cabin))

/-- The reply data of QUERY BERTH (R80). -/
def queryBerthData (s : State) (b : BerthId) : List Byte :=
  let r := s.berth b
  bytesOf 1 r.state.code ++ bytesOrZero 1 r.state.ship ++ bytesOf 2 r.cabins.length ++ bytesOf 2 r.tags.length
    ++ ([.expected, .onLoop, .delivered, .inHold, .strayed, .offSystem].map
        fun t => bytesOf 2 (r.tags.countP fun e => e.state == t)).flatten
    ++ bytesOf 1 (s.router.pendingTags.countP (·.berth == b)) ++ bytesOf 2 (s.carriers.table.countP (·.isOf b))

/-- QUERY BERTH (R80). -/
def queryBerthBody (berth : Nat) (_ : Principal) (s : State) : Taken :=
  match berthOf berth with
  | none => .refused .badValue
  | some b => .ok s (queryBerthData s b)

def execQueryBerth (link : LinkNo) (tag : Byte) (berth : Nat) (s : State) : Host.Outcome State Fault Refusal :=
  .next (s.takeCommand link tag 0x18 (queryBerthBody berth))

end Sys2Proof.Machine
end

