-- ==== Sys2Proof/Machine/Dispatch.lean ====
section
/-! DEFINITION. Every command and event with its meaning. -/

namespace Sys2Proof.Machine

def exec (i : Instr) (s : State) : Host.Outcome State Fault Refusal :=
  match i with
  | .powerOn => Sys2Proof.Machine.execPowerOn s
  | .advance homeMark => Sys2Proof.Machine.execAdvance homeMark s
  | .pollAnswer station head pollNumber ship serial => Sys2Proof.Machine.execPollAnswer station head pollNumber ship serial s
  | .waitExpiry carrier => Sys2Proof.Machine.execWaitExpiry carrier s
  | .lapLimit carrier => Sys2Proof.Machine.execLapLimit carrier s
  | .noReportTimeout carrier => Sys2Proof.Machine.execNoReportTimeout carrier s
  | .bagPresented point size ticket => Sys2Proof.Machine.execBagPresented point size ticket s
  | .bagWithdrawn point => Sys2Proof.Machine.execBagWithdrawn point s
  | .divertDone lane carrier => Sys2Proof.Machine.execDivertDone lane carrier s
  | .divertFailed lane carrier => Sys2Proof.Machine.execDivertFailed lane carrier s
  | .laneFull lane => Sys2Proof.Machine.execLaneFull lane s
  | .laneEmptied lane => Sys2Proof.Machine.execLaneEmptied lane s
  | .fetch ticket => Sys2Proof.Machine.execFetch ticket s
  | .codeTag ticket ship serial => Sys2Proof.Machine.execCodeTag ticket ship serial s
  | .codeCabin ticket berth cabin => Sys2Proof.Machine.execCodeCabin ticket berth cabin s
  | .remove ticket => Sys2Proof.Machine.execRemove ticket s
  | .retry ticket => Sys2Proof.Machine.execRetry ticket s
  | .fieldRecordBad record => Sys2Proof.Machine.execFieldRecordBad record s
  | .orderSent => Sys2Proof.Machine.execOrderSent s
  | .drainComplete => Sys2Proof.Machine.execDrainComplete s
  | .closingComplete berth => Sys2Proof.Machine.execClosingComplete berth s
  | .frameReceived link characters => Sys2Proof.Machine.execFrameReceived link characters s
  | .lineBreak link => Sys2Proof.Machine.execLineBreak link s
  | .noticeSent link => Sys2Proof.Machine.execNoticeSent link s
  | .replySent link which => Sys2Proof.Machine.execReplySent link which s
  | .configureLoop link tag count commit => Sys2Proof.Machine.execConfigureLoop link tag count commit s
  | .queryPosition link tag => Sys2Proof.Machine.execQueryPosition link tag s
  | .queryCarrier link tag carrier => Sys2Proof.Machine.execQueryCarrier link tag carrier s
  | .configureInductionPoint link tag point offset enabled mark => Sys2Proof.Machine.execConfigureInductionPoint link tag point offset enabled mark s
  | .setLoadLimit link tag limit => Sys2Proof.Machine.execSetLoadLimit link tag limit s
  | .setStarveLimit link tag limit => Sys2Proof.Machine.execSetStarveLimit link tag limit s
  | .queryInduction link tag => Sys2Proof.Machine.execQueryInduction link tag s
  | .configureReadStation link tag station offset heads priority enabled => Sys2Proof.Machine.execConfigureReadStation link tag station offset heads priority enabled s
  | .setReadVoting link tag station polls votes => Sys2Proof.Machine.execSetReadVoting link tag station polls votes s
  | .restoreHead link tag station head => Sys2Proof.Machine.execRestoreHead link tag station head s
  | .queryReadStation link tag station => Sys2Proof.Machine.execQueryReadStation link tag station s
  | .openBerth link tag berth ship => Sys2Proof.Machine.execOpenBerth link tag berth ship s
  | .closeSailing link tag => Sys2Proof.Machine.execCloseSailing link tag s
  | .forceClose link tag berth => Sys2Proof.Machine.execForceClose link tag berth s
  | .loadCabin link tag cabin deck expected => Sys2Proof.Machine.execLoadCabin link tag cabin deck expected s
  | .setCabinHold link tag cabin held => Sys2Proof.Machine.execSetCabinHold link tag cabin held s
  | .loadTag link tag serial cabin => Sys2Proof.Machine.execLoadTag link tag serial cabin s
  | .moveTag link tag entry cabin => Sys2Proof.Machine.execMoveTag link tag entry cabin s
  | .withdrawTag link tag entry => Sys2Proof.Machine.execWithdrawTag link tag entry s
  | .releaseHoldBag link tag entry => Sys2Proof.Machine.execReleaseHoldBag link tag entry s
  | .setDeckGroup link tag deck group => Sys2Proof.Machine.execSetDeckGroup link tag deck group s
  | .queryTag link tag berth entry => Sys2Proof.Machine.execQueryTag link tag berth entry s
  | .queryCabin link tag berth cabin => Sys2Proof.Machine.execQueryCabin link tag berth cabin s
  | .queryBerth link tag berth => Sys2Proof.Machine.execQueryBerth link tag berth s
  | .setLapLimits link tag lapLimit waitLimit => Sys2Proof.Machine.execSetLapLimits link tag lapLimit waitLimit s
  | .queryPending link tag => Sys2Proof.Machine.execQueryPending link tag s
  | .configureLane link tag lane offset capacity => Sys2Proof.Machine.execConfigureLane link tag lane offset capacity s
  | .setLaneCapacity link tag lane capacity => Sys2Proof.Machine.execSetLaneCapacity link tag lane capacity s
  | .claimLane link tag lane => Sys2Proof.Machine.execClaimLane link tag lane s
  | .releaseLane link tag lane => Sys2Proof.Machine.execReleaseLane link tag lane s
  | .reclaimLane link tag lane => Sys2Proof.Machine.execReclaimLane link tag lane s
  | .openLane link tag lane => Sys2Proof.Machine.execOpenLane link tag lane s
  | .closeLane link tag lane => Sys2Proof.Machine.execCloseLane link tag lane s
  | .setLaneFunction link tag lane function => Sys2Proof.Machine.execSetLaneFunction link tag lane function s
  | .setLaneGroup link tag lane group => Sys2Proof.Machine.execSetLaneGroup link tag lane group s
  | .resetLaneFault link tag lane => Sys2Proof.Machine.execResetLaneFault link tag lane s
  | .queryLane link tag lane => Sys2Proof.Machine.execQueryLane link tag lane s
  | .queryDiversion link tag lane => Sys2Proof.Machine.execQueryDiversion link tag lane s
  | .queryStrays link tag => Sys2Proof.Machine.execQueryStrays link tag s
  | .setMode link tag mode => Sys2Proof.Machine.execSetMode link tag mode s
  | .forceSetup link tag => Sys2Proof.Machine.execForceSetup link tag s
  | .clearSort link tag => Sys2Proof.Machine.execClearSort link tag s
  | .queryMode link tag => Sys2Proof.Machine.execQueryMode link tag s
  | .attach link tag principal => Sys2Proof.Machine.execAttach link tag principal s
  | .detach link tag => Sys2Proof.Machine.execDetach link tag s
  | .linkCheck link tag => Sys2Proof.Machine.execLinkCheck link tag s
  | .restoreLink link tag named => Sys2Proof.Machine.execRestoreLink link tag named s
  | .setLinkPermission link tag named principal allowed => Sys2Proof.Machine.execSetLinkPermission link tag named principal allowed s
  | .setNoticeClasses link tag classes => Sys2Proof.Machine.execSetNoticeClasses link tag classes s
  | .queryLinks link tag => Sys2Proof.Machine.execQueryLinks link tag s

end Sys2Proof.Machine
end

