-- ==== Sys2Proof/Machine/Processor.lean ====
section
/-! DEFINITION. The command processor (R171): what a step does when the model's queue is empty (log 2). -/

namespace Sys2Proof.Machine

/-- The command processor when it is free: the next frame in rotating order is removed from its queue and taken (R171).
A frame whose fields do not match its kind is refused. With no frame waiting the block idles (log 2). -/
def serve (s : State) : Host.Outcome State Fault Refusal :=
  match s.nextFrame with
  | none => .next s
  | some (l, f) =>
    match decodeCommand l f with
    | some c => exec c (s.popFrame l)
    | none => .next ((s.popFrame l).refuseFrame l f)

end Sys2Proof.Machine
end

