-- ==== Sys2Proof/Safety.lean ====
section
/-! DEFINITION. What claims are stated with: which link, tag and code a command carries and who may issue it (Tables 10-2
and 11-5), which parts of the state a step may change, and what a safe state is: the counts, ranges, capacities and
agreements between tables that the rules promise. -/

namespace Sys2Proof

/-- The link, sequence tag and command code (Table 11-5) of a principal's command; an event has none. -/
def Instr.header : Instr → Option (LinkNo × Byte × Nat)
  | .powerOn | .advance _ | .pollAnswer .. | .waitExpiry _ | .lapLimit _ | .noReportTimeout _ => none
  | .bagPresented .. | .bagWithdrawn _ | .divertDone .. | .divertFailed .. | .laneFull _ | .laneEmptied _ => none
  | .fetch _ | .codeTag .. | .codeCabin .. | .remove _ | .retry _ => none
  | .fieldRecordBad _ | .orderSent | .drainComplete | .closingComplete _ => none
  | .frameReceived .. | .lineBreak _ | .noticeSent _ | .replySent .. => none
  | .configureLoop l t .. => some (l, t, 0x01)
  | .queryPosition l t => some (l, t, 0x02)
  | .queryCarrier l t _ => some (l, t, 0x03)
  | .configureInductionPoint l t .. => some (l, t, 0x04)
  | .setLoadLimit l t _ => some (l, t, 0x05)
  | .setStarveLimit l t _ => some (l, t, 0x06)
  | .queryInduction l t => some (l, t, 0x07)
  | .configureReadStation l t .. => some (l, t, 0x08)
  | .setReadVoting l t .. => some (l, t, 0x09)
  | .restoreHead l t .. => some (l, t, 0x0A)
  | .queryReadStation l t _ => some (l, t, 0x0B)
  | .openBerth l t .. => some (l, t, 0x0C)
  | .closeSailing l t => some (l, t, 0x0D)
  | .forceClose l t _ => some (l, t, 0x0E)
  | .loadCabin l t .. => some (l, t, 0x0F)
  | .setCabinHold l t .. => some (l, t, 0x10)
  | .loadTag l t .. => some (l, t, 0x11)
  | .moveTag l t .. => some (l, t, 0x12)
  | .withdrawTag l t _ => some (l, t, 0x13)
  | .releaseHoldBag l t _ => some (l, t, 0x14)
  | .setDeckGroup l t .. => some (l, t, 0x15)
  | .queryTag l t .. => some (l, t, 0x16)
  | .queryCabin l t .. => some (l, t, 0x17)
  | .queryBerth l t _ => some (l, t, 0x18)
  | .setLapLimits l t .. => some (l, t, 0x19)
  | .queryPending l t => some (l, t, 0x1A)
  | .configureLane l t .. => some (l, t, 0x1B)
  | .setLaneCapacity l t .. => some (l, t, 0x1C)
  | .claimLane l t _ => some (l, t, 0x1D)
  | .releaseLane l t _ => some (l, t, 0x1E)
  | .reclaimLane l t _ => some (l, t, 0x1F)
  | .openLane l t _ => some (l, t, 0x20)
  | .closeLane l t _ => some (l, t, 0x21)
  | .setLaneFunction l t .. => some (l, t, 0x22)
  | .setLaneGroup l t .. => some (l, t, 0x23)
  | .resetLaneFault l t _ => some (l, t, 0x24)
  | .queryLane l t _ => some (l, t, 0x25)
  | .queryDiversion l t _ => some (l, t, 0x26)
  | .queryStrays l t => some (l, t, 0x27)
  | .setMode l t _ => some (l, t, 0x28)
  | .forceSetup l t => some (l, t, 0x29)
  | .clearSort l t => some (l, t, 0x2A)
  | .queryMode l t => some (l, t, 0x2B)
  | .attach l t _ => some (l, t, 0x2C)
  | .detach l t => some (l, t, 0x2D)
  | .linkCheck l t => some (l, t, 0x2E)
  | .restoreLink l t _ => some (l, t, 0x2F)
  | .setLinkPermission l t .. => some (l, t, 0x30)
  | .setNoticeClasses l t _ => some (l, t, 0x31)
  | .queryLinks l t => some (l, t, 0x32)

/-- The commands of HALL (Table 10-2, first row), by code. -/
def hallCodes : List Nat :=
  [0x01, 0x04, 0x05, 0x06, 0x08, 0x09, 0x0A, 0x19, 0x1B, 0x1C, 0x1F, 0x24, 0x0C, 0x0E, 0x28, 0x29, 0x2A, 0x2F, 0x30]

/-- The commands of a berth principal for its own berth (Table 10-2, second row), by code. -/
def berthCodes : List Nat :=
  [0x0F, 0x10, 0x11, 0x12, 0x13, 0x14, 0x15, 0x0D, 0x1D, 0x1E, 0x23]

/-- The QUERY commands, by code (Table 11-5). -/
def queryCodes : List Nat :=
  [0x02, 0x03, 0x07, 0x0B, 0x16, 0x17, 0x18, 0x1A, 0x25, 0x26, 0x27, 0x2B, 0x32]

/-- ATTACH and LINK CHECK, the commands that a link takes attached or not (Table 10-2), by code. -/
def openCodes : List Nat :=
  [0x2C, 0x2E]

end Sys2Proof

namespace Sys2Proof.Machine

/-! ## What a sender writes -/

/-- A character received without errors. -/
def cleanChar (b : Byte) : RxChar := ⟨b, false, false⟩

/-- An entry reference as its sender writes it: the selector, then the value in three bytes (R180). -/
def refField : EntryRef → List Byte
  | .serial n => bytesOf 1 0 ++ bytesOf 3 n
  | .index i => bytesOf 1 1 ++ bytesOf 3 i

/-- The fields of a command frame, in the order that its rule names them, each in the width of Table 11-1 (R180). An
event has none: its record is laid out by Table 11-4. -/
def commandFields : Instr → List Byte
  | .powerOn | .advance _ | .pollAnswer .. | .waitExpiry _ | .lapLimit _ | .noReportTimeout _ => []
  | .bagPresented .. | .bagWithdrawn _ | .divertDone .. | .divertFailed .. | .laneFull _ | .laneEmptied _ => []
  | .fetch _ | .codeTag .. | .codeCabin .. | .remove _ | .retry _ => []
  | .fieldRecordBad _ | .orderSent | .drainComplete | .closingComplete _ => []
  | .frameReceived .. | .lineBreak _ | .noticeSent _ | .replySent .. => []
  | .configureLoop _ _ c k => bytesOf 2 c ++ bytesOf 1 k
  | .queryPosition _ _ => []
  | .queryCarrier _ _ k => bytesOf 2 k
  | .configureInductionPoint _ _ p o e m => bytesOf 1 p ++ bytesOrFF 2 o ++ flagByte e ++ flagByte m
  | .setLoadLimit _ _ n => bytesOf 2 n
  | .setStarveLimit _ _ n => bytesOf 1 n
  | .queryInduction _ _ => []
  | .configureReadStation _ _ n o h ps e =>
    bytesOf 1 n ++ bytesOrFF 2 o ++ bytesOf 1 h ++ bytesOf 1 ps.length ++ (ps.map (bytesOf 1)).flatten ++ flagByte e
  | .setReadVoting _ _ n w v => bytesOf 1 n ++ bytesOf 1 w ++ bytesOf 1 v
  | .restoreHead _ _ n h => bytesOf 1 n ++ bytesOf 1 h
  | .queryReadStation _ _ n => bytesOf 1 n
  | .openBerth _ _ b c => bytesOf 1 b ++ bytesOf 1 c
  | .closeSailing _ _ => []
  | .forceClose _ _ b => bytesOf 1 b
  | .loadCabin _ _ c d x => bytesOf 2 c ++ bytesOf 1 d ++ bytesOf 1 x
  | .setCabinHold _ _ c h => bytesOf 2 c ++ flagByte h
  | .loadTag _ _ r c => bytesOf 3 r ++ bytesOf 2 c
  | .moveTag _ _ e c => refField e ++ bytesOf 2 c
  | .withdrawTag _ _ e => refField e
  | .releaseHoldBag _ _ e => refField e
  | .setDeckGroup _ _ d g => bytesOf 1 d ++ bytesOrFF 1 g
  | .queryTag _ _ b e => (match b with | none => [] | some b => bytesOf 1 b) ++ refField e
  | .queryCabin _ _ b c => (match b with | none => [] | some b => bytesOf 1 b) ++ bytesOf 2 c
  | .queryBerth _ _ b => bytesOf 1 b
  | .setLapLimits _ _ m w => bytesOf 1 m ++ bytesOf 1 w
  | .queryPending _ _ => []
  | .configureLane _ _ j o c => bytesOf 1 j ++ bytesOrFF 2 o ++ bytesOf 1 c
  | .setLaneCapacity _ _ j c => bytesOf 1 j ++ bytesOf 1 c
  | .claimLane _ _ j => bytesOf 1 j
  | .releaseLane _ _ j => bytesOf 1 j
  | .reclaimLane _ _ j => bytesOf 1 j
  | .openLane _ _ j => bytesOf 1 j
  | .closeLane _ _ j => bytesOf 1 j
  | .setLaneFunction _ _ j f => bytesOf 1 j ++ bytesOf 1 f
  | .setLaneGroup _ _ j g => bytesOf 1 j ++ bytesOrFF 1 g
  | .resetLaneFault _ _ j => bytesOf 1 j
  | .queryLane _ _ j => bytesOrFF 1 j
  | .queryDiversion _ _ j => bytesOrFF 1 j
  | .queryStrays _ _ => []
  | .setMode _ _ m => bytesOf 1 m
  | .forceSetup _ _ => []
  | .clearSort _ _ => []
  | .queryMode _ _ => []
  | .attach _ _ p => bytesOf 1 p
  | .detach _ _ => []
  | .linkCheck _ _ => []
  | .restoreLink _ _ n => bytesOf 1 n
  | .setLinkPermission _ _ n p a => bytesOf 1 n ++ bytesOf 1 p ++ flagByte a
  | .setNoticeClasses _ _ c => [c]
  | .queryLinks _ _ => []

/-! ## Frames -/

/-- The parts of the state. -/
inductive Part
  | loop | carriers | induction | stations | berths | router | lanes | diverters | coding | mode | links | lastServed
  | principals | orders | wires | pending
deriving DecidableEq, Repr

/-- Two states agree on a part. -/
def Part.same (s t : State) : Part → Prop
  | .loop => t.loop = s.loop
  | .carriers => t.carriers = s.carriers
  | .induction => t.induction = s.induction
  | .stations => t.stations = s.stations
  | .berths => t.berths = s.berths
  | .router => t.router = s.router
  | .lanes => t.lanes = s.lanes
  | .diverters => t.diverters = s.diverters
  | .coding => t.coding = s.coding
  | .mode => t.mode = s.mode
  | .links => t.links = s.links
  | .lastServed => t.lastServed = s.lastServed
  | .principals => t.principals = s.principals
  | .orders => t.orders = s.orders
  | .wires => t.wires = s.wires
  | .pending => t.pending = s.pending

/-- `t` differs from `s` in no part but those listed. -/
def State.changesOnly (s t : State) (parts : List Part) : Prop :=
  ∀ p, p ∉ parts → p.same s t

/-- A carrier record changed in no field but its target and its armed flag. -/
def Carrier.retargeted (c c' : Carrier) : Prop :=
  c' = { c with target := c'.target, armed := c'.armed }

/-- A lane record changed in no field but its inbound. -/
def Lane.rebooked (x x' : Lane) : Prop :=
  x' = { x with inbound := x'.inbound }

/-- The targets of some carriers were dropped or chosen: nothing else of those carriers, no other carrier and no count
changed (R91, R95). -/
def State.carriersRetarget (s t : State) (ks : List Nat) : Prop :=
  t.carriers.table.length = s.carriers.table.length ∧ t.carriers.loaded = s.carriers.loaded
    ∧ t.carriers.unverified = s.carriers.unverified ∧ (∀ k, (s.carrier k).retargeted (t.carrier k))
    ∧ ∀ k, k ∉ ks → t.carrier k = s.carrier k

/-- The targets of some carriers were dropped or chosen, and nothing else happened: of the lanes only inbounds changed,
and no other part of the state (R91, R95, R96). -/
def State.retargets (s t : State) (ks : List Nat) : Prop :=
  s.changesOnly t [.carriers, .lanes] ∧ (∀ j, (s.lane j).rebooked (t.lane j)) ∧ s.carriersRetarget t ks

/-- A carrier record that entered a disposition (R85), with whatever target the choice gave it. -/
def Carrier.entered (c c' : Carrier) (d : Disposition) : Prop :=
  c' = { c with state := .carrying, disposition := some d, laps := 0, target := c'.target, armed := c'.armed }

/-- Some carriers entered a disposition, with their choices, and no other carrier changed (R85, R93). -/
def State.carriersEnter (s t : State) (ks : List Nat) (d : Disposition) : Prop :=
  t.carriers.table.length = s.carriers.table.length ∧ (∀ k, k ∉ ks → t.carrier k = s.carrier k)
    ∧ ∀ k ∈ ks, (s.carrier k).entered (t.carrier k) d

/-- Some carriers entered a disposition, with their choices: of the lanes only inbounds changed, and no other part of
the state (R85, R93). -/
def State.disposes (s t : State) (ks : List Nat) (d : Disposition) : Prop :=
  s.changesOnly t [.carriers, .lanes] ∧ (∀ j, (s.lane j).rebooked (t.lane j)) ∧ s.carriersEnter t ks d

/-- A lane record as the per-berth clear and RELEASE LANE return it to the hall (R58, R110). -/
def Lane.handedBack (x : Lane) : Lane :=
  ⟨x.offset, x.capacity, x.fill, x.inbound, .hall, .makeup, none, .closed⟩

/-- R58: berth `b` was cleared: its record emptied, its references removed from both lists, its lanes handed back to the
hall; the other berth is as it was, and of the other lanes only inbounds changed. -/
def State.berthCleared (s t : State) (b : BerthId) : Prop :=
  t.berth b = ⟨.unbound, [], [], Vector.replicate 24 none⟩ ∧ (∀ o, o ≠ b → t.berth o = s.berth o)
    ∧ t.coding = { s.coding with
        strays := s.coding.strays.map fun r => if r.berth = some b then { r with berth := none, entry := none } else r
        reinject := s.coding.reinject.map fun r =>
          if r.berth = some b then { r with berth := none, entry := none } else r }
    ∧ ∀ j, (if (s.lane j).owner = .berth b then (s.lane j).handedBack else s.lane j).rebooked (t.lane j)

/-- The LANE STATE notice of a lane as it stands in a state (R121). -/
def laneNotice (t : State) (j : LaneNo) (cause : LaneCause) (reclaimedFrom : Option Principal) : NoticeBody :=
  .laneState j (t.lane j).owner (t.lane j).function (t.lane j).group (t.lane j).state (t.lane j).fill (t.lane j).inbound
    (t.lane j).capacity cause reclaimedFrom

/-- R155: the mode after a change, with its notice to all three principals; reservations end when the mode leaves RUN
(R154). -/
def State.withMode (s : State) (new : Mode) (cause : ModeCause) : State :=
  State.postAll
    { s with
      mode := new
      carriers := { s.carriers with
        table := if s.mode = .run then s.carriers.table.map fun c => { c with reservation := none }
          else s.carriers.table } }
    (.modeChanged s.mode new cause s.carriers.loaded s.carriers.unverified)

/-- A carrier record as a slip and the exit from HALTED leave it (R14, R159). -/
def Carrier.lost (c : Carrier) : Carrier :=
  if c.state = .empty ∨ c.state = .fired then c
  else
    { c with
      state := .unverified, identity := none, candidate := none, disposition := none, target := none, armed := false
      laps := 0, tries := 0 }

/-- A cabin record without its two counts. -/
def Cabin.uncounted (c : Cabin) : Cabin :=
  { c with delivered := 0, inHold := 0 }

/-- R61, Table 4-4: the cabins of a berth after some of its entries became EXPECTED, none joined and none left: every cabin
is kept with its deck, expected count, held flag and list, and its two counts too when none of those entries was DELIVERED or
IN_HOLD. -/
def Berth.keepsCabins (r r' : Berth) (touched : Nat → Bool) : Prop :=
  r'.cabins.map Cabin.uncounted = r.cabins.map Cabin.uncounted
    ∧ ((∀ e ∈ r.tags, touched e.index = true → e.state ≠ .delivered ∧ e.state ≠ .inHold) → r'.cabins = r.cabins)

/-- Berth `b` is CLOSING and holds no bag once track is lost: none of its identities is a FIRED carrier's (R15, R159; no
EMPTY carrier holds one in any run). -/
def State.leftByLoss (s : State) (b : BerthId) : Bool :=
  (s.berth b).state.isClosing && s.carriers.table.all fun c => !c.isOf b || c.losesIdentity

/-- R14, R15, R58, R159: what a loss of track makes of berths, lists and lanes. A CLOSING berth left without bags is
cleared, both lists lose their references to it (log 11) and its lanes go back to the hall; in any other berth the entries
that were identities of the lost carriers are EXPECTED and the cabins are kept; every lane's inbound falls by the units of the lost carriers that
it was the target of. -/
def State.berthsLost (s t : State) : Prop :=
  let gone (b : Option BerthId) : Bool := b.any s.leftByLoss
  (∀ b, s.leftByLoss b = true → t.berth b = ⟨.unbound, [], [], Vector.replicate 24 none⟩)
    ∧ (∀ b, s.leftByLoss b = false →
      (t.berth b).state = (s.berth b).state ∧ (t.berth b).deckMap = (s.berth b).deckMap
        ∧ (s.berth b).keepsCabins (t.berth b)
          (fun i => s.carriers.table.any fun c => c.losesIdentity && c.identity == some ⟨b, i⟩)
        ∧ ∀ i, (t.berth b).findEntry i = ((s.berth b).findEntry i).map fun e =>
          if s.carriers.table.any (fun c => c.losesIdentity && c.identity == some ⟨b, i⟩) then
            { e with state := .expected, ticket := none }
          else e)
    ∧ t.coding = { s.coding with
        strays := s.coding.strays.map fun r => if gone r.berth then { r with berth := none, entry := none } else r
        reinject := s.coding.reinject.map fun r => if gone r.berth then { r with berth := none, entry := none } else r }
    ∧ ∀ j, t.lane j = { (match (s.lane j).owner with
        | .hall => s.lane j
        | .berth b => if s.leftByLoss b then (s.lane j).handedBack else s.lane j) with
      inbound := (s.lane j).inbound
        - ((s.carriers.table.filter fun c => c.losesIdentity && c.target == some j).map Carrier.units).sum }

/-- R14, R159: every loaded carrier that is not FIRED has become UNVERIFIED, and berths, lists and lanes have followed. -/
def State.trackLost (s t : State) : Prop :=
  t.carriers.table.length = s.carriers.table.length ∧ (∀ k, t.carrier k = (s.carrier k).lost) ∧ s.berthsLost t

/-! ## Safe states -/

/-- The load units of the carriers whose target is lane `j`, tentative, armed and FIRED alike (R106). -/
def State.promised (s : State) (j : LaneNo) : Nat :=
  (s.carriers.table.map fun c => if c.target = some j then c.units else 0).sum

/-- R1, R8, R12: the table has one record for each carrier, and the two counts count it. -/
def State.counted (s : State) : Prop :=
  s.carriers.table.length = s.loop.count ∧ s.carriers.loaded = s.carriers.table.countP (·.isLoaded)
    ∧ s.carriers.unverified = s.carriers.table.countP (·.isUnverified)

/-- The ranges of the Loop Tracker's, the Induction Controller's and the Route Selector's values (Tables 1-1, 2-1, 5-1). -/
def State.settingsInRange (s : State) : Prop :=
  64 ≤ s.loop.count ∧ s.loop.count ≤ 1024 ∧ s.loop.position < s.loop.count ∧ 2 ≤ s.loop.commit ∧ s.loop.commit ≤ 15
    ∧ s.loop.revolutions < 65536 ∧ s.loop.slips ≤ 255 ∧ s.loop.homeMissed ≤ 255
    ∧ 1 ≤ s.induction.loadLimit ∧ s.induction.loadLimit ≤ s.loop.count
    ∧ 8 ≤ s.induction.starveLimit ∧ s.induction.starveLimit ≤ 255
    ∧ 1 ≤ s.router.lapLimit ∧ s.router.lapLimit ≤ 15 ∧ s.router.waitLimit ≤ 7

/-- The ranges of the counts and scores that saturate (R8, R22, R36, R123, R136, R163). -/
def State.scoresInRange (s : State) : Prop :=
  (∀ c ∈ s.carriers.table, c.laps ≤ 15 ∧ c.tries ≤ 2)
    ∧ (∀ i, ∀ w ∈ (s.point i).waiting, w.wait ≤ 255)
    ∧ (∀ n, ∀ h, ((s.station n).head h).score ≤ 255)
    ∧ (∀ j, (s.diverter j).score ≤ 31)
    ∧ 1 ≤ s.coding.ticketCounter ∧ s.coding.ticketCounter ≤ 4095 ∧ s.coding.unlisted ≤ 255
    ∧ ∀ l, (s.link l).errorCount ≤ 255 ∧ (s.link l).checkCount ≤ 16

/-- The capacities of the queues, lists and tables (R59, R60, R86, R136, R163, R175, R184). -/
def State.withinCapacity (s : State) : Prop :=
  s.orders.length ≤ 32 ∧ (∀ p, (s.principal p).notices.length ≤ 32) ∧ (∀ l, (s.link l).queue.length ≤ 4)
    ∧ s.router.pendingTags.length ≤ 32 ∧ s.coding.strays.length ≤ 64 ∧ s.coding.reinject.length ≤ 16
    ∧ ∀ b, (s.berth b).cabins.length ≤ 3072 ∧ (s.berth b).tags.length ≤ 8192

/-- R106 with what it leans on: no EMPTY carrier has a target (R9), no carrier has one in SETUP (R151), each lane's
inbound is what is promised at it, and fill plus inbound is within the capacity, which is at most 255. -/
def State.roomKept (s : State) : Prop :=
  s.counted ∧ (∀ c ∈ s.carriers.table, c.state = .empty → c.target = none)
    ∧ (s.mode = .setup → ∀ c ∈ s.carriers.table, c.target = none)
    ∧ ∀ j, (s.lane j).inbound = s.promised j ∧ (s.lane j).fill + (s.lane j).inbound ≤ (s.lane j).capacity
      ∧ (s.lane j).capacity ≤ 255

/-- R53, R103, R108: the berths' ship codes differ; a lane's owner is HALL or a berth that is not UNBOUND; its function
is one its owner may have; it has a group only as a berth's MAKEUP lane. -/
def State.ownersAgree (s : State) : Prop :=
  (∀ c, s.berths.one.state.ship = some c → s.berths.two.state.ship ≠ some c)
    ∧ (∀ b c, (s.berth b).state.ship = some c → 1 ≤ c ∧ c ≤ 63)
    ∧ ∀ j, (∀ b, (s.lane j).owner = .berth b → (s.berth b).state.isOpen = true)
      ∧ (s.lane j).owner.mayChoose (s.lane j).function = true
      ∧ ((s.lane j).group ≠ none → (s.lane j).owner ≠ .hall ∧ (s.lane j).function = .makeup)

/-- R163, R166, R172, R174: a principal is attached to one link at most; the check count is 0 unless MUTED; a MUTED
link's queue is empty; HALL is allowed on some link. -/
def State.linksAgree (s : State) : Prop :=
  (∀ p l m, (s.link l).state = .attached p → (s.link m).state = .attached p → l = m)
    ∧ (∀ l, (s.link l).state ≠ .muted → (s.link l).checkCount = 0)
    ∧ (∀ l, (s.link l).state = .muted → (s.link l).queue = []) ∧ ∃ l, (s.link l).allowed.hall = true

/-- R21, R22, R30: one point at most carries the mark; a point holds a waiting bag only while it takes part, and a
ticket only with the mark; reservations exist only in RUN, one at most for a point, and only while it holds a bag. -/
def State.pointsAgree (s : State) : Prop :=
  (∀ i q, (s.point i).mark = true → (s.point q).mark = true → i = q)
    ∧ (∀ i, ∀ w ∈ (s.point i).waiting, (s.point i).takesPart = true ∧ (w.ticket ≠ none → (s.point i).mark = true))
    ∧ (∀ c ∈ s.carriers.table, c.reservation ≠ none → s.mode = .run)
    ∧ ∀ i, s.carriers.table.countP (fun c => c.reservation == some i) ≤ if (s.point i).waiting.isSome then 1 else 0

/-- R35, R36, R38: head counts, priority sets, polls and votes are in range, and every station has a head that is not
suspended. -/
def State.stationsRead (s : State) : Prop :=
  ∀ n, 1 ≤ (s.station n).heads ∧ (s.station n).heads ≤ 8
    ∧ (s.station n).priority.length ≤ 4 ∧ (s.station n).priority.Nodup
    ∧ (∀ h ∈ (s.station n).priority, h < (s.station n).heads)
    ∧ 1 ≤ (s.station n).polls ∧ (s.station n).polls ≤ 16
    ∧ 1 ≤ (s.station n).votes ∧ (s.station n).votes ≤ 8 ∧ (s.station n).votes ≤ (s.station n).polls
    ∧ (s.station n).pollNumber < 256 ∧ (s.station n).polled ≠ []

/-- R141, R184: the exchange is open exactly while the last record of its answer waits in the order queue. -/
def State.exchangeAgrees (s : State) : Prop :=
  s.orders.countP (·.endsExchange) = if s.coding.exchange.isSome then 1 else 0

/-- The entries of a tag table that name a cabin. -/
def Berth.entriesIn (r : Berth) (cabin : Nat) : List Entry :=
  r.tags.filter fun e => e.cabin == cabin

/-- R59, R60, R61: cabins and entries stand in ascending order, each number and each serial once; every entry names a
cabin of the table; each cabin's list holds the indexes of its entries, each once and at most 15, and its two counts count
them. -/
def Berth.manifestAgrees (r : Berth) : Prop :=
  (r.cabins.map (·.number)).Pairwise (· < ·) ∧ (r.tags.map (·.index)).Pairwise (· < ·)
    ∧ (r.tags.filterMap (·.serial)).Nodup ∧ (∀ e ∈ r.tags, ∃ c ∈ r.cabins, c.number = e.cabin)
    ∧ ∀ c ∈ r.cabins, c.entries.Nodup ∧ c.entries.length ≤ 15
      ∧ (∀ i, i ∈ c.entries ↔ ∃ e ∈ r.entriesIn c.number, e.index = i)
      ∧ c.delivered = (r.entriesIn c.number).countP (fun e => e.state == .delivered)
      ∧ c.inHold = (r.entriesIn c.number).countP (fun e => e.state == .inHold)

/-- Both berths' manifests agree in themselves, and a berth that is UNBOUND holds nothing (R53, R58). -/
def State.manifestsAgree (s : State) : Prop :=
  ∀ b, (s.berth b).manifestAgrees ∧ ((s.berth b).state = .unbound → (s.berth b).cabins = [] ∧ (s.berth b).tags = [])

/-! ## Agreement between tables -/

/-- R5: every station offset, of an induction point, a read station or a lane, is below C. -/
def State.offsetsInRange (s : State) : Prop :=
  (∀ i, ∀ d ∈ (s.point i).offset, d < s.loop.count) ∧ (∀ n, ∀ d ∈ (s.station n).offset, d < s.loop.count)
    ∧ ∀ j, ∀ d ∈ (s.lane j).offset, d < s.loop.count

/-- R9, Table 1-5: the fields that a carrier record holds in its state. -/
def Carrier.fieldsAgree (c : Carrier) : Prop :=
  (c.state = .empty → c = { Carrier.empty with reservation := c.reservation })
    ∧ (c.state ≠ .empty → c.size ≠ none ∧ c.origin ≠ none ∧ c.reservation = none)
    ∧ ((c.state = .unread ∨ c.state = .unverified) →
      c.identity = none ∧ c.candidate = none ∧ c.disposition = none ∧ c.target = none)
    ∧ (c.state = .waiting → c.identity = none ∧ c.candidate ≠ none ∧ c.disposition = none ∧ c.target = none)
    ∧ ((c.state = .carrying ∨ c.state = .fired) → c.disposition ≠ none
      ∧ (c.identity ≠ none ↔ c.disposition = some .delivery ∨ c.disposition = some .hold))
    ∧ (c.state = .fired → c.target ≠ none) ∧ (c.armed = true → c.state = .carrying ∧ c.target ≠ none)

/-- R9, R151: every carrier record holds the fields of its state, and in SETUP every carrier is EMPTY. -/
def State.carriersAgree (s : State) : Prop :=
  ∀ c ∈ s.carriers.table, c.fieldsAgree ∧ (s.mode = .setup → c.state = .empty)

/-- R10: an ON_LOOP entry is the identity of exactly one carrier, any other entry of none, and every identity is an ON_LOOP
entry of a BOUND or CLOSING berth. -/
def State.identitiesAgree (s : State) : Prop :=
  (∀ b, ∀ e ∈ (s.berth b).tags, s.carriers.table.countP (fun c => c.identity == some ⟨b, e.index⟩)
      = if e.state = .onLoop then 1 else 0)
    ∧ ∀ c ∈ s.carriers.table, ∀ d ∈ c.identity, (s.berth d.berth).state.isOpen = true
      ∧ ∃ e ∈ (s.berth d.berth).tags, e.index = d.entry ∧ e.state = .onLoop

/-- R86: each carrier, and each pair of berth and serial, has one pending record at most; the carrier of every record is
WAITING, with the ship code of the record's BOUND berth and its serial as candidate; and every WAITING carrier has one. -/
def State.pendingAgrees (s : State) : Prop :=
  (s.router.pendingTags.map (·.carrier)).Nodup ∧ (s.router.pendingTags.map fun r => (r.berth, r.serial)).Nodup
    ∧ (∀ r ∈ s.router.pendingTags, (s.carrier r.carrier).state = .waiting
      ∧ ∃ t ∈ (s.carrier r.carrier).candidate, t.serial = r.serial ∧ (s.berth r.berth).state = .bound t.ship)
    ∧ ∀ k, (s.carrier k).state = .waiting → ∃ r ∈ s.router.pendingTags, r.carrier = k

/-- R124: the entries of a lane's armed queue are the carriers armed at it, CARRYING, at distances of 1 to K - 1 that rise
along the queue; in SETUP and HALTED no queue holds any (R126). -/
def State.armedAgrees (s : State) : Prop :=
  (∀ j, ∀ k ∈ (s.diverter j).queue, (s.carrier k).state = .carrying ∧ (s.carrier k).armed = true
      ∧ (s.carrier k).target = some j
      ∧ ∃ d ∈ (s.lane j).offset, 0 < s.loop.distance k d ∧ s.loop.distance k d < s.loop.commit)
    ∧ (∀ j, ((s.diverter j).queue.map fun k => s.loop.distance k ((s.lane j).offset.getD 0)).Pairwise (· < ·))
    ∧ (∀ k j, (s.carrier k).armed = true → (s.carrier k).target = some j → k ∈ (s.diverter j).queue)
    ∧ ((s.mode = .setup ∨ s.mode = .halted) → ∀ j, (s.diverter j).queue = [])

/-- The tickets of both lists' records with the berth and the entry that each names (R136). -/
def Coding.references (c : Coding) : List (Nat × Option BerthId × Option Nat) :=
  (c.strays.map fun r => (r.ticket, r.berth, r.entry)) ++ c.reinject.map fun r => (r.ticket, r.berth, r.entry)

/-- R136, R63: no ticket is held by two records of the lists together; a record that names an entry names its berth too,
and that entry is STRAYED with the record's ticket; and an entry holds a ticket only as such a record's entry. -/
def State.ticketsAgree (s : State) : Prop :=
  (s.coding.references.map (·.1)).Nodup
    ∧ (∀ r ∈ s.coding.references, 1 ≤ r.1 ∧ r.1 ≤ 4095 ∧ (r.2.2 ≠ none → r.2.1 ≠ none)
      ∧ (∀ b ∈ r.2.1, (s.berth b).state.isOpen = true)
      ∧ ∀ b ∈ r.2.1, ∀ i ∈ r.2.2, ∃ e ∈ (s.berth b).tags, e.index = i ∧ e.state = .strayed ∧ e.ticket = some r.1)
    ∧ ∀ b, ∀ e ∈ (s.berth b).tags, ∀ t ∈ e.ticket,
      e.state = .strayed ∧ (t, some b, some e.index) ∈ s.coding.references

/-- The agreements between tables, with the ranges, capacities and manifests that they lean on. -/
def State.tablesAgree (s : State) : Prop :=
  s.counted ∧ s.settingsInRange ∧ s.scoresInRange ∧ s.withinCapacity ∧ s.ownersAgree ∧ s.manifestsAgree
    ∧ s.offsetsInRange ∧ s.carriersAgree ∧ s.identitiesAgree ∧ s.pendingAgrees ∧ s.armedAgrees ∧ s.ticketsAgree

end Sys2Proof.Machine
end

