-- ==== Sys2Proof/WellFormed.lean ====
section
/-! DEFINITION. The commands and events that the part's lines can carry: every field fits the width that Table 11-1
gives it, no value stands where a reserved code stands, received characters make up what their row names. A value
outside its stated range is well formed: the command's own rule judges it (R180). -/

namespace Sys2Proof

/-- A one-byte field. -/
def fits1 (n : Nat) : Bool := n < 0x100

/-- A two-byte field. -/
def fits2 (n : Nat) : Bool := n < 0x10000

/-- A three-byte field. -/
def fits3 (n : Nat) : Bool := n < 0x1000000

/-- A station offset: FFFFh is unconfigured, so no offset is written with it. -/
def fitsOffset : Option Nat → Bool
  | none => true
  | some n => n < 0xFFFF

/-- A one-byte field whose code FFh is none or all. -/
def fitsOrNone : Option Nat → Bool
  | none => true
  | some n => n < 0xFF

/-- An entry reference in its three bytes. -/
def EntryRef.fits : EntryRef → Bool
  | .serial n => fits3 n
  | .index n => fits2 n

/-- The check of a command or event, constructor by constructor. -/
def Instr.wellFormed : Instr → Bool
  | .powerOn => true
  | .advance _ => true
  | .pollAnswer s h n c r => fits1 s && fits1 h && fits1 n && fits1 c && fits3 r
  | .waitExpiry k => fits2 k
  | .lapLimit k => fits2 k
  | .noReportTimeout k => fits2 k
  | .bagPresented p _ t => fits1 p && fits2 t
  | .bagWithdrawn p => fits1 p
  | .divertDone j k => fits1 j && fits2 k
  | .divertFailed j k => fits1 j && fits2 k
  | .laneFull j => fits1 j
  | .laneEmptied j => fits1 j
  | .fetch t => fits2 t
  | .codeTag t c r => fits2 t && fits1 c && fits3 r
  | .codeCabin t b c => fits2 t && fits1 b && fits2 c
  | .remove t => fits2 t
  | .retry t => fits2 t
  | .fieldRecordBad record => judgeRecord record == .bad
  | .orderSent => true
  | .drainComplete => true
  | .closingComplete b => fits1 b
  | .frameReceived _ characters => judgeFrame characters != .incomplete
  | .lineBreak _ => true
  | .noticeSent _ => true
  | .replySent _ _ => true
  | .configureLoop _ _ c k => fits2 c && fits1 k
  | .queryPosition _ _ => true
  | .queryCarrier _ _ k => fits2 k
  | .configureInductionPoint _ _ p o _ _ => fits1 p && fitsOffset o
  | .setLoadLimit _ _ n => fits2 n
  | .setStarveLimit _ _ n => fits1 n
  | .queryInduction _ _ => true
  | .configureReadStation _ _ s o h ps _ =>
    fits1 s && fitsOffset o && fits1 h && ps.length ≤ 51 && ps.all fits1
  | .setReadVoting _ _ s w v => fits1 s && fits1 w && fits1 v
  | .restoreHead _ _ s h => fits1 s && fits1 h
  | .queryReadStation _ _ s => fits1 s
  | .openBerth _ _ b c => fits1 b && fits1 c
  | .closeSailing _ _ => true
  | .forceClose _ _ b => fits1 b
  | .loadCabin _ _ c d x => fits2 c && fits1 d && fits1 x
  | .setCabinHold _ _ c _ => fits2 c
  | .loadTag _ _ r c => fits3 r && fits2 c
  | .moveTag _ _ e c => e.fits && fits2 c
  | .withdrawTag _ _ e => e.fits
  | .releaseHoldBag _ _ e => e.fits
  | .setDeckGroup _ _ d g => fits1 d && fitsOrNone g
  | .queryTag _ _ b e => (b.all fits1) && e.fits
  | .queryCabin _ _ b c => (b.all fits1) && fits2 c
  | .queryBerth _ _ b => fits1 b
  | .setLapLimits _ _ m w => fits1 m && fits1 w
  | .queryPending _ _ => true
  | .configureLane _ _ j o c => fits1 j && fitsOffset o && fits1 c
  | .setLaneCapacity _ _ j c => fits1 j && fits1 c
  | .claimLane _ _ j => fits1 j
  | .releaseLane _ _ j => fits1 j
  | .reclaimLane _ _ j => fits1 j
  | .openLane _ _ j => fits1 j
  | .closeLane _ _ j => fits1 j
  | .setLaneFunction _ _ j f => fits1 j && fits1 f
  | .setLaneGroup _ _ j g => fits1 j && fitsOrNone g
  | .resetLaneFault _ _ j => fits1 j
  | .queryLane _ _ j => fitsOrNone j
  | .queryDiversion _ _ j => fitsOrNone j
  | .queryStrays _ _ => true
  | .setMode _ _ m => fits1 m
  | .forceSetup _ _ => true
  | .clearSort _ _ => true
  | .queryMode _ _ => true
  | .attach _ _ p => fits1 p
  | .detach _ _ => true
  | .linkCheck _ _ => true
  | .restoreLink _ _ n => fits1 n
  | .setLinkPermission _ _ n p _ => fits1 n && fits1 p
  | .setNoticeClasses _ _ _ => true
  | .queryLinks _ _ => true

end Sys2Proof
end

