-- ==== Sys2Proof/Certificates/Slice0/Obligations.lean ====
section
/-! DEFINITION. The statements for the provers, family by family. A statement about a command starts from the state of
the link it came on: `(s.link l).state = .attached p` says that the command acts for principal `p` (R171). Its next state
is written as the command's effect on `s.setLastServed l`, the state with the link made the last served, followed by
`replyOk`, which appends the reply's frames to the link's unsent replies, or by `replyRefused`, which appends a refusal
and has no other effect. -/

section

open Sys2Proof Sys2Proof.Machine

/-! ## The queue of commands, the command processor, power-on -/

/-- Log 1: the command at the front of the queue is taken, with the queue's rest. -/
def Obligations.StepTakesTheFront : Prop :=
  ∀ (s : State) (c : Instr) (rest : List Instr), s.pending = c :: rest → step s = exec c { s with pending := rest }

/-- R171, with log 2 for an empty queue: the processor serves the first link after the last-served link, in rotation,
whose queue holds a frame; it removes the head frame and takes the command it spells; a frame that spells none is
refused; with no frame waiting nothing happens. -/
def Obligations.ProcessorServesInRotation : Prop :=
  ∀ s : State, s.pending = [] →
    ((∀ l, (s.link l).queue = []) → step s = .next s)
    ∧ ∀ (i : LinkNo) (f : CommandFrame) (rest : List CommandFrame),
      (∀ m, m < i → (s.link (s.lastServed + 1 + m)).queue = []) →
      (s.link (s.lastServed + 1 + i)).queue = f :: rest →
      let l := s.lastServed + 1 + i
      let s' := s.setLink l { s.link l with queue := rest }
      (∀ c, decodeCommand l f = some c → step s = exec c s')
        ∧ (decodeCommand l f = none →
          step s = .next ((s'.setLastServed l).replyRefused l f.tag f.kind.toNat
            (if (s.link l).state = .idle ∧ f.kind ≠ 0x2C ∧ f.kind ≠ 0x2E then .notAttached else .badValue)))

/-- No command, no event and no step stops the part, and no command touches the commands that wait behind it (at POWER_ON
the model's choice: log 32). -/
def Obligations.EveryCommandCompletes : Prop :=
  (∀ (c : Instr) (s : State), ∃ t, exec c s = .next t ∧ t.pending = s.pending) ∧ ∀ s : State, ∃ t, step s = .next t

/-- Power-on gives every block the values of its table (Tables 1-1, 1-4, 2-1, 3-1, 5-1, 7-1, 8-1, 10-1; R53, R103,
R151); that no frame waits to be sent is the model's choice (log 33), and so is that the model's queue is kept (log
32). The state after power-on is safe in every respect that the statements below carry through every step. -/
def Obligations.PowerOnLeavesASafeState : Prop :=
  ((∀ s : State, exec .powerOn s = .next { State.reset with pending := s.pending })
    ∧ State.reset.loop = ⟨512, 4, 0, 0, 0, 0⟩
    ∧ State.reset.carriers
      = ⟨List.replicate 512 ⟨.empty, none, none, none, none, none, none, none, false, 0, 0, none⟩, 0, 0⟩
    ∧ (∀ i, State.reset.point i = ⟨none, false, false, none⟩)
    ∧ State.reset.induction.loadLimit = 448 ∧ State.reset.induction.starveLimit = 40
    ∧ (∀ n, State.reset.station n = ⟨none, false, 1, [], 8, 2, 0, Vector.replicate 8 ⟨0, false, false⟩, none⟩)
    ∧ (∀ b, State.reset.berth b = ⟨.unbound, [], [], Vector.replicate 24 none⟩)
    ∧ State.reset.router = ⟨3, 2, []⟩
    ∧ (∀ j, State.reset.lane j = ⟨none, 0, 0, 0, .hall, .makeup, none, .closed⟩ ∧ State.reset.diverter j = ⟨[], 0⟩)
    ∧ State.reset.coding = ⟨[], [], 1, 0, none⟩ ∧ State.reset.mode = .setup
    ∧ (∀ l, State.reset.link l = ⟨.idle, 0, 0, [], ⟨true, true, true⟩, [], []⟩) ∧ State.reset.lastServed = 3
    ∧ (∀ p, State.reset.principal p = ⟨[], false, 0xFF⟩) ∧ State.reset.orders = [])
  ∧ State.reset.roomKept ∧ State.reset.settingsInRange ∧ State.reset.scoresInRange ∧ State.reset.stationsRead
    ∧ State.reset.withinCapacity ∧ State.reset.exchangeAgrees ∧ State.reset.ownersAgree ∧ State.reset.linksAgree
    ∧ State.reset.pointsAgree ∧ State.reset.manifestsAgree ∧ State.reset.tablesAgree

/-! ## Invariants that every step keeps -/

/-- R106, R12, R9: every step keeps each lane's inbound equal to the load units of the carriers whose target is the
lane, and fill plus inbound within capacity; and the loaded and unverified counts right. -/
def Obligations.StepKeepsRoom : Prop :=
  ∀ s t : State, s.roomKept → step s = .next t → t.roomKept

/-- R5, R9, R10, R151: every step keeps each carrier's fields as Table 1-5 has them for its state, every ON_LOOP entry the
identity of exactly one carrier and every identity an ON_LOOP entry of an open berth, every offset below C, and the loop
empty in SETUP. -/
def Obligations.StepKeepsIdentities : Prop :=
  ∀ s t : State, s.tablesAgree → step s = .next t → t.offsetsInRange ∧ t.carriersAgree ∧ t.identitiesAgree

/-- R86, R124: every step keeps the pending-tag list and the WAITING carriers, and the armed queues and the armed carriers,
in correspondence, the queues in order of distance and short of K. -/
def Obligations.StepKeepsPendingAndArmed : Prop :=
  ∀ s t : State, s.tablesAgree → step s = .next t → t.pendingAgrees ∧ t.armedAgrees

/-- R63, R136: every step keeps tickets unique over the stray list and the reinject list, every record's entry STRAYED with
the record's ticket, and no ticket on any other entry. -/
def Obligations.StepKeepsTickets : Prop :=
  ∀ s t : State, s.tablesAgree → step s = .next t → t.ticketsAgree

/-- Tables 1-1, 2-1, 3-1, 5-1 and R8, R22, R35, R36, R123, R136, R163: every step keeps every setting, position,
count and score in its range, and every station with a head that is not suspended. -/
def Obligations.StepKeepsRanges : Prop :=
  ∀ s t : State, s.settingsInRange → s.scoresInRange → s.stationsRead → step s = .next t →
    t.settingsInRange ∧ t.scoresInRange ∧ t.stationsRead

/-- R59, R60, R86, R136, R163, R175, R184: every step keeps every queue, list and table within its capacity; and an
exchange open exactly while the last record of its answer waits (R141; an ERROR record closes its exchange too, and
an answer dropped whole leaves none open: log 22). -/
def Obligations.StepKeepsCapacities : Prop :=
  (∀ s t : State, s.withinCapacity → step s = .next t → t.withinCapacity)
    ∧ ∀ s t : State, s.exchangeAgrees → step s = .next t → t.exchangeAgrees

/-- R53, R103, R108: every step keeps ship codes apart, lanes owned only by HALL or by an open berth, functions
allowed to their owners and groups only on berths' MAKEUP lanes. R163, R166, R172, R174: every step keeps each
principal on one link at most, MUTED links without frames, and HALL allowed on some link. -/
def Obligations.StepKeepsOwnersAndLinks : Prop :=
  (∀ s t : State, s.ownersAgree → step s = .next t → t.ownersAgree)
  ∧ ∀ s t : State, s.linksAgree → step s = .next t → t.linksAgree

/-- R21, R22, R30: every step keeps one mark at most, waiting bags and tickets where they may be, and reservations only
in RUN, one at most for a point and only for a waiting bag. -/
def Obligations.StepKeepsPoints : Prop :=
  ∀ s t : State, s.pointsAgree → step s = .next t → t.pointsAgree

/-! ## Authority and replies -/

/-- Table 10-2, R171: a command from an IDLE link is refused with NOT_ATTACHED, save ATTACH and LINK CHECK; a HALL
command from a berth principal and a berth command from HALL are refused with NOT_PERMITTED; a refusal changes no
table. From a MUTED link nothing but LINK CHECK acts (log 3). The refusal for want of authority comes before every
other check (log 48). -/
def Obligations.AuthorityIsChecked : Prop :=
  ∀ (c : Instr) (s : State) (l : LinkNo) (tag : Byte) (code : Nat), c.header = some (l, tag, code) →
    ((s.link l).state = .muted → code ≠ 0x2E → exec c s = .next s)
    ∧ ((s.link l).state = .idle → code ∉ openCodes →
        exec c s = .next ((s.setLastServed l).replyRefused l tag code .notAttached))
    ∧ (∀ b, (s.link l).state = .attached (.berth b) → code ∈ hallCodes →
        exec c s = .next ((s.setLastServed l).replyRefused l tag code .notPermitted))
    ∧ ((s.link l).state = .attached .hall → code ∈ berthCodes →
        exec c s = .next ((s.setLastServed l).replyRefused l tag code .notPermitted))

/-- R171: every command taken from a link that is not MUTED makes its link the last served and is answered by one
reply on it: a refusal, which has no other effect, or an OK reply. No other link gets a frame, but at ATTACH. R181:
what a reply appends, and nothing else changes. A refusal is one REFUSED frame. The parts of an OK reply carry the
command code and a part number, rising from 0, modulo 64 past part 63 (log 40), and flagged in the last part; every
part but the last has 55 data bytes and the last at most 55; together they are the reply data. -/
def Obligations.EveryCommandIsAnsweredOnce : Prop :=
  (∀ (c : Instr) (s : State) (l : LinkNo) (tag : Byte) (code : Nat), c.header = some (l, tag, code) →
    (s.link l).state ≠ .muted →
      ∃ t, exec c s = .next t ∧ t.lastServed = l
        ∧ ((∃ r, t = (s.setLastServed l).replyRefused l tag code r)
          ∨ ∃ data, (t.link l).replies = (s.link l).replies ++ okFrames tag code data)
        ∧ ∀ m, m ≠ l → code ≠ 0x2C → (t.link m).replies = (s.link m).replies)
  ∧ (∀ (s : State) (l : LinkNo) (tag : Byte) (code : Nat) (r : RefusalCode),
    s.replyRefused l tag code r = s.setLink l { s.link l with
      replies := (s.link l).replies ++ [⟨0x81, tag, [BitVec.ofNat 8 code, BitVec.ofNat 8 r.code], false⟩] })
  ∧ (∀ (s : State) (l : LinkNo) (tag : Byte) (code : Nat) (data : List Byte),
    s.replyOk l tag code data = s.setLink l { s.link l with replies := (s.link l).replies ++ okFrames tag code data })
  ∧ ∀ (tag : Byte) (code : Nat) (data : List Byte),
    let fs := okFrames tag code data
    fs ≠ [] ∧ (fs.map fun f => f.fields.drop 2).flatten = data
      ∧ ∀ i f, fs[i]? = some f →
        f.kind = 0x80 ∧ f.tag = tag ∧ (f.later = true ↔ 0 < i)
          ∧ f.fields.take 2
            = [BitVec.ofNat 8 code, BitVec.ofNat 8 (i % 64 + if i + 1 = fs.length then 128 else 0)]
          ∧ (f.fields.drop 2).length ≤ 55 ∧ (i + 1 < fs.length → (f.fields.drop 2).length = 55)

/-! ## Frames, fields and records -/

/-- R164, R165: characters hold a good frame exactly when, after characters that are no start byte, they hold the
bytes that Table 11-2 gives to a command kind, a tag and at most 57 bytes of fields, each received without errors.
That a row of FRAME_RECEIVED holds one frame with whatever stands around it is log 16. A start byte received with an
error begins no frame (log 53). -/
def Obligations.GoodFramesAreFramesSent : Prop :=
  ∀ (characters : List RxChar) (f : CommandFrame),
    judgeFrame characters = .good f ↔
      isCommandKind f.kind = true ∧ f.fields.length ≤ 57
        ∧ ∃ before after : List RxChar, (∀ c ∈ before, c.isMark 0xC3 = false)
          ∧ characters = before ++ (OutFrame.mk f.kind f.tag f.fields false).bytes.map cleanChar ++ after

/-- R179, R180, Table 11-5: every command whose fields fit their widths is read back from its own fields (the commit
distance in one byte: log 49; a cabin's expected count in one: log 50; a capacity and a link number in one: log 56;
codes of named values in one: log 39). -/
def Obligations.CommandsReadBack : Prop :=
  ∀ (c : Instr) (l : LinkNo) (tag : Byte) (code : Nat), c.header = some (l, tag, code) → c.wellFormed = true →
    decodeCommand l ⟨BitVec.ofNat 8 code, tag, commandFields c⟩ = some c

/-- R182, R183: an order record is a sync byte and eleven bytes whose sum is 0; a DONE answer's records carry at
most five bytes each, numbered and the last one flagged, and together its data. A bad record does nothing; a good
one does what its event does (a row of FIELD_RECORD_BAD whose characters make a good record: log 18); and eleven
clean bytes of sum 0 whose type and data spell an event are a good record of it. A sync byte received with an error
begins no record (log 53). R184: an order is appended to the order queue, or dropped when 32 wait; ORDER SENT takes
the head record, which has been sent in full, and closes the exchange when it was the last record of a coding answer
(R141); with none waiting it does nothing. ORDER SENT stands for one whole record (log 17), kept as sent in the
model's wires (log 24); an ERROR record closes its exchange as the last DONE record does (log 22). -/
def Obligations.FieldRecordsAndOrders : Prop :=
  ((∀ o : Order, o.data.length ≤ 9 →
    o.record.length = 12 ∧ o.record.head? = some 0x5A ∧ byteSum (o.record.drop 1) = 0)
  ∧ (∀ (q : CodingRequest) (ticket : Nat) (data : List Byte),
    ∃ parts : List (List Byte), parts.flatten = data ∧ (∀ p ∈ parts, p.length ≤ 5)
      ∧ doneRecords q ticket data
        = parts.zipIdx.map fun (p, i) => Order.done i (i + 1 == parts.length) q ticket p)
  ∧ (∀ (record : List RxChar) (s : State), judgeRecord record = .bad → exec (.fieldRecordBad record) s = .next s)
  ∧ (∀ (record : List RxChar) (s : State) (e : Instr), judgeRecord record = .good e →
    exec (.fieldRecordBad record) s = exec e s)
  ∧ ∀ (type : Byte) (data : List Byte) (e : Instr), data.length = 9 → decodeEvent type data = some e →
    judgeRecord ((0x5A :: type :: (data ++ [checkByte (type :: data)])).map cleanChar) = .good e)
  ∧ (∀ (s : State) (o : Order),
    s.handOver o = if s.orders.length < 32 then { s with orders := s.orders ++ [o] } else s)
  ∧ ∀ s : State,
    (s.orders = [] → exec .orderSent s = .next s)
    ∧ ∀ (o : Order) (rest : List Order), s.orders = o :: rest →
      exec .orderSent s = .next { s with
        orders := rest
        wires := { s.wires with field := o.record }
        coding := { s.coding with exchange := if o.endsExchange then none else s.coding.exchange } }

/-! ## Shared operations -/

/-- R46: NO_READ when no answer decoded a tag; AMBIGUOUS when two tags share the greatest count; WEAK when the greatest
count is below V; ACCEPTED with the tag of the greatest count otherwise. -/
def Obligations.WindowsAreTallied : Prop :=
  ∀ (answers : List Answer) (votes : Nat),
    let n (t : Tag) := answers.countP fun a => a.result == some t
    (tally answers votes = .noRead ↔ ∀ a ∈ answers, a.result = none)
    ∧ (tally answers votes = .ambiguous ↔ ∃ t u, t ≠ u ∧ 0 < n t ∧ n t = n u ∧ ∀ v, n v ≤ n t)
    ∧ (tally answers votes = .weak ↔ ∃ t, 0 < n t ∧ n t < votes ∧ ∀ u, u ≠ t → n u < n t)
    ∧ ∀ t, tally answers votes = .accepted t ↔ 0 < n t ∧ votes ≤ n t ∧ ∀ u, u ≠ t → n u < n t

/-- R137: the ticket issued is the first number, from the counter on and wrapping from 4095 to 1, that no record of
either list holds; with 80 records at most there is always one. R175: a notice of a class that its principal has not
selected leaves no trace; else it is appended, with the revolution count and loop position as its timestamp and the
gap flag set if one was lost before it; or, when 32 wait, it is dropped and the gap is pending. Nothing else
changes. -/
def Obligations.TicketsAndNoticesFollowTheirCounts : Prop :=
  (∀ c : Coding, 1 ≤ c.ticketCounter → c.ticketCounter ≤ 4095 → c.strays.length + c.reinject.length ≤ 80 →
    1 ≤ c.issued ∧ c.issued ≤ 4095 ∧ c.holdsTicket c.issued = false
      ∧ ∃ n, c.issued = Nat.repeat nextTicket n c.ticketCounter
        ∧ ∀ m, m < n → c.holdsTicket (Nat.repeat nextTicket m c.ticketCounter) = true)
  ∧ ∀ (s : State) (p : Principal) (body : NoticeBody),
    let r := s.principal p
    let t := s.post p body
    s.changesOnly t [.principals] ∧ (∀ q, q ≠ p → t.principal q = s.principal q)
      ∧ (r.classes.getLsbD body.classBit = false → t = s)
      ∧ (r.classes.getLsbD body.classBit = true → r.notices.length < 32 →
        t.principal p
          = ⟨r.notices ++ [⟨body, s.loop.revolutions, s.loop.position, r.gap⟩], false, r.classes⟩)
      ∧ (r.classes.getLsbD body.classBit = true → 32 ≤ r.notices.length →
        t.principal p = ⟨r.notices, true, r.classes⟩)

/-- R5, R6, R7: a carrier's distance to a station is below C and is 0 exactly for the carrier at the station; one
pitch forward brings every carrier one nearer and sends the carrier at the station to C - 1; the effective distance
is the distance when that is K or more, and C more when it is less. R89 to R92 (Table 5-5): in RUN, HOLD and
DRAINING a CARRYING carrier without a target is given the admitting lane of least effective distance of its first
candidate set, the lower number when equal; with none there, of its second set; with none there either it is left as
it was. For DELIVERY the sets are the berth's MAKEUP lanes of the group of the bag's deck and its OVERFLOW lanes,
for HOLD its HOLD lanes, for STRAY the hall's STRAY lanes; a lane admits when OPEN and with room for the bag's
units, and a stray only while the stray list holds fewer than 64 records (R90). The lane's inbound rises by the
bag's units in the same action. In other modes, and for other carriers, nothing is chosen. A lane without an offset
is passed over (log 26). R85, R95, R96: a re-choice drops a tentative target, releasing its units, and chooses
again; it leaves every other carrier as it was. A new disposition drops the target in the same way, sets laps to 0
and chooses. Several carriers are chosen for one after the other (log 8), each seeing the room that those before it
left (R93); a lane change drops every tentative target at the lane before the first choice. -/
def Obligations.NearestLaneByDistanceIsChosen : Prop :=
  (∀ (p : Loop) (k d : Nat), p.position < p.count → k < p.count → d < p.count →
    let next := { p with position := (p.position + 1) % p.count }
    p.distance k d < p.count
      ∧ (p.distance k d = 0 ↔ k = p.carrierAt d)
      ∧ (0 < p.distance k d → next.distance k d + 1 = p.distance k d)
      ∧ (p.distance k d = 0 → next.distance k d + 1 = p.count)
      ∧ p.effective k d = (if p.distance k d < p.commit then p.distance k d + p.count else p.distance k d))
  ∧ (∀ (s : State) (k : Nat),
    let c := s.carrier k
    let t := s.chooseTarget k
    let untargeted := c.state = .carrying ∧ c.target = none
    let units : Nat := match c.size with
      | none => 0
      | some .S => 1
      | some .M => 2
      | some .L => 3
    let stray : Bool := match c.disposition with
      | some (.stray _) => true
      | _ => false
    let group : Option Nat := c.identity.bind fun d => ((s.berth d.berth).findEntry d.entry).bind fun e =>
      ((s.berth d.berth).findCabin e.cabin).bind fun y => (s.berth d.berth).groupOf y.deck
    let ofBerth (x : Lane) : Bool := c.identity.any fun d => x.owner == .berth d.berth
    let admits (x : Lane) := x.state = .opened ∧ x.fill + x.inbound + units ≤ x.capacity
      ∧ (stray = true → s.coding.strays.length < 64)
    let inFirst (x : Lane) :=
      (c.disposition = some .delivery ∧ ofBerth x = true ∧ x.function = .makeup ∧ group ≠ none ∧ x.group = group)
      ∨ (c.disposition = some .hold ∧ ofBerth x = true ∧ x.function = .hold)
      ∨ (stray = true ∧ x.owner = .hall ∧ x.function = .stray)
    let inSecond (x : Lane) := c.disposition = some .delivery ∧ ofBerth x = true ∧ x.function = .overflow
    let first (j : LaneNo) (d : Nat) := (s.lane j).offset = some d ∧ inFirst (s.lane j) ∧ admits (s.lane j)
    let second (j : LaneNo) (d : Nat) := (s.lane j).offset = some d ∧ inSecond (s.lane j) ∧ admits (s.lane j)
    let given (j : LaneNo) := t = (s.setCarrier k { c with target := some j, armed := false }).setLane j
      { s.lane j with inbound := (s.lane j).inbound + units }
    let least (set : LaneNo → Nat → Prop) (j : LaneNo) (d : Nat) := set j d ∧ ∀ i e, set i e →
      s.loop.effective k d < s.loop.effective k e ∨ (s.loop.effective k d = s.loop.effective k e ∧ j ≤ i)
    ((s.mode = .setup ∨ s.mode = .halted ∨ ¬untargeted) → t = s)
    ∧ ((s.mode = .run ∨ s.mode = .hold ∨ s.mode = .draining) → untargeted →
      ((∃ j d, first j d) → ∃ j d, least first j d ∧ given j)
      ∧ ((¬∃ j d, first j d) → (∃ j d, second j d) → ∃ j d, least second j d ∧ given j)
      ∧ ((¬∃ j d, first j d) → (¬∃ j d, second j d) → t = s)))
  ∧ ∀ (s : State) (k : Nat) (ks : List Nat) (d : Disposition) (i j : LaneNo),
    let c := s.carrier k
    let tentative := c.state = .carrying ∧ c.armed = false ∧ c.target = some j
    let freed := (s.setCarrier k { c with target := none, armed := false }).setLane j
      { s.lane j with inbound := (s.lane j).inbound - c.units }
    let dropped := if c.target = some j then freed else s
    let given (u : State) := u.setCarrier k { u.carrier k with state := .carrying, disposition := some d, laps := 0 }
    let held := s.carriersWith fun c => c.state == .carrying && c.armed == false && c.target == some i
    (tentative → s.rechoose k = freed.chooseTarget k)
    ∧ ((c.state ≠ .carrying ∨ c.armed = true ∨ c.target = none) → s.rechoose k = s)
    ∧ ((c.target = some j ∨ c.target = none) →
      s.dropTarget k = dropped ∧ s.enterDisposition k d = given dropped
        ∧ s.giveDisposition k d = (given dropped).chooseTarget k)
    ∧ (s.chooseAll [] = s ∧ s.rechooseAll [] = s ∧ s.giveAll [] d = s ∧ s.dropTargets [] = s)
    ∧ s.chooseAll (k :: ks) = (s.chooseTarget k).chooseAll ks
    ∧ s.rechooseAll (k :: ks) = (s.rechoose k).rechooseAll ks
    ∧ s.giveAll (k :: ks) d = (s.giveDisposition k d).giveAll ks d
    ∧ s.dropTargets (k :: ks) = (s.dropTarget k).dropTargets ks
    ∧ s.rechooseLane i = (s.dropTargets held).chooseAll held
    ∧ (∀ m, (s.dropTargets held).carrier m
      = if m ∈ held then { s.carrier m with target := none, armed := false } else s.carrier m)
    ∧ ((s.dropTargets held).lane i).inbound = (s.lane i).inbound - (held.map fun m => (s.carrier m).units).sum
    ∧ ∀ o, o ≠ i → (s.dropTargets held).lane o = s.lane o

/-! ## Queries: any principal, any mode; the reply is the only effect -/

/-- R19, R20, R162. Absent fields and groups are laid out by log 13, named values take one byte each (log 39) and so
does K (log 49). R34, R52: a waiting bag's ticket is withheld from a berth principal; a reservation is the lowest
carrier that holds it. Absent fields and groups are laid out by log 13; an absent ticket is shown absent to every
principal (log 44). A poll number takes one byte (log 56). R102, R150: HALL is shown every record and bag, a berth
principal those of its own berth. The pending-tag list is led by its length (log 13); the stray and reinject lists
follow the counts of R150 with no length of their own (log 52), and resolutions are coded 0 and 1 (log 51). R122,
R135, R178: a lane named, or all of them in ascending number; and the links. Armed and FIRED lists are led by their
lengths (log 13); the three permission flags are log 12. A capacity and a link number take one byte (log 56). -/
def Obligations.QueriesReportTheirBlocks : Prop :=
  (∀ (s : State) (l : LinkNo) (tag : Byte) (p : Principal) (k : Nat), (s.link l).state = .attached p →
    exec (.queryPosition l tag) s = .next ((s.setLastServed l).replyOk l tag 0x02
      (bytesOf 2 s.loop.position ++ bytesOf 2 s.loop.count ++ bytesOf 1 s.loop.commit ++ bytesOf 2 s.loop.revolutions
        ++ bytesOf 1 s.loop.slips ++ bytesOf 1 s.loop.homeMissed ++ bytesOf 2 s.carriers.loaded
        ++ bytesOf 2 s.carriers.unverified))
    ∧ (s.loop.count ≤ k →
      exec (.queryCarrier l tag k) s = .next ((s.setLastServed l).replyRefused l tag 0x03 .badValue))
    ∧ (k < s.loop.count →
      let c := s.carrier k
      let identity := match c.identity with
        | none => [0, 0, 0, 0]
        | some d =>
          if p = .hall ∨ p = .berth d.berth then 1 :: (bytesOf 1 d.berth.number ++ bytesOf 2 d.entry) else [2, 0, 0, 0]
      let candidate := match c.candidate with
        | none => [0, 0, 0, 0, 0]
        | some t =>
          if p = .hall ∨ allBerths.any (fun b => p == .berth b && (s.berth b).state.ship == some t.ship) then
            1 :: (bytesOf 1 t.ship ++ bytesOf 3 t.serial)
          else [2, 0, 0, 0, 0]
      exec (.queryCarrier l tag k) s = .next ((s.setLastServed l).replyOk l tag 0x03
        (bytesOf 1 c.state.code ++ bytesOrFF 1 (c.reservation.map Fin.val) ++ sizeBytes c.size
          ++ bytesOrFF 1 (c.origin.map Fin.val) ++ identity ++ candidate ++ dispositionBytes c.disposition
          ++ bytesOrFF 1 (c.target.map Fin.val) ++ flagByte c.armed ++ bytesOf 1 c.laps ++ bytesOf 1 c.tries
          ++ bytesOrZero 2 c.ticket ++ bytesOf 2 (s.loop.offsetOf k) ++ bytesOf 2 s.loop.position)))
    ∧ exec (.queryMode l tag) s = .next ((s.setLastServed l).replyOk l tag 0x2B
      (bytesOf 1 s.mode.code ++ bytesOf 2 s.carriers.loaded ++ bytesOf 2 s.induction.loadLimit
        ++ bytesOf 2 s.carriers.unverified ++ bytesOf 2 (s.countState .empty) ++ bytesOf 2 (s.countState .unread)
        ++ bytesOf 2 (s.countState .unverified) ++ bytesOf 2 (s.countState .waiting)
        ++ bytesOf 2 (s.countState .carrying) ++ bytesOf 2 (s.countState .fired)
        ++ bytesOf 2 (s.carriers.table.countP (·.isUntargeted)) ++ bytesOf 1 s.coding.strays.length
        ++ bytesOf 1 s.coding.reinject.length ++ bytesOf 1 s.router.pendingTags.length)))
  ∧ (∀ (s : State) (l : LinkNo) (tag : Byte) (p : Principal), (s.link l).state = .attached p →
    let waiting (i : PointNo) := match (s.point i).waiting with
      | none => [0, 0, 0, 0, 0, 0]
      | some w => 1 :: (bytesOf 1 w.size.code ++ bytesOf 1 w.wait ++ match w.ticket with
        | none => [0, 0, 0]
        | some t => if p = .hall then 1 :: bytesOf 2 t else [2, 0, 0])
    exec (.queryInduction l tag) s = .next ((s.setLastServed l).replyOk l tag 0x07
      (bytesOf 2 s.induction.loadLimit ++ bytesOf 1 s.induction.starveLimit ++ bytesOf 2 s.carriers.loaded
        ++ (allPoints.map fun i => bytesOrFF 2 (s.point i).offset ++ flagByte (s.point i).enabled
          ++ flagByte (s.point i).mark).flatten
        ++ (allPoints.map waiting).flatten
        ++ (allPoints.map fun i => bytesOrFF 2 (s.carriersWith fun c => c.reservation == some i).head?).flatten))
    ∧ (∀ n, 4 ≤ n →
      exec (.queryReadStation l tag n) s = .next ((s.setLastServed l).replyRefused l tag 0x0B .badValue))
    ∧ ∀ n : StationNo,
      let x := s.station n
      let window := match x.window with
        | none => [0, 0, 0, 0, 0, 0, 0]
        | some w => 1 :: (bytesOf 2 w.carrier ++ bytesOf 1 w.polls ++ bytesOf 1 w.votes ++ bytesOf 1 w.answers.length
          ++ bytesOrFF 1 (w.outstanding.map (·.head)))
      exec (.queryReadStation l tag n.val) s = .next ((s.setLastServed l).replyOk l tag 0x0B
        (bytesOrFF 2 x.offset ++ flagByte x.enabled ++ bytesOf 1 x.heads ++ bytesOf 1 x.priority.length
          ++ (x.priority.map (bytesOf 1)).flatten ++ bytesOf 1 x.polls ++ bytesOf 1 x.votes ++ bytesOf 1 x.pollNumber
          ++ ((List.range x.heads).map fun h => bytesOf 1 (x.head h).score ++ flagByte (x.head h).suspended
            ++ flagByte (x.head h).degraded).flatten
          ++ window)))
  ∧ (∀ (s : State) (l : LinkNo) (tag : Byte) (p : Principal), (s.link l).state = .attached p →
    let sees (b : BerthId) : Bool := p == .hall || p == .berth b
    let untargeted (d : Disposition) := s.carriers.table.countP fun c =>
      c.isUntargeted && c.disposition == some d && (p == .hall || c.identity.any fun i => p == .berth i.berth)
    let shown := s.router.pendingTags.filter fun r => sees r.berth
    exec (.queryPending l tag) s = .next ((s.setLastServed l).replyOk l tag 0x1A
      (bytesOf 1 s.router.lapLimit ++ bytesOf 1 s.router.waitLimit ++ bytesOf 1 shown.length
        ++ (shown.map fun r => bytesOf 1 r.berth.number ++ bytesOf 3 r.serial ++ bytesOf 2 r.carrier
          ++ bytesOf 1 (s.carrier r.carrier).laps).flatten
        ++ bytesOf 2 (untargeted .delivery) ++ bytesOf 2 (untargeted .hold)
        ++ bytesOf 2 (s.carriers.table.countP fun c => c.isUntargeted && c.strayReason.isSome)))
    ∧ exec (.queryStrays l tag) s = .next ((s.setLastServed l).replyOk l tag 0x27
      (bytesOf 2 s.coding.ticketCounter ++ bytesOf 1 s.coding.unlisted ++ bytesOf 1 s.coding.strays.length
        ++ bytesOf 1 s.coding.reinject.length
        ++ ((s.coding.strays.filter fun r => p == .hall || r.berth.any sees).map fun r =>
          bytesOf 2 r.ticket ++ bytesOf 1 r.reason.code ++ tagBytes r.candidate
            ++ bytesOrZero 1 (r.berth.map BerthId.number) ++ bytesOrFF 2 r.entry ++ bytesOf 1 r.size.code
            ++ bytesOf 1 r.lane.val ++ bytesOf 2 r.revolutions ++ bytesOf 2 r.position).flatten
        ++ ((s.coding.reinject.filter fun r => p == .hall || r.berth.any sees).map fun r =>
          bytesOf 2 r.ticket ++ bytesOf 1 r.resolution.code ++ bytesOrZero 1 (r.berth.map BerthId.number)
            ++ bytesOrFF 2 r.entry ++ tagBytes r.candidate ++ bytesOf 1 r.size.code ++ bytesOf 2 r.revolutions
            ++ bytesOf 2 r.position).flatten)))
  ∧ ∀ (s : State) (l : LinkNo) (tag : Byte) (p : Principal), (s.link l).state = .attached p →
    let fired (j : LaneNo) := s.carriersWith fun c => c.state == .fired && c.target == some j
    let lane (j : LaneNo) := bytesOrFF 2 (s.lane j).offset ++ bytesOf 1 (s.lane j).capacity ++ bytesOf 1 (s.lane j).fill
      ++ bytesOf 1 (s.lane j).inbound ++ bytesOf 1 (s.lane j).owner.code ++ bytesOf 1 (s.lane j).function.code
      ++ bytesOrFF 1 (s.lane j).group ++ bytesOf 1 (s.lane j).state.code ++ bytesOf 1 (s.diverter j).score
      ++ bytesOf 1 (s.diverter j).queue.length ++ bytesOf 2 (fired j).length
    let distance (j : LaneNo) (k : Nat) := bytesOf 2 (s.loop.distance k ((s.lane j).offset.getD 0))
    let diversion (j : LaneNo) := bytesOrFF 2 (s.lane j).offset ++ bytesOf 1 (s.lane j).state.code
      ++ bytesOf 1 (s.diverter j).score ++ bytesOf 1 (s.diverter j).queue.length
      ++ ((s.diverter j).queue.map fun k =>
        bytesOf 2 k ++ distance j k ++ sizeBytes (s.carrier k).size ++ bytesOf 1 (s.carrier k).tries).flatten
      ++ bytesOf 2 (fired j).length
      ++ ((fired j).map fun k => bytesOf 2 k ++ distance j k ++ bytesOf 1 (s.carrier k).tries).flatten
    let link (m : LinkNo) := bytesOf 1 (s.link m).state.code ++ principalBytes (s.link m).state.principal
      ++ bytesOf 1 (s.link m).errorCount ++ bytesOf 1 (s.link m).checkCount ++ bytesOf 1 (s.link m).queue.length
      ++ flagByte (s.link m).allowed.hall ++ flagByte (s.link m).allowed.one ++ flagByte (s.link m).allowed.two
    let principal (q : Principal) := bytesOrFF 1 ((allLinks.find? fun m => (s.link m).state == .attached q).map Fin.val)
      ++ bytesOf 1 (s.principal q).notices.length ++ flagByte (s.principal q).gap ++ [(s.principal q).classes]
    (∀ n, 40 ≤ n →
      exec (.queryLane l tag (some n)) s = .next ((s.setLastServed l).replyRefused l tag 0x25 .badValue)
      ∧ exec (.queryDiversion l tag (some n)) s = .next ((s.setLastServed l).replyRefused l tag 0x26 .badValue))
    ∧ (∀ j : LaneNo,
      exec (.queryLane l tag (some j.val)) s = .next ((s.setLastServed l).replyOk l tag 0x25 (lane j))
      ∧ exec (.queryDiversion l tag (some j.val)) s = .next ((s.setLastServed l).replyOk l tag 0x26 (diversion j)))
    ∧ exec (.queryLane l tag none) s = .next ((s.setLastServed l).replyOk l tag 0x25 (allLanes.map lane).flatten)
    ∧ exec (.queryDiversion l tag none) s
      = .next ((s.setLastServed l).replyOk l tag 0x26 (allLanes.map diversion).flatten)
    ∧ exec (.queryLinks l tag) s = .next ((s.setLastServed l).replyOk l tag 0x32
      ((allLinks.map link).flatten ++ bytesOf 1 s.lastServed.val ++ principal .hall ++ principal (.berth .one)
        ++ principal (.berth .two)))

/-- R79, R80: QUERY TAG and QUERY CABIN look into the berth asked about, a berth principal's own or the one that
HALL names, in the order of checks of R79; QUERY BERTH counts. A berth number from a berth principal, or none from
HALL, is refused with BAD_VALUE (log 29). The layout of absent fields and of the entry list is log 13; QUERY CABIN's
held flag comes once, and the entries in place of the list of their indexes (log 47). Codes of named values take one
byte (log 39), and so does a cabin's expected count (log 50). -/
def Obligations.ManifestQueriesReport : Prop :=
  ∀ (s : State) (l : LinkNo) (tag : Byte) (p : Principal), (s.link l).state = .attached p →
    let asked (n : Option Nat) (b : BerthId) : Prop := (p = .hall ∧ n = some b.number) ∨ (p = .berth b ∧ n = none)
    (∀ n e c, (¬∃ b, asked n b) →
      exec (.queryTag l tag n e) s = .next ((s.setLastServed l).replyRefused l tag 0x16 .badValue)
      ∧ exec (.queryCabin l tag n c) s = .next ((s.setLastServed l).replyRefused l tag 0x17 .badValue))
    ∧ (∀ n b e c, asked n b → (s.berth b).state = .unbound →
      exec (.queryTag l tag n e) s = .next ((s.setLastServed l).replyRefused l tag 0x16 .notConfigured)
      ∧ exec (.queryCabin l tag n c) s = .next ((s.setLastServed l).replyRefused l tag 0x17 .notConfigured))
    ∧ (∀ n b e, asked n b → (s.berth b).state ≠ .unbound →
      (isEntryRef e = false →
        exec (.queryTag l tag n e) s = .next ((s.setLastServed l).replyRefused l tag 0x16 .badValue))
      ∧ (isEntryRef e = true → (s.berth b).findRef e = none →
        exec (.queryTag l tag n e) s = .next ((s.setLastServed l).replyRefused l tag 0x16 .notFound))
      ∧ ∀ x, isEntryRef e = true → (s.berth b).findRef e = some x →
        exec (.queryTag l tag n e) s = .next ((s.setLastServed l).replyOk l tag 0x16
          (bytesOf 2 x.index ++ bytesOrFF 3 x.serial ++ bytesOf 2 x.cabin ++ bytesOf 1 x.state.code
            ++ bytesOrZero 2 x.ticket
            ++ bytesOrFF 2 (if x.state = .onLoop then
                (s.carriersWith fun c => c.identity == some ⟨b, x.index⟩).head? else none))))
    ∧ (∀ n b c, asked n b → (s.berth b).state ≠ .unbound →
      (¬(1 ≤ c ∧ c ≤ 9999) →
        exec (.queryCabin l tag n c) s = .next ((s.setLastServed l).replyRefused l tag 0x17 .badValue))
      ∧ (1 ≤ c → c ≤ 9999 → (s.berth b).findCabin c = none →
        exec (.queryCabin l tag n c) s = .next ((s.setLastServed l).replyRefused l tag 0x17 .notFound))
      ∧ ∀ x, 1 ≤ c → c ≤ 9999 → (s.berth b).findCabin c = some x →
        exec (.queryCabin l tag n c) s = .next ((s.setLastServed l).replyOk l tag 0x17
          (bytesOf 2 x.number ++ bytesOf 1 x.deck ++ bytesOf 1 x.expected ++ bytesOf 2 x.delivered
            ++ bytesOf 2 x.inHold ++ flagByte x.held ++ bytesOrFF 1 ((s.berth b).groupOf x.deck)
            ++ bytesOf 2 x.entries.length
            ++ (x.entries.map fun i => match (s.berth b).findEntry i with
              | none => []
              | some e => bytesOf 2 e.index ++ bytesOrFF 3 e.serial ++ bytesOf 1 e.state.code).flatten)))
    ∧ (∀ n, n ≠ 1 → n ≠ 2 →
      exec (.queryBerth l tag n) s = .next ((s.setLastServed l).replyRefused l tag 0x18 .badValue))
    ∧ ∀ b : BerthId,
      let r := s.berth b
      let held (st : EntryState) := bytesOf 2 (r.tags.countP fun e => e.state == st)
      exec (.queryBerth l tag b.number) s = .next ((s.setLastServed l).replyOk l tag 0x18
        (bytesOf 1 r.state.code ++ bytesOrZero 1 r.state.ship ++ bytesOf 2 r.cabins.length ++ bytesOf 2 r.tags.length
          ++ held .expected ++ held .onLoop ++ held .delivered ++ held .inHold ++ held .strayed ++ held .offSystem
          ++ bytesOf 1 (s.router.pendingTags.countP fun t => t.berth == b)
          ++ bytesOf 2 (s.carriers.table.countP fun c => c.identity.any fun d => d.berth == b)))

/-! ## Settings, issued by HALL -/

/-- R18: CONFIGURE LOOP is taken from HALL in SETUP, for a C in 64..1024 above every configured offset. K is clamped
into 2..15. When C changes, P becomes 0 and the table is remade with C EMPTY records. The load limit is lowered to C
when above it (R31). K takes one byte of the command and of the reply (log 49). -/
def Obligations.ConfigureLoopStoresGeometry : Prop :=
  ∀ (s : State) (l : LinkNo) (tag : Byte) (p : Principal) (count commit : Nat), (s.link l).state = .attached p →
    let tooSmall := (∃ i d, (s.point i).offset = some d ∧ count ≤ d) ∨ (∃ n d, (s.station n).offset = some d ∧ count ≤ d)
      ∨ ∃ j d, (s.lane j).offset = some d ∧ count ≤ d
    let refused (r : RefusalCode) := exec (.configureLoop l tag count commit) s
      = .next ((s.setLastServed l).replyRefused l tag 0x01 r)
    (p ≠ .hall → refused .notPermitted)
    ∧ (p = .hall → s.mode ≠ .setup → refused .wrongMode)
    ∧ (p = .hall → s.mode = .setup → (count < 64 ∨ 1024 < count ∨ tooSmall) → refused .badValue)
    ∧ (p = .hall → s.mode = .setup → 64 ≤ count → count ≤ 1024 → ¬tooSmall →
      let k := max 2 (min 15 commit)
      exec (.configureLoop l tag count commit) s = .next (State.replyOk
        { s with
          lastServed := l
          loop := { s.loop with
            count := count
            commit := k
            position := if count = s.loop.count then s.loop.position else 0 }
          carriers := if count = s.loop.count then s.carriers else ⟨List.replicate count Carrier.empty, 0, 0⟩
          induction := { s.induction with loadLimit := min s.induction.loadLimit count } }
        l tag 0x01 (bytesOf 2 count ++ bytesOf 1 k)))

/-- R31, R32, R100: the limits are clamped into their ranges and stored, in every mode, and the reply gives them.
R38, R51: SET READ VOTING clamps W into 1..16 and V into 1..8 and to W, in every mode, and an open window keeps its
own; RESTORE HEAD returns a head's record to its power-on values. -/
def Obligations.LimitsVotingAndHeadsAreSet : Prop :=
  (∀ (s : State) (l : LinkNo) (tag : Byte) (n m : Nat), (s.link l).state = .attached .hall →
    exec (.setLoadLimit l tag n) s = .next (State.replyOk
      { s with lastServed := l, induction := { s.induction with loadLimit := max 1 (min s.loop.count n) } }
      l tag 0x05 (bytesOf 2 (max 1 (min s.loop.count n))))
    ∧ exec (.setStarveLimit l tag n) s = .next (State.replyOk
      { s with lastServed := l, induction := { s.induction with starveLimit := max 8 (min 255 n) } }
      l tag 0x06 (bytesOf 1 (max 8 (min 255 n))))
    ∧ exec (.setLapLimits l tag n m) s = .next (State.replyOk
      { s with lastServed := l, router := { s.router with lapLimit := max 1 (min 15 n), waitLimit := min 7 m } }
      l tag 0x19 (bytesOf 1 (max 1 (min 15 n)) ++ bytesOf 1 (min 7 m))))
  ∧ ∀ (s : State) (l : LinkNo) (tag : Byte) (station : Nat) (n : StationNo) (w v h : Nat),
    (s.link l).state = .attached .hall →
    let x := s.station n
    let w' := max 1 (min 16 w)
    let v' := min w' (max 1 (min 8 v))
    (4 ≤ station →
      exec (.setReadVoting l tag station w v) s = .next ((s.setLastServed l).replyRefused l tag 0x09 .badValue)
      ∧ exec (.restoreHead l tag station h) s = .next ((s.setLastServed l).replyRefused l tag 0x0A .badValue))
    ∧ exec (.setReadVoting l tag n.val w v) s = .next (((s.setLastServed l).setStation n
        { x with polls := w', votes := v' }).replyOk l tag 0x09 (bytesOf 1 w' ++ bytesOf 1 v'))
    ∧ (x.offset = none →
      exec (.restoreHead l tag n.val h) s = .next ((s.setLastServed l).replyRefused l tag 0x0A .notConfigured))
    ∧ (x.offset ≠ none → x.heads ≤ h →
      exec (.restoreHead l tag n.val h) s = .next ((s.setLastServed l).replyRefused l tag 0x0A .badValue))
    ∧ (x.offset ≠ none → h < x.heads →
      exec (.restoreHead l tag n.val h) s = .next (((s.setLastServed l).setStation n
        { x with headRecords := x.headRecords.setIfInBounds h ⟨0, false, false⟩ }).replyOk l tag 0x0A [0, 0, 0]))

/-- R33: the checks of CONFIGURE INDUCTION POINT in order; then the configuration is stored, the mark leaves every
other point (a ticket waiting there is dropped), and a point that no longer takes part gives up its bag with a
REJECT and its reservation. The reply writes FFh for no marked point (log 13). R37: the checks of CONFIGURE READ
STATION in order; then the configuration is stored, the head records return to their power-on values when the offset
or the head count changes, and a window of a station that is disabled is abandoned. The priority set is stored and
reported in ascending order, each head once (log 14). The reply holds the poll number (log 55), in one byte (log
56). -/
def Obligations.PointsAndStationsAreConfigured : Prop :=
  (∀ (s : State) (l : LinkNo) (tag : Byte) (point : Nat) (i : PointNo) (offset : Option Nat) (enabled mark : Bool),
    (s.link l).state = .attached .hall →
    let c := Instr.configureInductionPoint l tag i.val offset enabled mark
    let refused (c : Instr) (r : RefusalCode) := exec c s = .next ((s.setLastServed l).replyRefused l tag 0x04 r)
    let tooFar := ∃ d, offset = some d ∧ s.loop.count ≤ d
    let shared := ∃ d q, offset = some d ∧ q ≠ i ∧ (s.point q).offset = some d
    let bare := enabled = true ∧ offset = none
    let fixed := s.mode = .setup ∨ (offset = (s.point i).offset ∧ mark = (s.point i).mark)
    let takesPart := enabled = true ∧ offset ≠ none
    (6 ≤ point → refused (.configureInductionPoint l tag point offset enabled mark) .badValue)
    ∧ (tooFar → refused c .badValue)
    ∧ (¬tooFar → shared → refused c .duplicate)
    ∧ (¬tooFar → ¬shared → bare → refused c .notConfigured)
    ∧ (¬tooFar → ¬shared → ¬bare → ¬fixed → refused c .wrongMode)
    ∧ (¬tooFar → ¬shared → ¬bare → fixed →
      ∃ t, exec c s = .next (t.replyOk l tag 0x04 (bytesOrFF 2 offset ++ flagByte enabled ++ flagByte mark
          ++ bytesOrFF 1 ((allPoints.find? fun q => (t.point q).mark).map Fin.val)))
        ∧ s.changesOnly t [.induction, .carriers, .orders, .lastServed] ∧ t.lastServed = l
        ∧ t.induction.loadLimit = s.induction.loadLimit ∧ t.induction.starveLimit = s.induction.starveLimit
        ∧ (t.point i).offset = offset ∧ (t.point i).enabled = enabled ∧ (t.point i).mark = mark
        ∧ (takesPart → t.carriers = s.carriers ∧ t.orders = s.orders
          ∧ (t.point i).waiting = (s.point i).waiting.map fun w => { w with ticket := if mark then w.ticket else none })
        ∧ (¬takesPart → (t.point i).waiting = none)
        ∧ (¬takesPart → (s.point i).waiting = none → t.carriers = s.carriers ∧ t.orders = s.orders)
        ∧ (¬takesPart → (s.point i).waiting ≠ none →
          t.carriers = { s.carriers with table := s.carriers.table.map fun c =>
            { c with reservation := if c.reservation = some i then none else c.reservation } }
          ∧ t.orders = if s.orders.length < 32 then s.orders ++ [.reject i .closed] else s.orders)
        ∧ ∀ q, q ≠ i → t.point q
          = if mark = true ∧ (s.point q).mark = true then
              { s.point q with mark := false, waiting := (s.point q).waiting.map fun w => { w with ticket := none } }
            else s.point q))
  ∧ ∀ (s : State) (l : LinkNo) (tag : Byte) (station : Nat) (n : StationNo) (offset : Option Nat) (heads : Nat)
    (priority : List Nat) (enabled : Bool), (s.link l).state = .attached .hall →
    let c := Instr.configureReadStation l tag n.val offset heads priority enabled
    let refused (c : Instr) (r : RefusalCode) := exec c s = .next ((s.setLastServed l).replyRefused l tag 0x08 r)
    let x := s.station n
    let chosen := (List.range 8).filter fun h => priority.contains h
    let bad := (∃ d, offset = some d ∧ s.loop.count ≤ d) ∨ heads = 0 ∨ 8 < heads ∨ 4 < priority.length
      ∨ ∃ h ∈ priority, heads ≤ h
    let shared := ∃ d m, offset = some d ∧ m ≠ n ∧ (s.station m).offset = some d
    let bare := enabled = true ∧ offset = none
    let fixed := s.mode = .setup ∨ (offset = x.offset ∧ heads = x.heads ∧ chosen = x.priority)
    let last := s.mode ≠ .setup ∧ enabled = false
      ∧ ¬∃ m, m ≠ n ∧ (s.station m).enabled = true ∧ (s.station m).offset ≠ none
    let y := { x with
      offset := offset
      heads := heads
      priority := chosen
      enabled := enabled
      headRecords := if x.offset = offset ∧ x.heads = heads then x.headRecords else Vector.replicate 8 ⟨0, false, false⟩
      window := if enabled then x.window else none }
    (4 ≤ station → refused (.configureReadStation l tag station offset heads priority enabled) .badValue)
    ∧ (bad → refused c .badValue)
    ∧ (¬bad → shared → refused c .duplicate)
    ∧ (¬bad → ¬shared → bare → refused c .notConfigured)
    ∧ (¬bad → ¬shared → ¬bare → ¬fixed → refused c .wrongMode)
    ∧ (¬bad → ¬shared → ¬bare → fixed → last → refused c .badConfig)
    ∧ (¬bad → ¬shared → ¬bare → fixed → ¬last →
      exec c s = .next (((s.setLastServed l).setStation n y).replyOk l tag 0x08
        (bytesOrFF 2 offset ++ flagByte enabled ++ bytesOf 1 heads ++ bytesOf 1 chosen.length
          ++ (chosen.map (bytesOf 1)).flatten ++ bytesOf 1 x.polls ++ bytesOf 1 x.votes ++ bytesOf 1 x.pollNumber)))

/-- R105: the checks of CONFIGURE LANE in order; then the offset and the capacity, clamped to fill plus inbound and
to 255, are stored, and the fault score becomes 0 when the offset changes. The reply spells the codes of owner,
function and state in one byte each (log 39) and an absent group as FFh (log 13), and the capacity in one byte (log
56). R107: SET LANE CAPACITY. -/
def Obligations.LaneIsConfiguredAndClamped : Prop :=
  (∀ (s : State) (l : LinkNo) (tag : Byte) (lane : Nat) (j : LaneNo) (offset : Option Nat) (capacity : Nat),
    (s.link l).state = .attached .hall →
    let x := s.lane j
    let c := Instr.configureLane l tag j.val offset capacity
    let refused (c : Instr) (r : RefusalCode) := exec c s = .next ((s.setLastServed l).replyRefused l tag 0x1B r)
    let tooFar := ∃ d, offset = some d ∧ s.loop.count ≤ d
    let inUse := offset = none ∧ x.state ≠ .closed
    let y := { x with offset := offset, capacity := min 255 (max (x.fill + x.inbound) capacity) }
    (s.mode ≠ .setup → refused c .wrongMode)
    ∧ (s.mode = .setup → 40 ≤ lane → refused (.configureLane l tag lane offset capacity) .badValue)
    ∧ (s.mode = .setup → tooFar → refused c .badValue)
    ∧ (s.mode = .setup → ¬tooFar → inUse → refused c .inUse)
    ∧ (s.mode = .setup → ¬tooFar → ¬inUse →
      exec c s = .next ((((s.setLastServed l).setLane j y).setDiverter j
        { s.diverter j with score := if x.offset = offset then (s.diverter j).score else 0 }).replyOk l tag 0x1B
        (bytesOrFF 2 y.offset ++ bytesOf 1 y.capacity ++ bytesOf 1 y.fill ++ bytesOf 1 y.inbound
          ++ bytesOf 1 y.owner.code ++ bytesOf 1 y.function.code ++ bytesOrFF 1 y.group ++ bytesOf 1 y.state.code))))
  ∧ ∀ (s : State) (l : LinkNo) (tag : Byte) (p : Principal) (lane : Nat) (j : LaneNo) (n : Nat),
    (s.link l).state = .attached p →
    let x := s.lane j
    let stored := if n < x.fill + x.inbound ∧ x.fill + x.inbound ≤ 255 then x.fill + x.inbound
      else if 255 < n ∨ 255 < x.fill + x.inbound then 255 else n
    (p ≠ .hall →
      exec (.setLaneCapacity l tag lane n) s = .next ((s.setLastServed l).replyRefused l tag 0x1C .notPermitted))
    ∧ (p = .hall → 40 ≤ lane →
      exec (.setLaneCapacity l tag lane n) s = .next ((s.setLastServed l).replyRefused l tag 0x1C .badValue))
    ∧ (p = .hall →
      exec (.setLaneCapacity l tag j.val n) s = .next (((s.setLastServed l).setLane j { x with capacity := stored }).replyOk
        l tag 0x1C (bytesOf 1 stored)))

/-! ## Berths and the manifest -/

/-- R59, R60, R61: every step keeps each cabin's list and counts in step with the tag table. -/
def Obligations.StepKeepsManifests : Prop :=
  ∀ s t : State, s.manifestsAgree → step s = .next t → t.manifestsAgree

/-- R54: the checks of OPEN BERTH in order; then the berth is BOUND with the ship code, and HALL and the berth principal
are told. -/
def Obligations.BerthIsOpened : Prop :=
  ∀ (s : State) (l : LinkNo) (tag : Byte) (p : Principal) (n ship : Nat) (b : BerthId), (s.link l).state = .attached p →
    let refused (n : Nat) (r : RefusalCode) := exec (.openBerth l tag n ship) s
      = .next ((s.setLastServed l).replyRefused l tag 0x0C r)
    let valid := 1 ≤ ship ∧ ship ≤ 63
    let held := ∃ o : BerthId, (s.berth o).state.ship = some ship
    (p ≠ .hall → refused n .notPermitted)
    ∧ (p = .hall → n ≠ 1 → n ≠ 2 → refused n .badValue)
    ∧ (p = .hall → ¬valid → refused n .badValue)
    ∧ (p = .hall → valid → (s.berth b).state ≠ .unbound → refused b.number .inUse)
    ∧ (p = .hall → valid → (s.berth b).state = .unbound → held → refused b.number .duplicate)
    ∧ (p = .hall → valid → (s.berth b).state = .unbound → ¬held →
      exec (.openBerth l tag b.number ship) s
        = .next ((((s.setLastServed l).setBerth b { s.berth b with state := .bound ship }).postHallAnd b
          (.berthState b (.bound ship) false)).replyOk l tag 0x0C (bytesOf 1 b.number ++ bytesOf 1 ship)))

/-- R55, R56: CLOSE SAILING makes a BOUND berth CLOSING; the carriers of its pending records become strays of reason
BERTH_CLOSING, with their choices one at a time in ascending number (log 8); and when no carrier holds an identity
of it, the berth is cleared at once and both notices are posted. What the clearing takes from records that name no
entry is log 11. The reply spells the berth state in one byte (log 39). R56, R58: a CLOSING berth with no identity
on the loop and no pending record is cleared, and HALL and its principal are told; in any other case the step has
nothing to do (log 4). -/
def Obligations.SailingClosesAndCompletes : Prop :=
  (∀ (s : State) (l : LinkNo) (tag : Byte) (b : BerthId) (ship : Nat), (s.link l).state = .attached (.berth b) →
    let refused (r : RefusalCode) := exec (.closeSailing l tag) s
      = .next ((s.setLastServed l).replyRefused l tag 0x0D r)
    let carried := s.carriers.table.any fun c => c.isOf b
    let closing := s.postHallAnd b (.berthState b (.closing ship) false)
    let chosen := State.giveAll { s.setBerth b { s.berth b with state := .closing ship } with
      router := { s.router with pendingTags := s.router.pendingTags.filter fun r => r.berth != b } }
      (s.pendingCarriers b) (.stray .berthClosing)
    ((s.berth b).state = .unbound → refused .notConfigured)
    ∧ ((s.berth b).state = .closing ship → refused .inUse)
    ∧ ((s.berth b).state = .bound ship →
      ∃ t, exec (.closeSailing l tag) s = .next (t.replyOk l tag 0x0D (bytesOf 1 (if carried then 2 else 0)))
        ∧ s.changesOnly t [.carriers, .lanes, .router, .berths, .coding, .principals, .lastServed] ∧ t.lastServed = l
        ∧ t.router = { s.router with pendingTags := s.router.pendingTags.filter fun r => r.berth != b }
        ∧ s.carriersEnter t (s.pendingCarriers b) (.stray .berthClosing) ∧ t.carriers = chosen.carriers
        ∧ (∀ j, t.lane j = if carried = false ∧ (s.lane j).owner = .berth b then (chosen.lane j).handedBack
          else chosen.lane j)
        ∧ (carried = true → t.berth b = { s.berth b with state := .closing ship }
          ∧ (∀ o, o ≠ b → t.berth o = s.berth o) ∧ t.coding = s.coding ∧ (∀ j, (s.lane j).rebooked (t.lane j))
          ∧ t.principals = closing.principals)
        ∧ (carried = false → s.berthCleared t b
          ∧ t.principals = (closing.postHallAnd b (.berthState b .unbound false)).principals)))
  ∧ ∀ (s : State) (n : Nat) (b : BerthId),
    let ready := (s.berth b).state.isClosing = true ∧ (∀ c ∈ s.carriers.table, c.isOf b = false)
      ∧ ∀ r ∈ s.router.pendingTags, r.berth ≠ b
    (n ≠ 1 → n ≠ 2 → exec (.closingComplete n) s = .next s)
    ∧ (¬ready → exec (.closingComplete b.number) s = .next s)
    ∧ (ready → ∃ t, exec (.closingComplete b.number) s = .next t
      ∧ s.changesOnly t [.berths, .coding, .lanes, .principals] ∧ s.berthCleared t b
      ∧ t.principals = (s.postHallAnd b (.berthState b .unbound false)).principals
      ∧ ∀ j, (t.lane j).inbound = (s.lane j).inbound)

/-- R57, R58: FORCE CLOSE drops every pending record and every identity of the berth. The carriers of pending
records, and those CARRYING and not armed, become strays of reason BERTH_CLOSED with their choices one at a time in
ascending number (log 8); the armed and the FIRED keep target and queue entry, with laps 0 (log 37). The berth is
cleared. What the clearing takes from records that name no entry is log 11. -/
def Obligations.ForceCloseClearsBerth : Prop :=
  ∀ (s : State) (l : LinkNo) (tag : Byte) (n : Nat) (b : BerthId), (s.link l).state = .attached .hall →
    let refused (n : Nat) (r : RefusalCode) := exec (.forceClose l tag n) s
      = .next ((s.setLastServed l).replyRefused l tag 0x0E r)
    let pended := State.giveAll { s with
      router := { s.router with pendingTags := s.router.pendingTags.filter fun r => r.berth != b } }
      (s.pendingCarriers b) (.stray .berthClosed)
    let unarmed := (List.range s.carriers.table.length).filter fun k =>
      (pended.carrier k).isOf b && (pended.carrier k).isReachable
    let chosen := unarmed.foldl (fun u k =>
      (u.setCarrier k { u.carrier k with identity := none }).giveDisposition k (.stray .berthClosed)) pended
    (n ≠ 1 → n ≠ 2 → refused n .badValue)
    ∧ ((s.berth b).state = .unbound → refused b.number .notConfigured)
    ∧ ((s.berth b).state ≠ .unbound →
      ∃ t, exec (.forceClose l tag b.number) s = .next (t.replyOk l tag 0x0E
          (bytesOf 2 (s.router.pendingTags.countP (fun r => r.berth == b) + s.carriers.table.countP fun c => c.isOf b)))
        ∧ s.changesOnly t [.carriers, .lanes, .router, .berths, .coding, .principals, .lastServed] ∧ t.lastServed = l
        ∧ t.router = { s.router with pendingTags := s.router.pendingTags.filter fun r => r.berth != b }
        ∧ s.berthCleared t b ∧ t.principals = (s.postHallAnd b (.berthState b .unbound true)).principals
        ∧ t.carriers.table.length = s.carriers.table.length
        ∧ (∀ k, t.carrier k = if (chosen.carrier k).isOf b then
            { chosen.carrier k with identity := none, disposition := some (.stray .berthClosed), laps := 0 }
          else chosen.carrier k)
        ∧ (∀ j, t.lane j = if (s.lane j).owner = .berth b then (chosen.lane j).handedBack else chosen.lane j)
        ∧ ∀ k,
          (k ∉ s.pendingCarriers b → (s.carrier k).isOf b = false → t.carrier k = s.carrier k)
          ∧ (k ∈ s.pendingCarriers b → (s.carrier k).isOf b = false →
            (s.carrier k).entered (t.carrier k) (.stray .berthClosed))
          ∧ (k ∉ s.pendingCarriers b → (s.carrier k).isOf b = true → (s.carrier k).isReachable = true →
            Carrier.entered { s.carrier k with identity := none } (t.carrier k) (.stray .berthClosed))
          ∧ (k ∉ s.pendingCarriers b → (s.carrier k).isOf b = true → (s.carrier k).isReachable = false →
            t.carrier k = { s.carrier k with identity := none, disposition := some (.stray .berthClosed), laps := 0 }))

/-- R64, R66: the checks of LOAD CABIN in order; then a new cabin is made, or an old one gets the deck and the
expected count, 15 at most; when the deck changes, the cabin's carriers that are CARRYING and not armed are
re-chosen (R65). The cabin record of the reply has its list led by its length (log 13) and its expected count in one
byte (log 50). R64, R67: SET CABIN HOLD with the flag as it stands changes nothing; else the flag is stored, and the
cabin's carriers that are CARRYING and not armed pass from DELIVERY to HOLD or back, with laps 0 and a choice.
Carriers are taken one at a time in ascending number (log 8). -/
def Obligations.CabinIsLoadedAndHeld : Prop :=
  (∀ (s : State) (l : LinkNo) (tag : Byte) (b : BerthId) (cabin deck expected : Nat) (old : Cabin),
    (s.link l).state = .attached (.berth b) →
    let r := s.berth b
    let c := Instr.loadCabin l tag cabin deck expected
    let refused (code : RefusalCode) := exec c s = .next ((s.setLastServed l).replyRefused l tag 0x0F code)
    let valid := 1 ≤ cabin ∧ cabin ≤ 9999 ∧ 1 ≤ deck ∧ deck ≤ 24
    let new : Cabin := ⟨cabin, deck, min 15 expected, 0, 0, false, []⟩
    let kept : Cabin := { old with deck := deck, expected := min 15 expected }
    let stored := (s.setLastServed l).setBerth b (r.modifyCabin cabin fun _ => kept)
    let moved := s.reached b fun e => e.cabin == cabin
    (r.state = .unbound → refused .notConfigured)
    ∧ (r.state ≠ .unbound → ¬valid → refused .badValue)
    ∧ (r.state ≠ .unbound → valid → r.findCabin cabin = none → 3072 ≤ r.cabins.length → refused .full)
    ∧ (r.state ≠ .unbound → valid → r.findCabin cabin = none → r.cabins.length < 3072 →
      exec c s = .next (((s.setLastServed l).setBerth b (r.insertCabin new)).replyOk l tag 0x0F new.bytes)
      ∧ ∀ n, (r.insertCabin new).findCabin n = if n = cabin then some new else r.findCabin n)
    ∧ (r.findCabin cabin = some old →
      let r' := r.modifyCabin cabin fun _ => kept
      r'.state = r.state ∧ r'.deckMap = r.deckMap ∧ r'.tags = r.tags
      ∧ ∀ n, r'.findCabin n = if n = cabin then some kept else r.findCabin n)
    ∧ (r.state ≠ .unbound → valid → r.findCabin cabin = some old → old.deck = deck →
      exec c s = .next (stored.replyOk l tag 0x0F kept.bytes))
    ∧ (r.state ≠ .unbound → valid → r.findCabin cabin = some old → old.deck ≠ deck →
      exec c s = .next ((stored.rechooseAll moved).replyOk l tag 0x0F kept.bytes)
      ∧ stored.retargets (stored.rechooseAll moved) moved))
  ∧ ∀ (s : State) (l : LinkNo) (tag : Byte) (b : BerthId) (cabin : Nat) (held : Bool) (x : Cabin),
    (s.link l).state = .attached (.berth b) →
    let r := s.berth b
    let c := Instr.setCabinHold l tag cabin held
    let refused (code : RefusalCode) := exec c s = .next ((s.setLastServed l).replyRefused l tag 0x10 code)
    let valid := 1 ≤ cabin ∧ cabin ≤ 9999
    let stored := (s.setLastServed l).setBerth b (r.modifyCabin cabin fun c => { c with held := held })
    let was : Disposition := if held then .delivery else .hold
    let now : Disposition := if held then .hold else .delivery
    let changed := (s.reached b fun e => e.cabin == cabin).filter fun k => (s.carrier k).disposition == some was
    (r.state = .unbound → refused .notConfigured)
    ∧ (r.state ≠ .unbound → ¬valid → refused .badValue)
    ∧ (r.state ≠ .unbound → valid → r.findCabin cabin = none → refused .notFound)
    ∧ (r.state ≠ .unbound → valid → r.findCabin cabin = some x → x.held = held →
      exec c s = .next ((s.setLastServed l).replyOk l tag 0x10 (flagByte held ++ bytesOf 2 0)))
    ∧ (r.findCabin cabin = some x →
      let r' := r.modifyCabin cabin fun c => { c with held := held }
      r'.state = r.state ∧ r'.deckMap = r.deckMap ∧ r'.tags = r.tags
      ∧ ∀ n, r'.findCabin n = if n = cabin then some { x with held := held } else r.findCabin n)
    ∧ (r.state ≠ .unbound → valid → r.findCabin cabin = some x → x.held ≠ held →
      exec c s = .next ((stored.giveAll changed now).replyOk l tag 0x10 (flagByte held ++ bytesOf 2 changed.length))
      ∧ stored.disposes (stored.giveAll changed now) changed now)

/-- R64, R68, R69: the checks of LOAD TAG in order; then the entry is made EXPECTED at the lowest free index and
joins its cabin's list. When the pending-tag list holds the tag, the entry is ON_LOOP instead, the record leaves the
list, and its carrier takes the entry as its identity and the disposition that the cabin's flag gives, with a
choice. The reply writes FFFFh for no carrier (log 13). -/
def Obligations.TagIsLoaded : Prop :=
  ∀ (s : State) (l : LinkNo) (tag : Byte) (b : BerthId) (serial cabin i : Nat) (x : Cabin) (t : PendingTag),
    (s.link l).state = .attached (.berth b) →
    let r := s.berth b
    let c := Instr.loadTag l tag serial cabin
    let refused (code : RefusalCode) := exec c s = .next ((s.setLastServed l).replyRefused l tag 0x11 code)
    let valid := serial ≤ 999999 ∧ 1 ≤ cabin ∧ cabin ≤ 9999
    let free := (∀ e ∈ r.tags, e.index ≠ i) ∧ ∀ m, m < i → ∃ e ∈ r.tags, e.index = m
    let made (st : EntryState) := r.makeEntry (some serial) cabin st none
    let found := s.router.pendingTags.find? fun t => t.berth == b && t.serial == serial
    (r.state = .unbound → refused .notConfigured)
    ∧ (r.state ≠ .unbound → ¬valid → refused .badValue)
    ∧ (r.state ≠ .unbound → valid → r.findCabin cabin = none → refused .notFound)
    ∧ (r.state ≠ .unbound → valid → r.findCabin cabin = some x → r.findSerial serial ≠ none → refused .duplicate)
    ∧ (r.state ≠ .unbound → valid → r.findCabin cabin = some x → r.findSerial serial = none →
      (15 ≤ x.entries.length ∨ 8192 ≤ r.tags.length) → refused .full)
    ∧ (r.state ≠ .unbound → valid → r.findCabin cabin = some x → r.findSerial serial = none →
      x.entries.length < 15 → r.tags.length < 8192 → free →
      (∀ st, st = .expected ∨ st = .onLoop →
        (made st).state = r.state ∧ (made st).deckMap = r.deckMap
        ∧ (made st).findEntry i = some ⟨i, some serial, cabin, st, none⟩
        ∧ (made st).findCabin cabin = some { x with entries := x.entries ++ [i] }
        ∧ (∀ n, n ≠ i → (made st).findEntry n = r.findEntry n)
        ∧ ∀ n, n ≠ cabin → (made st).findCabin n = r.findCabin n)
      ∧ (found = none →
        exec c s = .next (((s.setLastServed l).setBerth b (made .expected)).replyOk l tag 0x11
          (bytesOf 2 i ++ [0xFF, 0xFF])))
      ∧ (found = some t → t.carrier < s.carriers.table.length →
        let joined : State := { (s.setLastServed l).setBerth b (made .onLoop) with
          router := { s.router with pendingTags := s.router.pendingTags.filter fun r => r.carrier != t.carrier } }
        ∃ u, exec c s = .next (u.replyOk l tag 0x11 (bytesOf 2 i ++ bytesOf 2 t.carrier))
          ∧ u = (joined.setCarrier t.carrier { s.carrier t.carrier with identity := some ⟨b, i⟩ }).giveDisposition t.carrier
            (if x.held then .hold else .delivery)
          ∧ s.changesOnly u [.carriers, .lanes, .berths, .router, .lastServed] ∧ u.lastServed = l
          ∧ u.berth b = made .onLoop ∧ (∀ o, o ≠ b → u.berth o = s.berth o)
          ∧ u.router = { s.router with pendingTags := s.router.pendingTags.filter fun r => r.carrier != t.carrier }
          ∧ (∀ j, (s.lane j).rebooked (u.lane j)) ∧ (∀ k, k ≠ t.carrier → u.carrier k = s.carrier k)
          ∧ Carrier.entered { s.carrier t.carrier with identity := some ⟨b, i⟩ } (u.carrier t.carrier)
            (if x.held then .hold else .delivery)))

/-- R64, R70, R73: MOVE TAG to the entry's own cabin changes nothing; else the entry joins the new cabin, unless
that is full: its index leaves the old cabin's list for the end of the new one's, and the delivered and in-hold
counts of both follow; and its carrier, if CARRYING and not armed, takes the disposition of the new cabin or is
re-chosen. RELEASE HOLD BAG makes an IN_HOLD entry EXPECTED and lowers its cabin's in-hold count. The reply gives
the entry without a carrier number (log 46), its state code in one byte (log 39) and absent numbers as in log 13. -/
def Obligations.EntriesAreMovedAndReleased : Prop :=
  ∀ (s : State) (l : LinkNo) (tag : Byte) (b : BerthId) (ref : EntryRef) (cabin : Nat) (e : Entry) (x old : Cabin),
    (s.link l).state = .attached (.berth b) →
    let r := s.berth b
    let move := Instr.moveTag l tag ref cabin
    let release := Instr.releaseHoldBag l tag ref
    let notMoved (code : RefusalCode) := exec move s = .next ((s.setLastServed l).replyRefused l tag 0x12 code)
    let notReleased (code : RefusalCode) := exec release s = .next ((s.setLastServed l).replyRefused l tag 0x14 code)
    let known := isEntryRef ref = true ∧ 1 ≤ cabin ∧ cabin ≤ 9999
    let moved := r.moveEntry e cabin
    let stored := (s.setLastServed l).setBerth b moved
    let held := s.reached b fun y => y.index == e.index
    let now : Disposition := if x.held then .hold else .delivery
    let one (st : EntryState) : Nat := if e.state = st then 1 else 0
    let bytes (y : Entry) := bytesOf 2 y.index ++ bytesOrFF 3 y.serial ++ bytesOf 2 y.cabin ++ bytesOf 1 y.state.code
      ++ bytesOrZero 2 y.ticket
    let freed := (s.setLastServed l).setEntryState b e.index .expected none
    (r.state = .unbound → notMoved .notConfigured ∧ notReleased .notConfigured)
    ∧ (r.state ≠ .unbound → ¬known → notMoved .badValue)
    ∧ (r.state ≠ .unbound → isEntryRef ref = false → notReleased .badValue)
    ∧ (r.state ≠ .unbound → known → (r.findRef ref = none ∨ r.findCabin cabin = none) → notMoved .notFound)
    ∧ (r.state ≠ .unbound → isEntryRef ref = true → r.findRef ref = none → notReleased .notFound)
    ∧ (r.state ≠ .unbound → known → r.findRef ref = some e → r.findCabin cabin = some x →
      (e.cabin = cabin → exec move s = .next ((s.setLastServed l).replyOk l tag 0x12 (bytes e)))
      ∧ (e.cabin ≠ cabin → 15 ≤ x.entries.length → notMoved .full)
      ∧ (e.cabin ≠ cabin → x.entries.length < 15 →
        ∃ t, exec move s = .next (t.replyOk l tag 0x12 (bytes { e with cabin := cabin }))
          ∧ t = held.foldl (fun u k =>
            if (u.carrier k).disposition = some now then u.rechoose k else u.giveDisposition k now) stored
          ∧ stored.changesOnly t [.carriers, .lanes] ∧ (∀ j, (s.lane j).rebooked (t.lane j))
          ∧ (∀ k, k ∉ held → t.carrier k = s.carrier k)
          ∧ ∀ k ∈ held, if (s.carrier k).disposition = some now then (s.carrier k).retargeted (t.carrier k)
            else (s.carrier k).entered (t.carrier k) now)
      ∧ (e.cabin ≠ cabin → r.findEntry e.index = some e →
        moved.state = r.state ∧ moved.deckMap = r.deckMap
        ∧ moved.findEntry e.index = some { e with cabin := cabin }
        ∧ (∀ n, n ≠ e.index → moved.findEntry n = r.findEntry n)
        ∧ moved.findCabin cabin = some { x with
          delivered := x.delivered + one .delivered
          inHold := x.inHold + one .inHold
          entries := x.entries ++ [e.index] }
        ∧ (r.findCabin e.cabin = some old → moved.findCabin e.cabin = some { old with
          delivered := old.delivered - one .delivered
          inHold := old.inHold - one .inHold
          entries := old.entries.filter fun i => i != e.index })
        ∧ ∀ n, n ≠ cabin → n ≠ e.cabin → moved.findCabin n = r.findCabin n))
    ∧ (r.state ≠ .unbound → isEntryRef ref = true → r.findRef ref = some e →
      (e.state ≠ .inHold → notReleased .inUse)
      ∧ (e.state = .inHold → r.findEntry e.index = some e →
        exec release s = .next (freed.replyOk l tag 0x14 (bytes { e with state := .expected, ticket := none }))
        ∧ (freed.berth b).findEntry e.index = some { e with state := .expected, ticket := none }
        ∧ (∀ n, n ≠ e.index → (freed.berth b).findEntry n = r.findEntry n)
        ∧ (freed.berth b).findCabin e.cabin
          = (r.findCabin e.cabin).map (fun y => { y with inHold := y.inHold - 1 })
        ∧ ∀ n, n ≠ e.cabin → (freed.berth b).findCabin n = r.findCabin n))

/-- R64, R71, R72: WITHDRAW TAG removes the entry, from its cabin's list and counts too (R61). A stray or reinject
record that refers to a STRAYED entry loses the reference. The carrier of an ON_LOOP entry loses its identity and
becomes WITHDRAWN: with a choice when CARRYING and not armed, keeping target and queue entry with laps 0 when armed
or FIRED (log 37); and a CLOSING berth that this leaves without bags is cleared (R56). What the clearing takes from
records that name no entry is log 11. The reply spells the entry state in one byte (log 39) and no carrier as FFFFh
(log 13). -/
def Obligations.TagIsWithdrawn : Prop :=
  ∀ (s : State) (l : LinkNo) (tag : Byte) (b : BerthId) (ref : EntryRef) (e : Entry) (k : Nat),
    (s.link l).state = .attached (.berth b) →
    let r := s.berth b
    let c := Instr.withdrawTag l tag ref
    let refused (code : RefusalCode) := exec c s = .next ((s.setLastServed l).replyRefused l tag 0x13 code)
    let stored := (s.setLastServed l).setBerth b (r.removeEntry e)
    let holder := (s.carriersWith fun c => c.identity == some ⟨b, e.index⟩).head?
    let ready := r.state.isClosing = true ∧ (∀ m, m ≠ k → (s.carrier m).isOf b = false)
      ∧ ∀ t ∈ s.router.pendingTags, t.berth ≠ b
    let unheld := stored.setCarrier k { s.carrier k with identity := none }
    let chosen := if (s.carrier k).isReachable then unheld.giveDisposition k (.stray .withdrawn)
      else stored.setCarrier k { s.carrier k with identity := none, disposition := some (.stray .withdrawn), laps := 0 }
    (r.state = .unbound → refused .notConfigured)
    ∧ (r.state ≠ .unbound → isEntryRef ref = false → refused .badValue)
    ∧ (r.state ≠ .unbound → isEntryRef ref = true → r.findRef ref = none → refused .notFound)
    ∧ (r.state ≠ .unbound → isEntryRef ref = true → r.findRef ref = some e →
      (r.removeEntry e).findEntry e.index = none
      ∧ (∀ n, n ≠ e.index → (r.removeEntry e).findEntry n = r.findEntry n)
      ∧ (r.removeEntry e).state = r.state ∧ (r.removeEntry e).deckMap = r.deckMap
      ∧ (r.removeEntry e).findCabin e.cabin = (r.findCabin e.cabin).map (fun y => { y with
        delivered := y.delivered - if e.state = .delivered then 1 else 0
        inHold := y.inHold - if e.state = .inHold then 1 else 0
        entries := y.entries.filter fun i => i != e.index })
      ∧ (∀ n, n ≠ e.cabin → (r.removeEntry e).findCabin n = r.findCabin n)
      ∧ (e.state ≠ .onLoop → e.state ≠ .strayed →
        exec c s = .next (stored.replyOk l tag 0x13 (bytesOf 1 e.state.code ++ [0xFF, 0xFF])))
      ∧ (e.state = .strayed →
        exec c s = .next (State.replyOk { stored with coding := { s.coding with
            strays := s.coding.strays.map fun y =>
              if y.berth = some b ∧ y.entry = some e.index then { y with berth := none, entry := none } else y
            reinject := s.coding.reinject.map fun y =>
              if y.berth = some b ∧ y.entry = some e.index then { y with berth := none, entry := none } else y } }
          l tag 0x13 (bytesOf 1 4 ++ [0xFF, 0xFF])))
      ∧ (e.state = .onLoop → holder = some k →
        ∃ t, exec c s = .next (t.replyOk l tag 0x13 (bytesOf 1 1 ++ bytesOf 2 k))
          ∧ s.changesOnly t [.carriers, .lanes, .berths, .coding, .principals, .lastServed] ∧ t.lastServed = l
          ∧ (∀ m, m ≠ k → t.carrier m = s.carrier m) ∧ t.carriers = chosen.carriers
          ∧ (ready → ∀ j, t.lane j = if (s.lane j).owner = .berth b then (chosen.lane j).handedBack else chosen.lane j)
          ∧ (¬ready → t.lanes = chosen.lanes)
          ∧ ((s.carrier k).isReachable = true →
            Carrier.entered { s.carrier k with identity := none } (t.carrier k) (.stray .withdrawn))
          ∧ ((s.carrier k).isReachable = false →
            t.carrier k = { s.carrier k with identity := none, disposition := some (.stray .withdrawn), laps := 0 })
          ∧ (ready → s.berthCleared t b
            ∧ t.principals = (s.postHallAnd b (.berthState b .unbound false)).principals)
          ∧ (¬ready → t.berth b = r.removeEntry e ∧ (∀ o, o ≠ b → t.berth o = s.berth o)
            ∧ t.coding = s.coding ∧ t.principals = s.principals ∧ ∀ j, (s.lane j).rebooked (t.lane j))))

/-- R64, R74: SET DECK GROUP with the mapping as it stands changes nothing; else the deck maps to the group, no
other deck changes, and the carriers of the deck's cabins that are CARRYING and not armed are re-chosen. Carriers
are taken one at a time in ascending number (log 8). The reply writes FFh for no group (log 13). -/
def Obligations.DeckGroupIsSet : Prop :=
  ∀ (s : State) (l : LinkNo) (tag : Byte) (b : BerthId) (deck : Nat) (group : Option Nat),
    (s.link l).state = .attached (.berth b) →
    let r := s.berth b
    let c := Instr.setDeckGroup l tag deck group
    let refused (code : RefusalCode) := exec c s = .next ((s.setLastServed l).replyRefused l tag 0x15 code)
    let valid := 1 ≤ deck ∧ deck ≤ 24 ∧ ∀ g, group = some g → g ≤ 15
    let stored := (s.setLastServed l).setBerth b (r.mapDeck deck group)
    let moved := s.reached b fun e => (r.findCabin e.cabin).any fun x => x.deck == deck
    (r.state = .unbound → refused .notConfigured)
    ∧ (r.state ≠ .unbound → ¬valid → refused .badValue)
    ∧ (r.state ≠ .unbound → valid → r.groupOf deck = group →
      exec c s = .next ((s.setLastServed l).replyOk l tag 0x15 (bytesOf 1 deck ++ bytesOrFF 1 group)))
    ∧ (r.state ≠ .unbound → valid → r.groupOf deck ≠ group →
      exec c s = .next ((stored.rechooseAll moved).replyOk l tag 0x15 (bytesOf 1 deck ++ bytesOrFF 1 group))
      ∧ (∀ d, 1 ≤ d → d ≤ 24 → (r.mapDeck deck group).groupOf d = if d = deck then group else r.groupOf d)
      ∧ (r.mapDeck deck group).state = r.state ∧ (r.mapDeck deck group).cabins = r.cabins
      ∧ (r.mapDeck deck group).tags = r.tags
      ∧ stored.retargets (stored.rechooseAll moved) moved)

/-! ## Makeup lanes -/

/-- R109, with the notice of R121: the checks of CLAIM LANE in order; then the lane is the berth's, CLOSED, MAKEUP and
without a group. -/
def Obligations.LaneIsClaimed : Prop :=
  ∀ (s : State) (l : LinkNo) (tag : Byte) (lane : Nat) (j : LaneNo) (b : BerthId),
    let x := s.lane j
    let y : Lane := ⟨x.offset, x.capacity, x.fill, x.inbound, .berth b, .makeup, none, .closed⟩
    let refused (n : Nat) (r : RefusalCode) := exec (.claimLane l tag n) s
      = .next ((s.setLastServed l).replyRefused l tag 0x1D r)
    ((s.link l).state = .attached .hall → refused lane .notPermitted)
    ∧ ((s.link l).state = .attached (.berth b) → (s.berth b).state = .unbound → refused lane .notConfigured)
    ∧ ((s.link l).state = .attached (.berth b) → (s.berth b).state ≠ .unbound →
      (40 ≤ lane → refused lane .badValue)
      ∧ (x.offset = none → refused j.val .notConfigured)
      ∧ (x.offset ≠ none → (x.owner ≠ .hall ∨ x.function = .stray) → refused j.val .owned)
      ∧ (x.offset ≠ none → x.owner = .hall → x.function ≠ .stray →
        (x.state = .faulted → refused j.val .faulted)
        ∧ ((x.state = .opened ∨ x.state = .full) → refused j.val .inUse)
        ∧ (x.state = .closed → (x.fill ≠ 0 ∨ x.inbound ≠ 0) → refused j.val .notEmpty)
        ∧ (x.state = .closed → x.fill = 0 → x.inbound = 0 →
          exec (.claimLane l tag j.val) s = .next ((((s.setLastServed l).setLane j y).postHallAnd b
            (.laneState j (.berth b) .makeup none .closed 0 0 x.capacity .claimLane none)).replyOk l tag 0x1D y.bytes))))

/-- R108, R110, R111: RELEASE LANE by its owner and RECLAIM LANE by HALL hand the lane back to the hall, CLOSED,
MAKEUP and without a group; the carriers whose tentative target it was are re-chosen, none for this lane; armed and
FIRED carriers, fill and fault score are kept; HALL and the berth principal that owned it are told. The notice shows
the lane after the re-choices (log 28); RELEASE LANE refuses HALL, and RECLAIM LANE a berth principal, before the
checks of R108 (log 48). RECLAIM LANE's reply spells the former owner in one byte (log 39). -/
def Obligations.LaneIsHandedBack : Prop :=
  ∀ (s : State) (l : LinkNo) (tag : Byte) (p : Principal) (lane : Nat) (j : LaneNo) (b : BerthId),
    (s.link l).state = .attached p →
    let noRelease (n : Nat) (r : RefusalCode) := exec (.releaseLane l tag n) s
      = .next ((s.setLastServed l).replyRefused l tag 0x1E r)
    let noReclaim (n : Nat) (r : RefusalCode) := exec (.reclaimLane l tag n) s
      = .next ((s.setLastServed l).replyRefused l tag 0x1F r)
    let back := (s.setLastServed l).setLane j (s.lane j).handedBack
    let t := back.rechooseLane j
    let count := bytesOf 2 (s.tentativeAt j).length
    (p = .hall → noRelease lane .notPermitted)
    ∧ (p = .berth b → noReclaim lane .notPermitted)
    ∧ (p = .berth b → 40 ≤ lane → noRelease lane .badValue)
    ∧ (p = .berth b → (s.lane j).owner ≠ .berth b → noRelease j.val .notOwner)
    ∧ (p = .hall → 40 ≤ lane → noReclaim lane .badValue)
    ∧ (p = .hall → (s.lane j).owner = .hall → noReclaim j.val .notOwner)
    ∧ ((s.lane j).owner = .berth b →
      (p = .berth b → exec (.releaseLane l tag j.val) s
        = .next ((t.postHallAnd b (laneNotice t j .releaseLane none)).replyOk l tag 0x1E ((t.lane j).bytes ++ count)))
      ∧ (p = .hall → exec (.reclaimLane l tag j.val) s
        = .next ((t.postHallAnd b (laneNotice t j .reclaimLane (some (.berth b)))).replyOk l tag 0x1F
          ((t.lane j).bytes ++ bytesOf 1 b.number ++ count)))
      ∧ back.retargets t (s.tentativeAt j) ∧ t.tentativeAt j = [])

/-- R108, R114, R115, R120: OPEN LANE, CLOSE LANE and RESET LANE FAULT by the state that the lane is in. Closing an
OPEN lane re-chooses the carriers whose tentative target it is, none for this lane. Every change is told to the
owner, and to HALL when that is a berth principal (R121); a command taken without a change tells nothing. The reply
to CLOSE LANE of an OPEN lane counts the carriers re-chosen, and the other replies to OPEN LANE and CLOSE LANE hold
no data (log 27); the notice shows the lane after the re-choices (log 28). R116, R117: LANE FULL makes an OPEN lane
FULL, with re-choices and none for this lane, and a CLOSED one FULL; else it is discarded. LANE EMPTIED sets fill to
0 and makes a FULL lane OPEN, and tells the owner whether or not the state changed. An event for a lane that does
not exist is discarded. The notice shows the lane after the re-choices (log 28). -/
def Obligations.LanesChangeState : Prop :=
  (∀ (s : State) (l : LinkNo) (tag : Byte) (p : Principal) (lane : Nat) (j : LaneNo), (s.link l).state = .attached p →
    let x := s.lane j
    let s' := s.setLastServed l
    let noOpen (n : Nat) (r : RefusalCode) := exec (.openLane l tag n) s = .next (s'.replyRefused l tag 0x20 r)
    let noClose (n : Nat) (r : RefusalCode) := exec (.closeLane l tag n) s = .next (s'.replyRefused l tag 0x21 r)
    let opened := s'.setLane j { x with state := .opened }
    let closed := s'.setLane j { x with state := .closed }
    let t := closed.rechooseLane j
    let mended := (if x.state = .faulted then closed else s').setDiverter j { s.diverter j with score := 0 }
    (40 ≤ lane → noOpen lane .badValue ∧ noClose lane .badValue)
    ∧ (x.owner ≠ p → noOpen j.val .notOwner ∧ noClose j.val .notOwner)
    ∧ (x.owner = p → x.offset = none → noOpen j.val .notConfigured)
    ∧ (x.owner = p → x.offset ≠ none →
      (x.state = .closed → exec (.openLane l tag j.val) s
        = .next ((opened.postOwner p (laneNotice opened j .openLane none)).replyOk l tag 0x20 []))
      ∧ (x.state = .opened → exec (.openLane l tag j.val) s = .next (s'.replyOk l tag 0x20 []))
      ∧ (x.state = .full → noOpen j.val .laneFull)
      ∧ (x.state = .faulted → noOpen j.val .faulted))
    ∧ (x.owner = p →
      (x.state = .opened → exec (.closeLane l tag j.val) s
        = .next ((t.postOwner p (laneNotice t j .closeLane none)).replyOk l tag 0x21
          (bytesOf 2 (s.tentativeAt j).length))
        ∧ closed.retargets t (s.tentativeAt j) ∧ t.tentativeAt j = [])
      ∧ (x.state = .full → exec (.closeLane l tag j.val) s
        = .next ((closed.postOwner p (laneNotice closed j .closeLane none)).replyOk l tag 0x21 []))
      ∧ (x.state = .closed → exec (.closeLane l tag j.val) s = .next (s'.replyOk l tag 0x21 []))
      ∧ (x.state = .faulted → noClose j.val .faulted))
    ∧ (p = .hall → 40 ≤ lane →
      exec (.resetLaneFault l tag lane) s = .next (s'.replyRefused l tag 0x24 .badValue))
    ∧ (p = .hall → exec (.resetLaneFault l tag j.val) s
      = .next ((if x.state = .faulted then mended.postOwner x.owner (laneNotice mended j .resetFault none)
          else mended).replyOk l tag 0x24 ((mended.lane j).bytes ++ [0]))))
  ∧ ∀ (s : State) (lane : Nat) (j : LaneNo),
    let x := s.lane j
    let full := s.setLane j { x with state := .full }
    let t := full.rechooseLane j
    let emptied := s.setLane j { x with fill := 0, state := if x.state = .full then .opened else x.state }
    (40 ≤ lane → exec (.laneFull lane) s = .next s ∧ exec (.laneEmptied lane) s = .next s)
    ∧ (x.state = .opened → exec (.laneFull j.val) s = .next (t.postOwner x.owner (laneNotice t j .laneFull none))
      ∧ full.retargets t (s.tentativeAt j) ∧ t.tentativeAt j = [])
    ∧ (x.state = .closed →
      exec (.laneFull j.val) s = .next (full.postOwner x.owner (laneNotice full j .laneFull none)))
    ∧ ((x.state = .full ∨ x.state = .faulted) → exec (.laneFull j.val) s = .next s)
    ∧ exec (.laneEmptied j.val) s = .next (emptied.postOwner x.owner (laneNotice emptied j .laneEmptied none))

/-- R108, R112, R113: the owner stores a function it may choose, and a berth principal a group of its MAKEUP lane; a
new function takes the group away; the carriers whose tentative target is the lane are re-chosen. The function or
the group as it stands changes nothing. The notice shows the lane after the re-choices (log 28); SET LANE GROUP
refuses HALL before the checks of R108 (log 48). The function's code takes one byte (log 39). -/
def Obligations.LaneFunctionAndGroupAreSet : Prop :=
  ∀ (s : State) (l : LinkNo) (tag : Byte) (p : Principal) (lane n : Nat) (j : LaneNo) (f : LaneFunction)
    (group : Option Nat), (s.link l).state = .attached p →
    let x := s.lane j
    let s' := s.setLastServed l
    let noFunction (lane n : Nat) (r : RefusalCode) := exec (.setLaneFunction l tag lane n) s
      = .next (s'.replyRefused l tag 0x22 r)
    let noGroup (lane : Nat) (r : RefusalCode) := exec (.setLaneGroup l tag lane group) s
      = .next (s'.replyRefused l tag 0x23 r)
    let allowed := (p = .hall ∧ (f = .makeup ∨ f = .stray)) ∨ (p ≠ .hall ∧ f ≠ .stray)
    let valid := ∀ g, group = some g → g ≤ 15
    let withFunction := s'.setLane j { x with function := f, group := none }
    let withGroup := s'.setLane j { x with group := group }
    let t := withFunction.rechooseLane j
    let u := withGroup.rechooseLane j
    let count := bytesOf 2 (s.tentativeAt j).length
    (p = .hall → noGroup lane .notPermitted)
    ∧ (40 ≤ lane → noFunction lane n .badValue ∧ (p ≠ .hall → noGroup lane .badValue))
    ∧ (x.owner ≠ p → noFunction j.val n .notOwner ∧ (p ≠ .hall → noGroup j.val .notOwner))
    ∧ (x.owner = p → 4 ≤ n → noFunction j.val n .badValue)
    ∧ (x.owner = p → ¬allowed → noFunction j.val f.code .badValue)
    ∧ (x.owner = p → allowed → x.function = f →
      exec (.setLaneFunction l tag j.val f.code) s = .next (s'.replyOk l tag 0x22 (x.bytes ++ bytesOf 2 0)))
    ∧ (x.owner = p → allowed → x.function ≠ f →
      exec (.setLaneFunction l tag j.val f.code) s
        = .next ((t.postOwner p (laneNotice t j .setFunction none)).replyOk l tag 0x22 ((t.lane j).bytes ++ count))
      ∧ withFunction.retargets t (s.tentativeAt j))
    ∧ (x.owner = p → p ≠ .hall → (¬valid ∨ x.function ≠ .makeup) → noGroup j.val .badValue)
    ∧ (x.owner = p → p ≠ .hall → valid → x.function = .makeup → x.group = group →
      exec (.setLaneGroup l tag j.val group) s = .next (s'.replyOk l tag 0x23 (x.bytes ++ bytesOf 2 0)))
    ∧ (x.owner = p → p ≠ .hall → valid → x.function = .makeup → x.group ≠ group →
      exec (.setLaneGroup l tag j.val group) s
        = .next ((u.postOwner p (laneNotice u j .setGroup none)).replyOk l tag 0x23 ((u.lane j).bytes ++ count))
      ∧ withGroup.retargets u (s.tentativeAt j))

/-! ## Operating modes -/

/-- R152, R153, R154, R155 (Table 9-2): SET MODE by the mode in force, from every mode but HALTED to RUN. Entering
DRAINING with no carrier loaded completes the drain at once (R156). The reply spells the mode in one byte (log 39). -/
def Obligations.ModeIsSet : Prop :=
  ∀ (s : State) (l : LinkNo) (tag : Byte) (n : Nat), (s.link l).state = .attached .hall →
    let s' := s.setLastServed l
    let refused (r : RefusalCode) := exec (.setMode l tag n) s = .next (s'.replyRefused l tag 0x28 r)
    let taken (t : State) := exec (.setMode l tag n) s = .next (t.replyOk l tag 0x28 (bytesOf 1 t.mode.code))
    let valid := (∃ m, (s.station m).enabled = true ∧ (s.station m).offset ≠ none)
      ∧ (∀ i d, (s.point i).offset = some d → d < s.loop.count)
      ∧ (∀ m d, (s.station m).offset = some d → d < s.loop.count)
      ∧ ∀ j d, (s.lane j).offset = some d → d < s.loop.count
    let draining := s'.withMode .draining .setMode
    (3 ≤ n → refused .badValue)
    ∧ (n = 1 → s.mode = .setup → ¬valid → refused .badConfig)
    ∧ (n = 1 → s.mode = .setup → valid → taken (s'.withMode .run .setMode))
    ∧ (n = 1 → s.mode = .run → taken s')
    ∧ (n = 1 → (s.mode = .hold ∨ s.mode = .draining) → taken (s'.withMode .run .setMode))
    ∧ (n = 2 → s.mode = .run → taken (s'.withMode .hold .setMode))
    ∧ (n = 2 → s.mode = .hold → taken s')
    ∧ (n = 2 → (s.mode = .setup ∨ s.mode = .draining ∨ s.mode = .halted) → refused .wrongMode)
    ∧ (n = 0 → (s.mode = .run ∨ s.mode = .hold) → s.carriers.loaded ≠ 0 → taken draining)
    ∧ (n = 0 → (s.mode = .run ∨ s.mode = .hold) → s.carriers.loaded = 0 →
      taken (draining.withMode .setup .drainComplete))
    ∧ (n = 0 → (s.mode = .setup ∨ s.mode = .draining) → taken s')
    ∧ (n = 0 → s.mode = .halted → refused .wrongMode)

/-- R156, R159: a drain completes with no carrier loaded in DRAINING, and in no other case (log 4). SET MODE with
RUN leaves HALTED: every loaded carrier that is not FIRED becomes UNVERIFIED and its entry EXPECTED, cabins kept,
the pending-tag list is emptied, and the reply counts the carriers, those already UNVERIFIED among them (log 9). A
CLOSING berth left without bags is cleared, with its lanes and the references to it in the stray and reinject
records (records that name no entry: log 11), and told of, berth 1 before berth 2 (log 43), then MODE CHANGED goes
to all three principals (R155). The reply spells the mode in one byte (log 39). -/
def Obligations.DrainsCompleteAndHaltsEnd : Prop :=
  ∀ (s : State) (l : LinkNo) (tag : Byte),
    let told (b : BerthId) (u : State) : State :=
      if s.leftByLoss b then u.postHallAnd b (.berthState b .unbound false) else u
    (s.mode = .draining → s.carriers.loaded = 0 → exec .drainComplete s = .next (s.withMode .setup .drainComplete))
    ∧ ((s.mode ≠ .draining ∨ s.carriers.loaded ≠ 0) → exec .drainComplete s = .next s)
    ∧ ((s.link l).state = .attached .hall → s.mode = .halted →
      ∃ t, exec (.setMode l tag 1) s = .next (t.replyOk l tag 0x28 (bytesOf 1 1
          ++ bytesOf 2 (s.carriers.table.countP fun c => c.state != .empty && c.state != .fired)))
        ∧ s.changesOnly t [.carriers, .lanes, .berths, .router, .coding, .mode, .principals, .lastServed]
        ∧ t.lastServed = l ∧ t.mode = .run ∧ t.router = { s.router with pendingTags := [] } ∧ s.trackLost t
        ∧ t.principals = ((told .two (told .one s)).postAll
          (.modeChanged .halted .run .haltedExit t.carriers.loaded t.carriers.unverified)).principals)

/-- R160: FORCE SETUP empties the loop's record in every mode: windows abandoned, armed queues, pending-tag list and
inbounds emptied, every carrier EMPTY, both counts 0, entries of identities EXPECTED and cabins kept (Table 4-4);
the mode is SETUP, with MODE CHANGED to all three principals when it was not; then every CLOSING berth is cleared,
its references leaving both lists and its lanes going back to the hall, and is told of (the order of these notices:
logs 10 and 43). Fault scores, lane fills, positions and waiting bags are kept. What the clearing takes from records
that name no entry is log 11. -/
def Obligations.ForceSetupEmptiesTheLoop : Prop :=
  ∀ (s : State) (l : LinkNo) (tag : Byte), (s.link l).state = .attached .hall →
    let closing (b : BerthId) : Bool := (s.berth b).state.isClosing
    let closed (b : Option BerthId) : Bool := b.any closing
    let told (b : BerthId) (u : State) : State :=
      if closing b then u.postHallAnd b (.berthState b .unbound false) else u
    let changed : State := if s.mode = .setup then s else s.postAll (.modeChanged s.mode .setup .forceSetup 0 0)
    ∃ t, exec (.forceSetup l tag) s = .next (t.replyOk l tag 0x29 (bytesOf 2 s.carriers.loaded
        ++ bytesOf 2 (s.carriers.table.countP fun c => c.identity.isSome)
        ++ bytesOf 2 (s.carriers.table.countP fun c => c.state == .fired)))
      ∧ s.changesOnly t [.stations, .diverters, .carriers, .lanes, .berths, .router, .coding, .mode, .principals,
        .lastServed]
      ∧ t.lastServed = l ∧ t.mode = .setup
      ∧ t.carriers = ⟨List.replicate s.carriers.table.length Carrier.empty, 0, 0⟩
      ∧ t.router = { s.router with pendingTags := [] }
      ∧ (∀ n, t.station n = { s.station n with window := none })
      ∧ (∀ j, t.diverter j = { s.diverter j with queue := [] })
      ∧ (∀ j, t.lane j = { (match (s.lane j).owner with
          | .hall => s.lane j
          | .berth b => if closing b then (s.lane j).handedBack else s.lane j) with inbound := 0 })
      ∧ t.coding = { s.coding with
          strays := s.coding.strays.map fun r => if closed r.berth then { r with berth := none, entry := none } else r
          reinject := s.coding.reinject.map fun r =>
            if closed r.berth then { r with berth := none, entry := none } else r }
      ∧ t.principals = (told .two (told .one changed)).principals
      ∧ (∀ b, closing b = true → t.berth b = ⟨.unbound, [], [], Vector.replicate 24 none⟩)
      ∧ ∀ b, closing b = false →
        (t.berth b).state = (s.berth b).state ∧ (t.berth b).deckMap = (s.berth b).deckMap
          ∧ (s.berth b).keepsCabins (t.berth b) (fun i => s.carriers.table.any fun c => c.identity == some ⟨b, i⟩)
          ∧ ∀ i, (t.berth b).findEntry i = ((s.berth b).findEntry i).map fun e =>
            if s.carriers.table.any (fun c => c.identity == some ⟨b, i⟩) then
              { e with state := .expected, ticket := none }
            else e

/-- R161: CLEAR SORT, in SETUP alone, sets every fill and fault score to 0 and closes FULL and FAULTED lanes,
empties both lists and returns the entries they name to EXPECTED, cabins kept, and starts tickets at 1; the open
exchange is kept. Each principal is told: HALL all counts, a berth principal its own berth's. -/
def Obligations.SortIsCleared : Prop :=
  ∀ (s : State) (l : LinkNo) (tag : Byte), (s.link l).state = .attached .hall →
    let named := (s.coding.strays.map fun r => (r.berth, r.entry))
      ++ s.coding.reinject.map fun r => (r.berth, r.entry)
    let count (b : BerthId) := named.countP fun n => n.1 == some b && n.2.isSome
    let changed := allLanes.countP fun j => (s.lane j).state == .full || (s.lane j).state == .faulted
    (s.mode ≠ .setup →
      exec (.clearSort l tag) s = .next ((s.setLastServed l).replyRefused l tag 0x2A .wrongMode))
    ∧ (s.mode = .setup →
      ∃ t, exec (.clearSort l tag) s = .next (t.replyOk l tag 0x2A (bytesOf 1 changed
          ++ bytesOf 1 s.coding.strays.length ++ bytesOf 1 s.coding.reinject.length ++ bytesOf 2 (count .one)
          ++ bytesOf 2 (count .two)))
        ∧ s.changesOnly t [.lanes, .diverters, .berths, .coding, .principals, .lastServed] ∧ t.lastServed = l
        ∧ t.coding = ⟨[], [], 1, 0, s.coding.exchange⟩
        ∧ (∀ j, t.lane j = { s.lane j with
          fill := 0
          state := if (s.lane j).state = .full ∨ (s.lane j).state = .faulted then .closed else (s.lane j).state })
        ∧ (∀ j, t.diverter j = { s.diverter j with score := 0 })
        ∧ t.principals = (((s.post .hall (.sortClearedHall changed s.coding.strays.length s.coding.reinject.length
            (count .one) (count .two))).post (.berth .one) (.sortClearedBerth (count .one))).post (.berth .two)
            (.sortClearedBerth (count .two))).principals
        ∧ ∀ b, (t.berth b).state = (s.berth b).state ∧ (t.berth b).deckMap = (s.berth b).deckMap
          ∧ (s.berth b).keepsCabins (t.berth b) (fun i => named.contains (some b, some i))
          ∧ ∀ i, (t.berth b).findEntry i = ((s.berth b).findEntry i).map fun e =>
            if named.contains (some b, some i) then { e with state := .expected, ticket := none } else e)

/-! ## Principal links -/

/-- R172, R173: ATTACH, with its checks in order, attaches an IDLE link; a link that carried the principal is
displaced: its waiting frames are answered DISPLACED, the DISPLACED link frame is formed for it and it becomes IDLE.
DETACH makes the link IDLE and keeps its frames. HALL is told of both. The reply to ATTACH counts the notices after
that of HALL (log 20). Waiting BUSY replies follow the other replies of a displaced link (log 42). Codes of named
values take one byte (log 39). A link number takes one byte (log 56). R171, R167, R168: LINK CHECK from a link that
is not MUTED reports the link and changes no table; on a MUTED link it counts, and the sixteenth returns the link to
IDLE (the reply of the sixteenth: log 19; the row taken from a MUTED link: log 3). RESTORE LINK by HALL clears a
link's error count and returns a MUTED link to IDLE. Codes of named values take one byte (log 39), and no principal
is FFh (log 13). R174, R177: SET LINK PERMISSION stores the flag, unless HALL would be allowed on no link, and
detaches the link from a principal no longer allowed on it; SET NOTICE CLASSES stores the set of the principal that
issues it. The reply gives three flags, one for each principal (log 12). -/
def Obligations.LinksAttachAndAreChecked : Prop :=
  (∀ (s : State) (l m : LinkNo) (tag : Byte) (n : Nat) (p q : Principal),
    let x := s.link l
    let s' := s.setLastServed l
    let refused (n : Nat) (r : RefusalCode) := exec (.attach l tag n) s = .next (s'.replyRefused l tag 0x2C r)
    let taken (t : State) := exec (.attach l tag p.code) s = .next (t.replyOk l tag 0x2C
      (bytesOf 1 p.code ++ bytesOf 1 l.val ++ bytesOf 1 (t.principal p).notices.length))
    let attached (t : State) := t.setLink l { x with state := .attached p }
    let displaced := s'.setLink m { s.link m with
      state := .idle
      queue := []
      replies := (s.link m).replies ++ (s.link m).busyReplies
        ++ (s.link m).queue.map (fun f => (⟨0x83, f.tag, [f.kind], false⟩ : OutFrame))
        ++ [(⟨0x88, 0, bytesOf 1 p.code ++ bytesOf 1 l.val, false⟩ : OutFrame)]
      busyReplies := [] }
    (x.state ≠ .muted → 3 ≤ n → refused n .badValue)
    ∧ (x.state ≠ .muted → x.allowed.allows p = false → refused p.code .notPermitted)
    ∧ (x.state = .attached q → x.allowed.allows p = true → q ≠ p → refused p.code .inUse)
    ∧ (x.state = .attached p → x.allowed.allows p = true → taken s')
    ∧ (x.state = .idle → x.allowed.allows p = true → (∀ o, (s.link o).state ≠ .attached p) →
      taken ((attached s').post .hall (.linkState l (.attached p) x.errorCount (some p) none .attached)))
    ∧ (x.state = .idle → x.allowed.allows p = true → (∀ o, (s.link o).state = .attached p ↔ o = m) →
      taken ((attached displaced).post .hall (.linkState l (.attached p) x.errorCount (some p) (some m) .displaced)))
    ∧ (x.state = .attached p → exec (.detach l tag) s
      = .next (((s'.setLink l { x with state := .idle }).post .hall
        (.linkState l .idle x.errorCount (some p) none .detached)).replyOk l tag 0x2D
        (bytesOf 1 l.val ++ bytesOf 1 p.code))))
  ∧ (∀ (s : State) (l m : LinkNo) (tag : Byte) (n : Nat),
    let x := s.link l
    let y := s.link m
    let s' := s.setLastServed l
    let restored := s'.setLink m { y with state := .idle, errorCount := 0, checkCount := 0 }
    (x.state ≠ .muted → exec (.linkCheck l tag) s = .next (s'.replyOk l tag 0x2E
      (bytesOf 1 x.state.code ++ principalBytes x.state.principal ++ bytesOf 1 x.errorCount
        ++ bytesOf 1 x.queue.length)))
    ∧ (x.state = .muted → x.checkCount < 15 → exec (.linkCheck l tag) s
      = .next ((s.setLink l { x with checkCount := x.checkCount + 1 }).replyOk l tag 0x2E
        (bytesOf 1 2 ++ bytesOf 1 (x.checkCount + 1))))
    ∧ (x.state = .muted → 15 ≤ x.checkCount → exec (.linkCheck l tag) s
      = .next (((s.setLink l { x with state := .idle, errorCount := 0, checkCount := 0 }).replyOk l tag 0x2E
        (bytesOf 1 0 ++ bytesOf 1 0)).post .hall (.linkState l .idle 0 none none .checked)))
    ∧ (x.state = .attached .hall → 4 ≤ n →
      exec (.restoreLink l tag n) s = .next (s'.replyRefused l tag 0x2F .badValue))
    ∧ (x.state = .attached .hall → y.state = .muted → exec (.restoreLink l tag m.val) s
      = .next ((restored.post .hall (.linkState m .idle 0 none none .restored)).replyOk l tag 0x2F
        (bytesOf 1 0 ++ bytesOf 1 0)))
    ∧ (x.state = .attached .hall → y.state ≠ .muted → exec (.restoreLink l tag m.val) s
      = .next ((s'.setLink m { y with errorCount := 0 }).replyOk l tag 0x2F
        (bytesOf 1 y.state.code ++ bytesOf 1 0))))
  ∧ ∀ (s : State) (l m : LinkNo) (tag : Byte) (n k : Nat) (p q : Principal) (flag : Bool) (classes : Byte),
    let y := s.link m
    let s' := s.setLastServed l
    let refused (n k : Nat) (r : RefusalCode) := exec (.setLinkPermission l tag n k flag) s
      = .next (s'.replyRefused l tag 0x30 r)
    let flags := y.allowed.store q flag
    let stored := s'.setLink m { y with allowed := flags }
    let detached := (s'.setLink m { y with allowed := flags, state := .idle }).post .hall
      (.linkState m .idle y.errorCount (some q) none .notPermitted)
    let shutsOut := flag = false ∧ q = .hall ∧ ∀ o, o ≠ m → (s.link o).allowed.hall = false
    ((s.link l).state = .attached .hall → (4 ≤ n ∨ 3 ≤ k) → refused n k .badValue)
    ∧ ((s.link l).state = .attached .hall → shutsOut → refused m.val q.code .badConfig)
    ∧ ((s.link l).state = .attached .hall → ¬shutsOut →
      flags.allows q = flag ∧ (∀ o, o ≠ q → flags.allows o = y.allowed.allows o)
      ∧ exec (.setLinkPermission l tag m.val q.code flag) s
        = .next ((if flag = false ∧ y.state = .attached q then detached else stored).replyOk l tag 0x30
          (flagByte flags.hall ++ flagByte flags.one ++ flagByte flags.two)))
    ∧ ((s.link l).state = .attached p → exec (.setNoticeClasses l tag classes) s
      = .next ((s'.setPrincipal p { s.principal p with classes := classes }).replyOk l tag 0x31 [classes]))

/-- R165, R166, R167, R170: what a judged frame does. A bad one raises the error count by 8, to 255 at most, and at
128 mutes the link, which loses its frames, its unsent replies and its principal; a good one lowers the count by one
and is queued, or answered BUSY when four frames wait; on a MUTED link a bad one also clears the check count, a good
LINK CHECK acts, and any other good frame is discarded. Characters that make no frame yet do nothing (log 16). The
DISPLACED link frame is lost with the unsent replies at the mute (log 15). -/
def Obligations.FramesAreTaken : Prop :=
  ∀ (s : State) (l : LinkNo) (characters : List RxChar) (f : CommandFrame),
    let x := s.link l
    let frame := exec (.frameReceived l characters) s
    let raised := min 255 (x.errorCount + 8)
    let counted := { x with errorCount := raised }
    let lowered := { x with errorCount := x.errorCount - 1 }
    (judgeFrame characters = .incomplete → frame = .next s)
    ∧ (judgeFrame characters = .bad → x.state = .muted → frame = .next (s.setLink l { counted with checkCount := 0 }))
    ∧ (judgeFrame characters = .bad → x.state ≠ .muted → raised < 128 → frame = .next (s.setLink l counted))
    ∧ (judgeFrame characters = .bad → x.state ≠ .muted → 128 ≤ raised →
      frame = .next ((s.setLink l ⟨.muted, raised, 0, [], x.allowed, [], []⟩).post .hall
        (.linkState l .muted raised x.state.principal none .muted)))
    ∧ (judgeFrame characters = .good f → x.state = .muted →
      (f.kind = 0x2E → frame = exec (.linkCheck l f.tag) s) ∧ (f.kind ≠ 0x2E → frame = .next s))
    ∧ (judgeFrame characters = .good f → x.state ≠ .muted →
      (x.queue.length < 4 → frame = .next (s.setLink l { lowered with queue := x.queue ++ [f] }))
      ∧ (4 ≤ x.queue.length → frame = .next (s.setLink l { lowered with
        busyReplies := x.busyReplies ++ [(⟨0x82, f.tag, [f.kind], false⟩ : OutFrame)] })))

/-- R169, R171, R176: a line break empties the link's command queue, its unsent replies and its check count and
makes an ATTACHED link IDLE, which HALL is told; a DISPLACED link frame stays (log 15). NOTICE SENT takes the head
notice of the principal that the link carries, REPLY SENT the next reply, each having been sent in full; a BUSY
reply or a notice is not sent between two parts of one reply (R181). Where there is nothing to send they do nothing.
NOTICE SENT and REPLY SENT stand for whole frames (log 17), kept as sent in the model's wires (log 24). -/
def Obligations.LinesBreakAndSend : Prop :=
  ∀ (s : State) (l : LinkNo) (p : Principal),
    let x := s.link l
    let onWire (t : State) (f : OutFrame) :=
      { t with wires := { t.wires with links := t.wires.links.set l.val f.bytes l.isLt } }
    let broken (st : LinkState) := s.setLink l ⟨st, x.errorCount, 0, [], x.allowed,
      x.replies.filter fun f => f.kind == 0x88, []⟩
    let midReply := ∃ f ∈ x.replies.head?, f.later = true
    (x.state = .attached p → exec (.lineBreak l) s
      = .next ((broken .idle).post .hall (.linkState l .idle x.errorCount (some p) none .broken)))
    ∧ ((x.state = .idle ∨ x.state = .muted) → exec (.lineBreak l) s = .next (broken x.state))
    ∧ ((x.state = .idle ∨ x.state = .muted) → exec (.noticeSent l) s = .next s)
    ∧ (x.state = .attached p → ((s.principal p).notices = [] ∨ midReply) → exec (.noticeSent l) s = .next s)
    ∧ (∀ (n : Notice) (rest : List Notice), x.state = .attached p → (s.principal p).notices = n :: rest → ¬midReply →
      exec (.noticeSent l) s = .next (onWire (s.setPrincipal p { s.principal p with notices := rest }) n.frame))
    ∧ (x.replies = [] → exec (.replySent l .ordered) s = .next s)
    ∧ (∀ (f : OutFrame) (rest : List OutFrame), x.replies = f :: rest →
      exec (.replySent l .ordered) s = .next (onWire (s.setLink l { x with replies := rest }) f))
    ∧ ((x.busyReplies = [] ∨ midReply) → exec (.replySent l .busy) s = .next s)
    ∧ ∀ (f : OutFrame) (rest : List OutFrame), x.busyReplies = f :: rest → ¬midReply →
      exec (.replySent l .busy) s = .next (onWire (s.setLink l { x with busyReplies := rest }) f)

/-! ## The loop: ADVANCE and what it brings -/

/-- R3, R25, R93 (log 5): an ADVANCE is taken by the Loop Tracker, then the induction points in ascending number,
then the windows close and open, then at a home crossing laps are counted, then timeouts, firing and arming, and
then the choices of the advance are made in ascending carrier number and LANE FAULT notices posted. No window opens
on a carrier that was granted, or had its window closed, at the advance (R40); the carriers that ask a choice are
the coded grants, those with a closed window, at a home crossing those that were WAITING or untargeted before the
advance (R99), and those of the timeouts. The blocks act on the state that the Loop Tracker leaves: at a second
slip, HALTED within the same ADVANCE (log 7). R1, R2, R4 (Table 1-2): what an ADVANCE makes of position and counts,
whatever the blocks then do; links and frames are not its concern. In SETUP, with nothing on the loop, waiting or
armed, that is all it does but HOME MISSED. -/
def Obligations.AdvanceRunsEveryBlock : Prop :=
  (∀ (s : State) (mark : Byte),
    let before := s.carriersWith fun c => c.state == .waiting || (c.state == .carrying && c.target == none)
    let tracked := s.track (mark != 0)
    let granted := [(0 : PointNo), 1, 2, 3, 4, 5].foldl Granting.pointStep ⟨tracked.1, [], []⟩
    let closed := granted.state.closeWindows
    let opened := closed.1.openWindows (closed.2 ++ granted.granted)
    let counted := if tracked.2 then opened.countLaps before else opened
    let timed := counted.timeouts
    let armed := timed.1.state.fireAll.armAll
    let wants := granted.wants ++ closed.2 ++ (if tracked.2 then before else []) ++ timed.1.wants
    let asking := (List.range armed.carriers.table.length).filter fun k => wants.contains k
    exec (.advance mark) s = .next (timed.2.foldl (fun u r =>
      let owner := (u.lane r.lane).owner
      u.postOwner owner (.laneFault r.lane owner r.score r.carrier r.cause r.cancelled r.rechosen r.fired))
      (armed.chooseAll asking)))
  ∧ ∀ (s : State) (mark : Byte),
    let next := (s.loop.position + 1) % s.loop.count
    let home := { s.loop with position := 0, revolutions := (s.loop.revolutions + 1) % 65536 }
    let after : Loop :=
      if next = 0 ∧ mark ≠ 0 then home
      else if next = 0 then { home with homeMissed := min 255 (s.loop.homeMissed + 1) }
      else if mark = 0 then { s.loop with position := next }
      else { home with slips := min 255 (s.loop.slips + 1) }
    let quiet := s.mode = .setup ∧ (∀ i, (s.point i).waiting = none) ∧ (∀ n, (s.station n).window = none)
      ∧ (∀ c ∈ s.carriers.table, c.state = .empty) ∧ ∀ j, (s.diverter j).queue = []
    (∃ t, exec (.advance mark) s = .next t ∧ t.loop = after
      ∧ s.changesOnly t [.loop, .carriers, .induction, .stations, .berths, .router, .lanes, .diverters, .coding, .mode,
        .principals, .orders])
    ∧ (quiet → next = 0 → mark = 0 →
      exec (.advance mark) s = .next (State.post { s with loop := after } .hall (.homeMissed after.homeMissed)))
    ∧ (quiet → (mark = 0 ↔ next ≠ 0) → exec (.advance mark) s = .next { s with loop := after })

/-- R13 to R17: a home mark where none is expected is a slip. Every loaded carrier that is not FIRED becomes
UNVERIFIED and the entry of its identity EXPECTED, cabins kept, every armed queue and the pending-tag list are
emptied, every window is abandoned, every CLOSING berth left without bags is cleared, with its lanes and the
references to it in the stray and reinject records (records that name no entry: log 11), and told of, berth 1 before
berth 2 (log 43), and SLIP is posted to HALL after that (log 28); a slip that finds a carrier UNVERIFIED also halts
the part, from RUN, HOLD or DRAINING, with MODE CHANGED to all three principals, reservations ending when it leaves
RUN. -/
def Obligations.SlipLosesTrack : Prop :=
  ∀ s : State,
    let next := (s.loop.position + 1) % s.loop.count
    let t := s.slip
    let fired := s.carriers.table.countP fun c => c.state == .fired
    let losers := s.carriers.table.countP fun c => c.state != .empty && c.state != .fired
    let halts := 0 < s.carriers.unverified ∧ (s.mode = .run ∨ s.mode = .hold ∨ s.mode = .draining)
    let told (b : BerthId) (u : State) : State :=
      if s.leftByLoss b then u.postHallAnd b (.berthState b .unbound false) else u
    let slipped := (told .two (told .one { s with loop := t.loop })).post .hall
      (.slip next losers fired (0 < s.carriers.unverified))
    (next ≠ 0 → s.track true = (t, false))
    ∧ t.loop = { s.loop with
      position := 0, revolutions := (s.loop.revolutions + 1) % 65536, slips := min 255 (s.loop.slips + 1) }
    ∧ s.changesOnly t [.loop, .carriers, .stations, .berths, .router, .lanes, .diverters, .coding, .mode, .principals]
    ∧ (∀ n, t.station n = { s.station n with window := none })
    ∧ (∀ j, t.diverter j = { s.diverter j with queue := [] })
    ∧ t.router = { s.router with pendingTags := [] }
    ∧ t.mode = (if halts then .halted else s.mode)
    ∧ (¬(halts ∧ s.mode = .run) → s.trackLost t)
    ∧ t.carriers.table.length = s.carriers.table.length ∧ s.berthsLost t
    ∧ (halts → s.mode = .run → ∀ k, t.carrier k = { (s.carrier k).lost with reservation := none })
    ∧ (¬halts → t.principals = slipped.principals)
    ∧ (halts → t.principals = (slipped.postAll
      (.modeChanged s.mode .halted .secondSlip t.carriers.loaded t.carriers.unverified)).principals)

/-- R25 to R30: at an ADVANCE a point with a waiting bag is granted the carrier at it when the mode is RUN, the
loaded count is below the limit and the carrier is EMPTY and not reserved for another point. An ordinary grant loads
it UNREAD, raises the loaded count, sends GRANT, ends the point's reservation and takes the waiting record away.
Otherwise the point's reservation of that carrier lapses and the wait count rises; a point that has waited to the
starve limit and holds no reservation reserves the nearest EMPTY unreserved carrier ahead of it. -/
def Obligations.PointsGrantOrWait : Prop :=
  ∀ (g : Granting) (i : PointNo) (d : Nat) (w : Waiting),
    let s := g.state
    let k := s.loop.carrierAt d
    let c := s.carrier k
    let granted := s.mode = .run ∧ s.carriers.loaded < s.induction.loadLimit ∧ c.state = .empty
      ∧ (c.reservation = none ∨ c.reservation = some i)
    let t := (g.pointStep i).state
    let lapsed (m : Nat) : Carrier := if m = k ∧ c.reservation = some i then { c with reservation := none } else s.carrier m
    let wait := min 255 (w.wait + 1)
    let starved := s.mode = .run ∧ s.induction.starveLimit ≤ wait ∧ ∀ m, (lapsed m).reservation ≠ some i
    let ahead (m : Nat) := m < s.carriers.table.length ∧ (lapsed m).state = .empty ∧ (lapsed m).reservation = none
      ∧ 0 < s.loop.distance m d
    (((s.point i).enabled = false ∨ (s.point i).offset = none ∨ (s.point i).waiting = none) → g.pointStep i = g)
    ∧ ((s.point i).enabled = true → (s.point i).offset = some d → (s.point i).waiting = some w →
      k < s.carriers.table.length →
      (granted → ((s.point i).mark = false ∨ w.ticket = none) →
        (g.pointStep i).granted = g.granted ++ [k] ∧ (g.pointStep i).wants = g.wants
        ∧ s.changesOnly t [.carriers, .induction, .orders]
        ∧ t.orders = (if s.orders.length < 32 then s.orders ++ [.grant i k] else s.orders)
        ∧ t.carriers.table.length = s.carriers.table.length ∧ t.carriers.loaded = s.carriers.loaded + 1
        ∧ t.carriers.unverified = s.carriers.unverified
        ∧ t.carrier k = ⟨.unread, none, some w.size, some i, none, none, none, none, false, 0, 0, none⟩
        ∧ (∀ m, m ≠ k → t.carrier m = { s.carrier m with
          reservation := if (s.carrier m).reservation = some i then none else (s.carrier m).reservation })
        ∧ t.induction.loadLimit = s.induction.loadLimit ∧ t.induction.starveLimit = s.induction.starveLimit
        ∧ t.point i = { s.point i with waiting := none } ∧ ∀ q, q ≠ i → t.point q = s.point q)
      ∧ (¬granted →
        (g.pointStep i).granted = g.granted ∧ (g.pointStep i).wants = g.wants
        ∧ s.changesOnly t [.carriers, .induction]
        ∧ t.carriers.table.length = s.carriers.table.length ∧ t.carriers.loaded = s.carriers.loaded
        ∧ t.carriers.unverified = s.carriers.unverified
        ∧ t.induction.loadLimit = s.induction.loadLimit ∧ t.induction.starveLimit = s.induction.starveLimit
        ∧ t.point i = { s.point i with waiting := some { w with wait := wait } }
        ∧ (∀ q, q ≠ i → t.point q = s.point q)
        ∧ ((¬starved ∨ ∀ m, ¬ahead m) → ∀ m, t.carrier m = lapsed m)
        ∧ (starved → (∃ m, ahead m) →
          ∃ m, ahead m ∧ (∀ o, ahead o → s.loop.distance m d ≤ s.loop.distance o d)
            ∧ t.carrier m = { lapsed m with reservation := some i } ∧ ∀ o, o ≠ m → t.carrier o = lapsed o)))

/-- R28, R147 (Table 2-3): a granted bag at the marked point that holds a ticket. GRANT, the end of the point's
reservation, the waiting record's removal and the loaded count are as for an ordinary bag, and the carrier counts as
granted at the advance (R40). With no reinject record it is an ordinary bag. Else the record is consumed and an
entry it names loses its ticket: a coded bag whose berth is BOUND and whose entry is STRAYED with this ticket (R63)
is matched, ON_LOOP, with the disposition of its cabin, and asks a choice; any other is read again and keeps the
ticket. -/
def Obligations.TicketedBagsAreGranted : Prop :=
  ∀ (g : Granting) (i : PointNo) (d ticket n : Nat) (w : Waiting) (r : ReinjectRecord) (b : BerthId) (e : Entry) (x : Cabin),
    let s := g.state
    let k := s.loop.carrierAt d
    let t := (g.pointStep i).state
    let rest := { s.coding with reinject := s.coding.reinject.filter fun r => r.ticket != ticket }
    let unread (ticket : Option Nat) : Carrier :=
      ⟨.unread, none, some w.size, some i, none, none, none, none, false, 0, 0, ticket⟩
    let coded := r.resolution = .coded ∧ r.berth = some b ∧ r.entry = some e.index
      ∧ (s.berth b).state.isBound = true ∧ e.state = .strayed ∧ e.ticket = some ticket
    (s.point i).enabled = true → (s.point i).offset = some d → (s.point i).waiting = some w →
    (s.point i).mark = true → w.ticket = some ticket → k < s.carriers.table.length → s.grants i k = true →
    (g.pointStep i).granted = g.granted ++ [k]
    ∧ s.changesOnly t [.carriers, .induction, .orders, .coding, .berths]
    ∧ t.orders = (if s.orders.length < 32 then s.orders ++ [.grant i k] else s.orders)
    ∧ t.carriers.table.length = s.carriers.table.length ∧ t.carriers.loaded = s.carriers.loaded + 1
    ∧ t.carriers.unverified = s.carriers.unverified
    ∧ (∀ m, m ≠ k → t.carrier m = { s.carrier m with
      reservation := if (s.carrier m).reservation = some i then none else (s.carrier m).reservation })
    ∧ t.induction.loadLimit = s.induction.loadLimit ∧ t.induction.starveLimit = s.induction.starveLimit
    ∧ t.point i = { s.point i with waiting := none } ∧ (∀ q, q ≠ i → t.point q = s.point q)
    ∧ (s.coding.reinject.find? (fun r => r.ticket == ticket) = none →
      t.carrier k = unread none
      ∧ t.coding = s.coding ∧ t.berths = s.berths ∧ (g.pointStep i).wants = g.wants)
    ∧ (s.coding.reinject.find? (fun r => r.ticket == ticket) = some r →
      (r.berth = none ∨ r.entry = none →
        t.carrier k = unread (some ticket)
        ∧ t.coding = rest ∧ t.berths = s.berths ∧ (g.pointStep i).wants = g.wants)
      ∧ (r.berth = some b → r.entry = some n → (s.berth b).findEntry n = none →
        t.carrier k = unread (some ticket)
        ∧ t.coding = rest ∧ t.berths = s.berths ∧ (g.pointStep i).wants = g.wants)
      ∧ (r.berth = some b → r.entry = some e.index → (s.berth b).findEntry e.index = some e →
        (s.berth b).findCabin e.cabin = some x →
        t.coding = rest ∧ (∀ o, o ≠ b → t.berth o = s.berth o)
        ∧ (t.berth b).state = (s.berth b).state ∧ (t.berth b).deckMap = (s.berth b).deckMap
        ∧ (t.berth b).cabins = (s.berth b).cabins
        ∧ (∀ m, m ≠ e.index → (t.berth b).findEntry m = (s.berth b).findEntry m)
        ∧ (¬coded →
          t.carrier k = unread (some ticket)
          ∧ (t.berth b).findEntry e.index = some { e with ticket := none } ∧ (g.pointStep i).wants = g.wants)
        ∧ (coded →
          t.carrier k = ⟨.carrying, none, some w.size, some i, some ⟨b, e.index⟩, none,
            some (if x.held then .hold else .delivery), none, false, 0, 0, none⟩
          ∧ (t.berth b).findEntry e.index = some { e with state := .onLoop, ticket := none }
          ∧ (g.pointStep i).wants = g.wants ++ [k])))

/-- R125, R126: a carrier is armed at its tentative lane at distance K - 1, in RUN and DRAINING alone, and joins the end
of the lane's armed queue; the head of a queue, at distance 0, is fired in every mode and leaves the queue. Nothing else is
armed or fired. At an ADVANCE every carrier is looked at for arming and every lane for firing, the FIRE orders being handed
over in ascending lane number while fewer than 32 orders wait (R184). -/
def Obligations.CarriersAreArmedAndFired : Prop :=
  (∀ (s : State) (k : Nat) (j : LaneNo) (d : Nat) (rest : List Nat),
    let c := s.carrier k
    ((s.mode = .setup ∨ s.mode = .hold ∨ s.mode = .halted) → s.armAll = s)
    ∧ (c.state = .carrying → c.target = some j → c.armed = false → (s.lane j).offset = some d →
      s.loop.distance k d = s.loop.commit - 1 →
      s.armOne k = (s.setCarrier k { c with armed := true }).setDiverter j
        { s.diverter j with queue := (s.diverter j).queue ++ [k] })
    ∧ (¬(c.state = .carrying ∧ c.target = some j ∧ c.armed = false) → (c.target = some j ∨ c.target = none) →
      s.armOne k = s)
    ∧ (c.target = some j → (s.lane j).offset = some d → s.loop.distance k d ≠ s.loop.commit - 1 → s.armOne k = s)
    ∧ ((s.diverter j).queue = [] → s.fireAt j = s)
    ∧ ((s.diverter j).queue = k :: rest → (s.lane j).offset = some d →
      (s.loop.distance k d ≠ 0 → s.fireAt j = s)
      ∧ (s.loop.distance k d = 0 → s.fireAt j = State.setCarrier
        { s.setDiverter j { s.diverter j with queue := rest } with
          orders := if s.orders.length < 32 then s.orders ++ [.fire j k] else s.orders }
        k { c with state := .fired, armed := false })))
  ∧ (∀ s : State, (s.mode = .run ∨ s.mode = .draining) →
    let t := s.armAll
    let arms (j : LaneNo) (k : Nat) : Bool := (s.carrier k).state == .carrying && (s.carrier k).target == some j
      && !(s.carrier k).armed && (s.lane j).offset.any fun d => s.loop.distance k d == s.loop.commit - 1
    s.changesOnly t [.carriers, .diverters] ∧ t.carriers.table.length = s.carriers.table.length
      ∧ t.carriers.loaded = s.carriers.loaded ∧ t.carriers.unverified = s.carriers.unverified
      ∧ (∀ k, t.carrier k = { s.carrier k with armed := (s.carrier k).armed || allLanes.any fun j => arms j k })
      ∧ ∀ j, t.diverter j = { s.diverter j with
        queue := (s.diverter j).queue ++ (List.range s.carriers.table.length).filter (arms j) })
  ∧ ∀ s : State, (∀ j, ∀ k ∈ (s.diverter j).queue, (s.carrier k).state = .carrying ∧ (s.carrier k).target = some j) →
    let t := s.fireAll
    let head (j : LaneNo) : Option Nat := (s.diverter j).queue.head?.filter fun k =>
      s.loop.distance k ((s.lane j).offset.getD 0) == 0
    s.changesOnly t [.carriers, .diverters, .orders] ∧ t.carriers.table.length = s.carriers.table.length
      ∧ t.carriers.loaded = s.carriers.loaded ∧ t.carriers.unverified = s.carriers.unverified
      ∧ (∀ k, t.carrier k = if allLanes.any (fun j => head j == some k) then
          { s.carrier k with state := .fired, armed := false }
        else s.carrier k)
      ∧ (∀ j, t.diverter j = { s.diverter j with
        queue := if head j = none then (s.diverter j).queue else (s.diverter j).queue.tail })
      ∧ t.orders = s.orders
        ++ (allLanes.filterMap fun j => (head j).map fun k => Order.fire j k).take (32 - s.orders.length)

/-! ## Induction points -/

/-- R23, R24: a presented bag is rejected CLOSED by a point that takes no part, OOG when out of gauge, BUSY when a bag
waits already; else it waits, with its ticket at the marked point alone. A withdrawn bag's record goes, and so does the
point's reservation. Events for points that do not exist or hold no bag are discarded. -/
def Obligations.BagsArePresentedAndWithdrawn : Prop :=
  ∀ (s : State) (n : Nat) (i : PointNo) (size : SizeClass) (z : Size) (ticket : Nat),
    let x := s.point i
    let present := exec (.bagPresented i.val size ticket) s
    let open_ := x.enabled = true ∧ x.offset ≠ none
    let named := bagSizeOf size = some z
    let rejected (r : RejectReason) := present = .next
      (if s.orders.length < 32 then { s with orders := s.orders ++ [.reject i r] } else s)
    let wait : Waiting := ⟨z, if x.mark = true ∧ 1 ≤ ticket ∧ ticket ≤ 4095 then some ticket else none, 0⟩
    (6 ≤ n → exec (.bagPresented n size ticket) s = .next s ∧ exec (.bagWithdrawn n) s = .next s)
    ∧ (¬open_ → rejected .closed)
    ∧ (open_ → size = .OOG → rejected .oog)
    ∧ (open_ → named → x.waiting ≠ none → rejected .busy)
    ∧ (open_ → named → x.waiting = none → present = .next (s.setPoint i { x with waiting := some wait }))
    ∧ (x.waiting = none → exec (.bagWithdrawn i.val) s = .next s)
    ∧ (x.waiting ≠ none → exec (.bagWithdrawn i.val) s = .next
      { s.setPoint i { x with waiting := none } with carriers := { s.carriers with
        table := s.carriers.table.map fun c =>
          { c with reservation := if c.reservation = some i then none else c.reservation } } })

/-! ## Reading -/

/-- R42, R43, R46, R47: an answer that is not the outstanding poll's is discarded. One that is joins the answers in
hand; with fewer than W the next head of the window's order is polled, the poll number having risen by one modulo
256; with W the window closes and its outcome goes to the Route Selector, with a choice for the carrier it names if
that awaits one, and an ACCEPTED outcome scores the heads. R48, R49, R50: an answer of an accepting window lowers
its head's score by 1 when it agrees, and raises it by 8 when it disagrees and by 2 when it decoded nothing, within
0..255. A head not suspended at 128 or more is suspended while another is not; the last one is degraded, and HALL is
told once. After an accepting window every answer in hand is scored, in the order taken, and then every head of the
station is judged, in ascending number. -/
def Obligations.PollAnswersAreTakenAndScored : Prop :=
  (∀ (s : State) (a : Nat) (n : StationNo) (head number ship serial : Nat) (w : Window) (tag : Tag),
    let x := s.station n
    let result : Option Tag := if 1 ≤ ship ∧ ship ≤ 63 ∧ serial ≤ 999999 then some ⟨ship, serial⟩ else none
    let answers := w.answers ++ [⟨head, result⟩]
    let answered := exec (.pollAnswer n.val head number ship serial) s
    let number' := (x.pollNumber + 1) % 256
    let head' := w.order.getD answers.length 0
    let closed := s.setStation n { x with window := none }
    let awaits := (s.carrier w.carrier).state = .unread ∨ (s.carrier w.carrier).state = .unverified
    let stray (r : StrayReason) := (closed.enterDisposition w.carrier (.stray r)).chooseTarget w.carrier
    let read := closed.takeOutcome w.carrier (.accepted tag)
    (4 ≤ a → exec (.pollAnswer a head number ship serial) s = .next s)
    ∧ (x.window = none → answered = .next s)
    ∧ (x.window = some w → w.outstanding ≠ some ⟨head, number⟩ → answered = .next s)
    ∧ (x.window = some w → w.outstanding = some ⟨head, number⟩ →
      (answers.length < w.polls → answered = .next (State.handOver
        (s.setStation n { x with
          pollNumber := number', window := some { w with answers := answers, outstanding := some ⟨head', number'⟩ } })
        (.poll n head' number')))
      ∧ (w.polls ≤ answers.length →
        (tally answers w.votes = .noRead → answered = .next (if awaits then stray .noRead else closed))
        ∧ (tally answers w.votes = .weak → answered = .next (if awaits then stray .weak else closed))
        ∧ (tally answers w.votes = .ambiguous → answered = .next (if awaits then stray .ambiguous else closed))
        ∧ (tally answers w.votes = .accepted tag → awaits →
          answered = .next ((read.scoreHeads n answers tag).chooseTarget w.carrier))
        ∧ (tally answers w.votes = .accepted tag → ¬awaits → answered = .next (closed.scoreHeads n answers tag)))))
  ∧ ∀ (s : State) (n : StationNo) (h : Nat) (r : HeadRecord) (accepted other : Tag) (answers : List Answer),
    let x := s.station n
    let y := x.head h
    let stored (r : HeadRecord) := s.setStation n { x with headRecords := x.headRecords.setIfInBounds h r }
    let others := ∃ m, m < x.heads ∧ m ≠ h ∧ (x.head m).suspended = false
    let scored := x.scored answers accepted
    r.scored accepted (some accepted) = { r with score := r.score - 1 }
    ∧ (other ≠ accepted → r.scored accepted (some other) = { r with score := min 255 (r.score + 8) })
    ∧ r.scored accepted none = { r with score := min 255 (r.score + 2) }
    ∧ (y.suspended = true → s.judgeHead n h = s)
    ∧ (y.suspended = false → y.score < 128 → s.judgeHead n h = stored { y with degraded := false })
    ∧ (y.suspended = false → 128 ≤ y.score → others →
      s.judgeHead n h = stored { y with suspended := true, degraded := false })
    ∧ (y.suspended = false → 128 ≤ y.score → ¬others → y.degraded = true → s.judgeHead n h = s)
    ∧ (y.suspended = false → 128 ≤ y.score → ¬others → y.degraded = false →
      s.judgeHead n h = (stored { y with degraded := true }).post .hall (.headDegraded n h y.score))
    ∧ scored = { x with headRecords := scored.headRecords }
    ∧ (h < 8 → scored.head h
      = (answers.filter fun a => a.head == h).foldl (fun r a => r.scored accepted a.result) y)
    ∧ s.scoreHeads n answers accepted
      = (List.range x.heads).foldl (fun u h => u.judgeHead n h) (s.setStation n scored)

/-- R39, R40, R41, R44, R184: at an ADVANCE every open window closes with the answers in hand, its outcome going to the Route
Selector and an ACCEPTED one scoring the heads, station by station in ascending number (log 45). Then, in RUN, HOLD and
DRAINING, each enabled station opens a window on the UNREAD or UNVERIFIED carrier at it, unless that was granted or had a
window closed at this advance: with the W, V and carrier state in force, the poll number one higher modulo 256, and the first
poll sent, while fewer than 32 orders wait. The poll order is the first W of the repeated cycle: the unsuspended heads, or,
where priority heads and others are both unsuspended, each other head after all the priority heads. -/
def Obligations.WindowsCloseAndOpen : Prop :=
  (∀ (s : State) (n : StationNo) (w : Window) (tag : Tag),
    let closed := (s.setStation n { s.station n with window := none })
    let outcome := tally w.answers w.votes
    (outcome = .accepted tag →
      s.closeWindow n w = (closed.takeOutcome w.carrier outcome).scoreHeads n w.answers tag)
    ∧ ((outcome = .noRead ∨ outcome = .weak ∨ outcome = .ambiguous) →
      s.closeWindow n w = closed.takeOutcome w.carrier outcome))
  ∧ (∀ s : State,
    let close (acc : State × List Nat) (n : StationNo) : State × List Nat := match (acc.1.station n).window with
      | none => acc
      | some w => (acc.1.closeWindow n w,
        if (acc.1.carrier w.carrier).state = .unread ∨ (acc.1.carrier w.carrier).state = .unverified then
          acc.2 ++ [w.carrier]
        else acc.2)
    let t := s.closeWindows.1
    s.closeWindows = close (close (close (close (s, []) 0) 1) 2) 3
    ∧ s.changesOnly t [.stations, .carriers, .berths, .router, .lanes, .principals]
    ∧ (∀ n, (t.station n).window = none ∧ t.station n = { s.station n with
      window := none, headRecords := (t.station n).headRecords })
    ∧ ∀ k, (∀ n, ∀ w ∈ (s.station n).window, w.carrier ≠ k) → t.carrier k = s.carrier k)
  ∧ (∀ (x : Station),
    let polled := (List.range x.heads).filter fun h => !(x.head h).suspended
    let first := polled.filter fun h => x.priority.contains h
    let others := polled.filter fun h => !x.priority.contains h
    let cycle := if first = [] ∨ others = [] then polled else (others.map fun h => first ++ [h]).flatten
    polled ≠ [] → cycle ≠ [] ∧ x.pollOrder.length = x.polls
      ∧ ∀ i, i < x.polls → x.pollOrder[i]? = cycle[i % cycle.length]?)
  ∧ ∀ (s : State) (excluded : List Nat),
    let t := s.openWindows excluded
    let opens (n : StationNo) : Option Nat := (s.station n).offset.bind fun d =>
      let k := s.loop.carrierAt d
      if (s.station n).enabled = true ∧ (s.mode = .run ∨ s.mode = .hold ∨ s.mode = .draining)
        ∧ ((s.carrier k).state = .unread ∨ (s.carrier k).state = .unverified) ∧ k ∉ excluded then some k else none
    let number (n : StationNo) := ((s.station n).pollNumber + 1) % 256
    let head (n : StationNo) := (s.station n).pollOrder.getD 0 0
    s.changesOnly t [.stations, .orders]
    ∧ (∀ n, opens n = none → t.station n = s.station n)
    ∧ (∀ n, ∀ k ∈ opens n, t.station n = { s.station n with
      pollNumber := number n
      window := some ⟨k, (s.carrier k).state, (s.station n).polls, (s.station n).votes, (s.station n).pollOrder, [],
        some ⟨head n, number n⟩⟩ })
    ∧ t.orders = s.orders
      ++ (allStations.filterMap fun n => (opens n).map fun _ => Order.poll n (head n) (number n)).take
        (32 - s.orders.length)

/-! ## Routing -/

/-- R82 to R87 (Table 5-2): what an outcome makes of an UNREAD or UNVERIFIED carrier, before its choice; an outcome
for any other carrier is discarded. An ACCEPTED tag becomes the candidate. A match makes its entry ON_LOOP and
touches no other entry and no cabin (R84). -/
def Obligations.ReadsGiveDispositions : Prop :=
  ∀ (s : State) (k : Nat) (t : Tag) (b : BerthId) (e : Entry) (x : Cabin),
    let c := s.carrier k
    let accepted := s.takeOutcome k (.accepted t)
    let read := s.setCarrier k { c with candidate := some t }
    let awaits := c.state = .unread ∨ c.state = .unverified
    let names := ∀ o, (s.berth o).state.ship = some t.ship ↔ o = b
    let listed := s.router.pendingTags.any fun r => r.berth == b && r.serial == t.serial
    let known := (s.berth b).findSerial t.serial = some e
    (¬awaits → ∀ o, s.takeOutcome k o = s)
    ∧ (awaits → s.takeOutcome k .noRead = s.enterDisposition k (.stray .noRead)
      ∧ s.takeOutcome k .weak = s.enterDisposition k (.stray .weak)
      ∧ s.takeOutcome k .ambiguous = s.enterDisposition k (.stray .ambiguous))
    ∧ (awaits → (∀ o, (s.berth o).state.ship ≠ some t.ship) → accepted = read.enterDisposition k (.stray .foreign))
    ∧ (awaits → names → (s.berth b).state = .closing t.ship →
      accepted = read.enterDisposition k (.stray .berthClosing))
    ∧ (awaits → names → (s.berth b).state = .bound t.ship →
      (known → e.state = .onLoop → accepted = read.enterDisposition k (.stray .duplicate))
      ∧ (known → e.state ≠ .onLoop → e.state ≠ .expected → accepted = read.enterDisposition k (.stray .repeated))
      ∧ (known → e.state = .expected → (s.berth b).findEntry e.index = some e →
        (s.berth b).findCabin e.cabin = some x →
        let matched : State :=
          (s.setCarrier k { c with candidate := some t, identity := some ⟨b, e.index⟩ }).enterDisposition k
            (if x.held then .hold else .delivery)
        s.changesOnly accepted [.carriers, .lanes, .berths]
        ∧ accepted.carriers = matched.carriers ∧ accepted.lanes = matched.lanes
        ∧ (∀ o, o ≠ b → accepted.berth o = s.berth o)
        ∧ (accepted.berth b).state = (s.berth b).state ∧ (accepted.berth b).deckMap = (s.berth b).deckMap
        ∧ (accepted.berth b).cabins = (s.berth b).cabins
        ∧ (∀ n, n ≠ e.index → (accepted.berth b).findEntry n = (s.berth b).findEntry n)
        ∧ (accepted.berth b).findEntry e.index = some { e with state := .onLoop, ticket := none }
        ∧ (∀ m, m ≠ k → accepted.carrier m = s.carrier m)
        ∧ Carrier.entered { c with candidate := some t, identity := some ⟨b, e.index⟩ } (accepted.carrier k)
          (if x.held then .hold else .delivery))
      ∧ ((s.berth b).findSerial t.serial = none → listed = true →
        accepted = read.enterDisposition k (.stray .duplicate))
      ∧ ((s.berth b).findSerial t.serial = none → listed = false →
        (s.router.waitLimit = 0 ∨ 32 ≤ s.router.pendingTags.length) →
        accepted = read.enterDisposition k (.stray .unknown))
      ∧ ((s.berth b).findSerial t.serial = none → listed = false → 0 < s.router.waitLimit →
        s.router.pendingTags.length < 32 →
        accepted = State.post
          { s.setCarrier k { c with candidate := some t } with
            router := { s.router with pendingTags := s.router.pendingTags ++ [⟨b, t.serial, k⟩] }
            carriers := (s.setCarrier k { c with candidate := some t, state := .waiting, laps := 0 }).carriers }
          (.berth b) (.tagPending t.serial k s.router.waitLimit)))

/-- R97, R98: at a home crossing, in RUN and DRAINING alone, the laps of the carriers that were WAITING or
untargeted before the advance rise by one, to 15 at most; then, in ascending number (log 6), one WAITING at R_wait
laps leaves the pending-tag list as STRAY(UNKNOWN), and an untargeted DELIVERY or HOLD carrier at R_max laps becomes
a stray of reason NO_ROOM or HELD; the rows WAIT_EXPIRY and LAP_LIMIT are these two with the choice that follows
(log 4). R98, R101: WAIT_EXPIRY makes a WAITING carrier at R_wait laps a stray of reason UNKNOWN and takes its
record away; LAP_LIMIT makes an untargeted DELIVERY or HOLD carrier at R_max laps a stray of reason NO_ROOM or HELD:
its identity is dropped, its entry STRAYED, BAG STRAYED posted and a CLOSING berth tested. In RUN and DRAINING
alone; where the condition does not hold the row does nothing (log 4). What the clearing takes from records that
name no entry is log 11. -/
def Obligations.LapLimitsMakeStrays : Prop :=
  (∀ (s : State) (k : Nat) (before : List Nat),
    let c := s.carrier k
    let counting := s.mode = .run ∨ s.mode = .draining
    let t := before.foldl (fun u m => u.setCarrier m { u.carrier m with laps := min 15 ((u.carrier m).laps + 1) }) s
    let atLimit := c.state = .carrying ∧ c.target = none ∧ s.router.lapLimit ≤ c.laps
    let expired := c.state = .waiting ∧ s.router.waitLimit ≤ c.laps
    let gone : State := { s with router := { s.router with
      pendingTags := s.router.pendingTags.filter fun r => r.carrier != k } }
    (¬counting → s.countLaps before = s)
    ∧ (counting → s.countLaps before = before.foldl (fun u m => (u.expireWait m).strayAtLimit m) t)
    ∧ (before.Nodup → (∀ m ∈ before, m < s.carriers.table.length) → s.changesOnly t [.carriers] ∧ ∀ m, t.carrier m
      = if m ∈ before then { s.carrier m with laps := min 15 ((s.carrier m).laps + 1) } else s.carrier m)
    ∧ (expired → s.expireWait k = gone.enterDisposition k (.stray .unknown))
    ∧ (¬expired → s.expireWait k = s)
    ∧ (atLimit → c.disposition = some .delivery → s.strayAtLimit k = s.becomeStray k .noRoom)
    ∧ (atLimit → c.disposition = some .hold → s.strayAtLimit k = s.becomeStray k .held)
    ∧ (¬(atLimit ∧ (c.disposition = some .delivery ∨ c.disposition = some .hold)) → s.strayAtLimit k = s)
    ∧ (counting → expired → exec (.waitExpiry k) s = .next ((s.expireWait k).chooseTarget k))
    ∧ (counting → atLimit → (c.disposition = some .delivery ∨ c.disposition = some .hold) →
      exec (.lapLimit k) s = .next ((s.strayAtLimit k).chooseTarget k)))
  ∧ ∀ (s : State) (k : Nat) (d : Identity) (e : Entry),
    let c := s.carrier k
    let counting := s.mode = .run ∨ s.mode = .draining
    let expired := counting ∧ c.state = .waiting ∧ s.router.waitLimit ≤ c.laps
    let limited (p : Disposition) := counting ∧ c.state = .carrying ∧ c.target = none ∧ s.router.lapLimit ≤ c.laps
      ∧ c.disposition = some p
    let ready := (s.berth d.berth).state.isClosing = true ∧ (∀ m, m ≠ k → (s.carrier m).isOf d.berth = false)
      ∧ ∀ t ∈ s.router.pendingTags, t.berth ≠ d.berth
    let becomes (r : StrayReason) := ∃ t, exec (.lapLimit k) s = .next t
      ∧ s.changesOnly t [.carriers, .lanes, .berths, .coding, .principals]
      ∧ (∀ m, m ≠ k → t.carrier m = s.carrier m)
      ∧ Carrier.entered { c with identity := none } (t.carrier k) (.stray r)
      ∧ t.carriers = ((s.becomeStray k r).chooseTarget k).carriers ∧ t.lanes = ((s.becomeStray k r).chooseTarget k).lanes
      ∧ (¬ready → t.berth d.berth = (s.berth d.berth).setEntryState d.entry .strayed none
        ∧ (∀ o, o ≠ d.berth → t.berth o = s.berth o) ∧ t.coding = s.coding ∧ (∀ j, (s.lane j).rebooked (t.lane j))
        ∧ t.principals = (s.post (.berth d.berth) (.bagStrayed e.cabin e.index e.serial r k)).principals)
      ∧ (ready → s.berthCleared t d.berth
        ∧ t.principals = ((s.post (.berth d.berth) (.bagStrayed e.cabin e.index e.serial r k)).postHallAnd d.berth
          (.berthState d.berth .unbound false)).principals)
    (¬expired → exec (.waitExpiry k) s = .next s)
    ∧ (expired → ∃ t, exec (.waitExpiry k) s = .next t
      ∧ s.changesOnly t [.carriers, .lanes, .router]
      ∧ t.router = { s.router with pendingTags := s.router.pendingTags.filter fun r => r.carrier != k }
      ∧ t.carriers = (s.giveDisposition k (.stray .unknown)).carriers
      ∧ t.lanes = (s.giveDisposition k (.stray .unknown)).lanes
      ∧ s.carriersEnter t [k] (.stray .unknown) ∧ ∀ j, (s.lane j).rebooked (t.lane j))
    ∧ (¬limited .delivery → ¬limited .hold → (∀ r, c.disposition ≠ some (.stray r)) → c.disposition ≠ none →
      exec (.lapLimit k) s = .next s)
    ∧ (∀ r, c.disposition = some (.stray r) → exec (.lapLimit k) s = .next s)
    ∧ (limited .delivery → c.identity = some d → s.entryOf d = some e → becomes .noRoom)
    ∧ (limited .hold → c.identity = some d → s.entryOf d = some e → becomes .held)

/-! ## Diversion -/

/-- R127 to R129, R76 to R78, R138, R139, R149: an outcome that names no carrier FIRED at the lane is discarded.
DIVERT DONE passes the bag's units from inbound to fill, lowers the fault score by one, empties the carrier and
completes a drain when none is loaded. A bag with an identity makes its entry DELIVERED, or IN_HOLD in a hold lane
or as a HOLD bag in a stray lane: BAG DELIVERED with CABIN COMPLETE or CABIN OVER, or BAG TO HOLD, goes to the berth
principal, LANE ARRIVAL to an owner that is another, and a CLOSING berth whose last bag it was is cleared (log 11)
and told of after these (log 28). A bag without one in a stray lane makes a stray record with the next free ticket,
STRAY ENTERED and a LABEL order, or counts as unlisted when 64 records wait (reason and size of a record that lacks
them: log 23); the record refers to the berth of its candidate's ship code and to the entry of its serial if that is
STRAYED without a ticket. In any other lane the owner gets LANE ARRIVAL. An entry given a state moves its cabin's
two counts and touches nothing else of its berth (R61). -/
def Obligations.DivertsAreDone : Prop :=
  ∀ (s : State) (n k : Nat) (j : LaneNo) (d : Identity) (e : Entry) (y : Cabin) (tag : Tag) (b : BerthId),
    let c := s.carrier k
    let x := s.lane j
    let fired := c.state = .fired ∧ c.target = some j
    let ticket := s.coding.issued
    let reason := c.strayReason.getD .unknown
    let ref := s.strayReference c.candidate
    let arrived : EntryState := if x.function = .hold ∨ (x.function = .stray ∧ c.disposition = some .hold) then .inHold
      else .delivered
    let landed := s.setLane j { x with inbound := x.inbound - c.units, fill := x.fill + c.units }
    let ready := (s.berth d.berth).state.isClosing = true ∧ (∀ m, m ≠ k → (s.carrier m).isOf d.berth = false)
      ∧ ∀ t ∈ s.router.pendingTags, t.berth ≠ d.berth
    let reported : Reported Tag := match c.candidate with
      | none => .absent
      | some tag =>
        if x.owner = .hall ∨ allBerths.any (fun b => x.owner == .berth b && (s.berth b).state.ship == some tag.ship)
        then .present tag else .withheld
    let arrival (u : State) : State := u.post x.owner (.laneArrival j k c.size c.disposition reported)
    let recorded : State :=
      if arrived = .inHold then s.post (.berth d.berth) (.bagToHold y.number e.index e.serial j (y.inHold + 1))
      else
        let told := s.post (.berth d.berth)
          (.bagDelivered y.number e.index e.serial j (y.delivered + 1) y.expected)
        if y.delivered + 1 = y.expected then
          told.post (.berth d.berth) (.cabinComplete y.number y.deck (y.delivered + 1) y.expected y.inHold)
        else if y.expected < y.delivered + 1 then
          told.post (.berth d.berth) (.cabinOver y.number y.deck (y.delivered + 1) y.expected y.inHold)
        else told
    let toOwner : State := if x.owner = .berth d.berth then recorded else arrival recorded
    let one (p : Prop) [Decidable p] : Nat := if p then 1 else 0
    (∀ (st : EntryState) (held : Option Nat), (s.berth b).findEntry e.index = some e →
      let r := s.berth b
      let r' := r.setEntryState e.index st held
      r'.state = r.state ∧ r'.deckMap = r.deckMap ∧ r'.findEntry e.index = some { e with state := st, ticket := held }
      ∧ (∀ m, m ≠ e.index → r'.findEntry m = r.findEntry m)
      ∧ r'.findCabin e.cabin = (r.findCabin e.cabin).map (fun y => { y with
        delivered := y.delivered + one (st = .delivered) - one (e.state = .delivered)
        inHold := y.inHold + one (st = .inHold) - one (e.state = .inHold) })
      ∧ ∀ m, m ≠ e.cabin → r'.findCabin m = r.findCabin m)
    ∧ (40 ≤ n → exec (.divertDone n k) s = .next s)
    ∧ (¬fired → exec (.divertDone j.val k) s = .next s)
    ∧ (fired → ∃ t, exec (.divertDone j.val k) s = .next t
      ∧ s.changesOnly t [.carriers, .lanes, .diverters, .berths, .coding, .mode, .principals, .orders]
      ∧ t.carrier k = Carrier.empty ∧ (∀ m, m ≠ k → t.carrier m = s.carrier m)
      ∧ (t.lane j).fill = x.fill + c.units ∧ (t.lane j).inbound = x.inbound - c.units
      ∧ (∀ i, i ≠ j → (t.lane i).fill = (s.lane i).fill ∧ (t.lane i).inbound = (s.lane i).inbound)
      ∧ t.diverter j = { s.diverter j with score := (s.diverter j).score - 1 }
      ∧ (∀ i, i ≠ j → t.diverter i = s.diverter i)
      ∧ t.mode = (if s.mode = .draining ∧ t.carriers.loaded = 0 then .setup else s.mode)
      ∧ (let drained (u : State) : State :=
          if s.mode = .draining ∧ t.carriers.loaded = 0 then
            u.postAll (.modeChanged .draining .setup .drainComplete 0 t.carriers.unverified)
          else u
        (c.identity = some d → s.entryOf d = some e → e.state = .onLoop →
          (s.berth d.berth).findCabin e.cabin = some y →
          t.orders = s.orders
          ∧ (¬ready → t.berth d.berth = (s.berth d.berth).setEntryState d.entry arrived none
            ∧ (∀ o, o ≠ d.berth → t.berth o = s.berth o) ∧ t.coding = s.coding ∧ (∀ i, t.lane i = landed.lane i)
            ∧ t.principals = (drained toOwner).principals)
          ∧ (ready → landed.berthCleared t d.berth
            ∧ t.principals
              = (drained (toOwner.postHallAnd d.berth (.berthState d.berth .unbound false))).principals))
        ∧ (c.identity = none → x.function ≠ .stray → t.berths = s.berths ∧ t.coding = s.coding ∧ t.orders = s.orders
          ∧ t.principals = (drained (arrival s)).principals)
        ∧ (c.identity = none → x.function = .stray → s.coding.strays.length < 64 →
          t.coding = { s.coding with
            strays := s.coding.strays
              ++ [⟨ticket, reason, c.candidate, ref.1, ref.2, c.bagSize, j, s.loop.revolutions, s.loop.position⟩]
            ticketCounter := nextTicket ticket }
          ∧ (∀ b i, ref = (some b, some i) → t.berth b = (s.berth b).setEntryState i .strayed (some ticket))
          ∧ (∀ b, ref.1 ≠ some b ∨ ref.2 = none → t.berth b = s.berth b)
          ∧ t.orders = (if s.orders.length < 32 then s.orders ++ [.label (some ticket) j c.bagSize reason] else s.orders)
          ∧ (let entered : NoticeBody := .strayEntered (some ticket) reason c.bagSize j c.candidate ref.1 ref.2
              (s.coding.strays.length + 1)
            t.principals = (drained (match ref.1 with
              | none => s.post .hall entered
              | some b => s.postHallAnd b entered)).principals))
        ∧ (c.identity = none → x.function = .stray → 64 ≤ s.coding.strays.length →
          t.coding = { s.coding with unlisted := min 255 (s.coding.unlisted + 1) } ∧ t.berths = s.berths
          ∧ t.orders = (if s.orders.length < 32 then s.orders ++ [.label none j c.bagSize reason] else s.orders)
          ∧ t.principals = (drained (s.post .hall (.strayEntered none reason c.bagSize j c.candidate none none
            s.coding.strays.length))).principals)))
    ∧ ((c.candidate = none ∨ c.candidate = some tag ∧ ∀ o, (s.berth o).state.ship ≠ some tag.ship) → ref = (none, none))
    ∧ (c.candidate = some tag → (∀ o, (s.berth o).state.ship = some tag.ship ↔ o = b) →
      ((s.berth b).findSerial tag.serial = none → ref = (some b, none))
      ∧ ((s.berth b).findSerial tag.serial = some e →
        ref = (some b, if e.state = .strayed ∧ e.ticket = none then some e.index else none)))

/-- R127, R130 to R133, R101: DIVERT FAILED, and NO_REPORT_TIMEOUT at the distance C - K, take a FIRED carrier back: CARRYING
without the lane, one try more, and the lane's fault score raised by 8. At a second failure a DELIVERY or HOLD bag becomes a
stray of reason DIVERT_FAIL: its entry STRAYED, BAG STRAYED posted and a CLOSING berth that it was the last bag of cleared
(log 11). At a score of 16 or more the lane becomes FAULTED (or CLOSED, when the stray was the last bag of the CLOSING berth
that owned it), its armed queue is emptied, no carrier keeps it as a tentative or armed target, and after the choices LANE
FAULT goes to the owner and to HALL. Outcomes and timeouts for other carriers do nothing (log 4 for the timeout). At an ADVANCE
the timeouts due are taken in ascending carrier number (log 6), their choices and notices left to its end. -/
def Obligations.DivertsFail : Prop :=
  (∀ (s : State) (n k : Nat) (j : LaneNo) (d : Identity) (e : Entry),
    let c := s.carrier k
    let x := s.lane j
    let fired := c.state = .fired ∧ c.target = some j
    let due := fired ∧ ∃ d, x.offset = some d ∧ s.loop.distance k d = s.loop.count - s.loop.commit
    let score := min 31 ((s.diverter j).score + 8)
    let faults := 16 ≤ score ∧ x.state ≠ .faulted
    let tries := min 2 (c.tries + 1)
    let strays := tries = 2 ∧ (c.disposition = some .delivery ∨ c.disposition = some .hold)
    let armed := (s.diverter j).queue
    let ready := (s.berth d.berth).state.isClosing = true ∧ (∀ m, m ≠ k → (s.carrier m).isOf d.berth = false)
      ∧ ∀ t ∈ s.router.pendingTags, t.berth ≠ d.berth
    let faulted := if faults then s.setLane j { x with state := .faulted } else s
    let told := s.post (.berth d.berth) (.bagStrayed e.cabin e.index e.serial .divertFail k)
    let back := ((s.setCarrier k { c with state := .carrying, target := none, armed := false, tries := tries }).setLane j
      { x with inbound := x.inbound - c.units }).setDiverter j { s.diverter j with score := score }
    let freed := if faults then State.dropTargets ((back.setLane j { back.lane j with state := .faulted }).setDiverter j
      ⟨[], score⟩) (armed ++ s.tentativeAt j) else back
    let settled := if strays then freed.becomeStray k .divertFail else freed
    let chosen := settled.chooseAll ((List.range s.carriers.table.length).filter fun m =>
      m = k ∨ faults ∧ (m ∈ armed ∨ m ∈ s.tentativeAt j))
    let fails (event : Instr) (cause : DivertCause) := ∃ t, exec event s = .next t
      ∧ t.carriers = chosen.carriers ∧ t.lanes = chosen.lanes
      ∧ s.changesOnly t [.carriers, .lanes, .diverters, .berths, .coding, .principals]
      ∧ (t.diverter j).score = score ∧ (t.diverter j).queue = (if faults then [] else armed)
      ∧ (∀ i, i ≠ j → t.diverter i = s.diverter i)
      ∧ (t.lane j).fill = x.fill ∧ (faults → (t.lane j).state = .faulted ∨ (t.lane j).owner = .hall ∧ (t.lane j).state = .closed)
      ∧ (¬strays → Carrier.retargeted { c with state := .carrying, tries := tries } (t.carrier k))
      ∧ (strays → Carrier.entered { c with identity := none, tries := tries } (t.carrier k) (.stray .divertFail))
      ∧ (¬faults → ∀ m, m ≠ k → t.carrier m = s.carrier m)
      ∧ (faults → (∀ m, m ≠ k → (s.carrier m).retargeted (t.carrier m)) ∧ t.tentativeAt j = []
        ∧ (∀ m ∈ armed, (t.carrier m).target ≠ some j)
        ∧ ∀ m, m ≠ k → m ∉ armed → (s.carrier m).isTentativeAt j = false → t.carrier m = s.carrier m)
      ∧ (let reported (u : State) : State :=
          if faults then u.postOwner (t.lane j).owner (.laneFault j (t.lane j).owner score k cause armed.length
            (s.tentativeAt j).length ((s.firedAt j).length - 1))
          else u
        (¬strays → t.berths = s.berths ∧ t.coding = s.coding ∧ t.principals = (reported s).principals
          ∧ ∀ i, (faulted.lane i).rebooked (t.lane i))
        ∧ (strays → c.identity = some d → s.entryOf d = some e →
          (¬ready → t.berth d.berth = (s.berth d.berth).setEntryState d.entry .strayed none
            ∧ (∀ o, o ≠ d.berth → t.berth o = s.berth o) ∧ t.coding = s.coding
            ∧ (∀ i, (faulted.lane i).rebooked (t.lane i)) ∧ t.principals = (reported told).principals)
          ∧ (ready → faulted.berthCleared t d.berth
            ∧ t.principals
              = (reported (told.postHallAnd d.berth (.berthState d.berth .unbound false))).principals)))
    (40 ≤ n → exec (.divertFailed n k) s = .next s)
    ∧ (¬fired → exec (.divertFailed j.val k) s = .next s)
    ∧ (fired → fails (.divertFailed j.val k) .failed)
    ∧ ((c.state ≠ .fired ∨ c.target = none) → exec (.noReportTimeout k) s = .next s)
    ∧ (fired → ¬due → exec (.noReportTimeout k) s = .next s)
    ∧ (due → fails (.noReportTimeout k) .noReport))
  ∧ ∀ s : State,
    let dueAt (u : State) (k : Nat) : Option LaneNo := if (u.carrier k).state = .fired then
      (u.carrier k).target.filter fun j =>
        (u.lane j).offset.any fun d => u.loop.distance k d == u.loop.count - u.loop.commit
      else none
    let take (acc : State × List Nat × List FaultReport) (k : Nat) : State × List Nat × List FaultReport :=
      match dueAt acc.1 k with
      | none => acc
      | some j =>
        let f := acc.1.failDivert k j .noReport
        (f.state, acc.2.1 ++ f.wants, acc.2.2 ++ f.report.toList)
    let done := (List.range s.carriers.table.length).foldl take (s, [], [])
    s.timeouts.1.state = done.1 ∧ s.timeouts.1.wants = done.2.1 ∧ s.timeouts.2 = done.2.2
      ∧ ∀ k j, dueAt s k = some j → exec (.noReportTimeout k) s = .next (s.failDivert k j .noReport).finish

/-! ## The coding station -/

/-- R141, R142, R145, R146, R149, R184: a request is answered BUSY while an exchange is open; else ALREADY_CODED
when a reinject record holds its ticket, NO_TICKET when no stray record does; else it has its whole effect and is
answered DONE. FETCH gives the record, its ticket first (log 30), with what it refers to (layout: log 13; one byte
for each code of a named value: log 39), and changes nothing; REMOVE takes the record away and makes the entry it
refers to OFF_SYSTEM; RETRY moves it to the reinject list, unless 16 records stand there. HALL and the principal of
the entry's berth get STRAY RESOLVED (log 31 when there is no entry). An answer that finds too few places in the
order queue is dropped whole, and its exchange does not stay open (log 22). -/
def Obligations.CodingRequestsAreTaken : Prop :=
  ∀ (s : State) (ticket m n : Nat) (r : StrayRecord),
    let answered (t : State) (q : CodingRequest) (records : List Order) : State :=
      if t.orders.length + records.length ≤ 32 then
        { t with orders := t.orders ++ records, coding := { t.coding with exchange := some ⟨q, ticket⟩ } }
      else t
    let outcome (q : CodingRequest) : Host.Outcome State Fault Refusal := match q with
      | .fetch => exec (.fetch ticket) s
      | .codeTag => exec (.codeTag ticket m n) s
      | .codeCabin => exec (.codeCabin ticket m n) s
      | .remove => exec (.remove ticket) s
      | .retry => exec (.retry ticket) s
    let valid := 1 ≤ ticket ∧ ticket ≤ 4095
    let coded := s.coding.reinject.any fun x => x.ticket == ticket
    let found := s.coding.strays.find? fun x => x.ticket == ticket
    let free := s.coding.exchange = none
    let record : List Byte := bytesOf 2 r.ticket ++ bytesOf 1 r.reason.code ++ tagBytes r.candidate
      ++ bytesOrZero 1 (r.berth.map BerthId.number) ++ bytesOrFF 2 r.entry ++ bytesOf 1 r.size.code
      ++ bytesOf 1 r.lane.val ++ bytesOf 2 r.revolutions ++ bytesOf 2 r.position
    let entry : Option (List Byte) := r.reference.bind fun d => (s.entryOf d).bind fun e => (s.cabinOf d).map fun c =>
      bytesOrFF 3 e.serial ++ bytesOf 2 e.cabin ++ bytesOf 1 c.deck ++ flagByte c.held
        ++ bytesOrFF 1 ((s.berth d.berth).groupOf c.deck)
    let berth : Option (List Byte) := r.berth.map fun b =>
      bytesOf 1 (s.berth b).state.code ++ bytesOrZero 1 (s.berth b).state.ship
    let rest := s.coding.strays.filter fun x => x.ticket != ticket
    let told (t : State) (q : CodingRequest) (st : ResolvedState) : NoticeBody :=
      .strayResolved ticket q (r.reference.map (·.berth)) (r.reference.map (·.entry))
        ((r.reference.bind t.entryOf).bind (·.serial)) st t.coding.strays.length t.coding.reinject.length
    let tell (t : State) (n : NoticeBody) : State := match r.reference with
      | none => t.post .hall n
      | some d => t.postHallAnd d.berth n
    let removed : State := { s with coding := { s.coding with strays := rest } }
    let gone : State := match r.reference with
      | none => removed
      | some d => removed.setEntryState d.berth d.entry .offSystem none
    let moved : State := { s with coding := { s.coding with
      strays := rest
      reinject := s.coding.reinject
        ++ [⟨ticket, .readAgain, r.berth, r.entry, r.candidate, r.size, s.loop.revolutions, s.loop.position⟩] } }
    (∀ q, ¬free → outcome q
      = .next (if s.orders.length < 32 then { s with orders := s.orders ++ [.busy q ticket] } else s))
    ∧ (∀ q, free → ¬valid → outcome q = .next (answered s q [.error q ticket .noTicket]))
    ∧ (∀ q, free → valid → coded = true → outcome q = .next (answered s q [.error q ticket .alreadyCoded]))
    ∧ (∀ q, free → valid → coded = false → found = none →
      outcome q = .next (answered s q [.error q ticket .noTicket]))
    ∧ (free → valid → coded = false → found = some r →
      outcome .fetch = .next (answered s .fetch (doneRecords .fetch ticket
        (record ++ (match entry with | none => List.replicate 9 0 | some bytes => 1 :: bytes)
          ++ match berth with | none => [0, 0, 0] | some bytes => 1 :: bytes)))
      ∧ outcome .remove = .next (answered (tell gone (told gone .remove .offSystem)) .remove
        (doneRecords .remove ticket []))
      ∧ (16 ≤ s.coding.reinject.length → outcome .retry = .next (answered s .retry [.error .retry ticket .listFull]))
      ∧ (s.coding.reinject.length < 16 →
        outcome .retry = .next (answered (tell moved (told moved .retry .unchanged)) .retry
          (doneRecords .retry ticket []))))

/-- R143, R144: CODE TAG and CODE CABIN for a stray record that the checks of R141 have found, with no exchange
open: the checks of each in order, each answered by its error; then an entry that the record referred to, other than
the one resolved to, loses its ticket; the entry resolved to, the tag's or a new untagged one of the cabin, is
STRAYED with this ticket; and the record passes to the end of the reinject list as CODED. STRAY RESOLVED goes to
HALL and to the principal of the berth coded to, and of the berth the record referred to when that is another
(R149), with the sizes of both lists after the move. DONE's data is laid out by log 13, and an answer that finds too
few places is dropped whole (log 22). -/
def Obligations.StraysAreCoded : Prop :=
  ∀ (s : State) (ticket ship serial n cabin i : Nat) (r : StrayRecord) (b : BerthId) (e : Entry) (x : Cabin),
    s.coding.exchange = none → 1 ≤ ticket → ticket ≤ 4095 →
    s.coding.reinject.any (fun y => y.ticket == ticket) = false →
    s.coding.strays.find? (fun y => y.ticket == ticket) = some r →
    let tagged := exec (.codeTag ticket ship serial) s
    let inCabin (n : Nat) := exec (.codeCabin ticket n cabin) s
    let error (q : CodingRequest) (code : CodingError) : State :=
      if s.orders.length + 1 ≤ 32 then
        { s with orders := s.orders ++ [.error q ticket code], coding := { s.coding with exchange := some ⟨q, ticket⟩ } }
      else s
    let bound := ∀ o, (s.berth o).state = .bound ship ↔ o = b
    let usable := e.state = .expected ∨ e.state = .offSystem
      ∨ e.state = .strayed ∧ (e.ticket = none ∨ e.ticket = some ticket)
    let free := (∀ y ∈ (s.berth b).tags, y.index ≠ i) ∧ ∀ m, m < i → ∃ y ∈ (s.berth b).tags, y.index = m
    let told (o : BerthId) (body : NoticeBody) (u : State) : State :=
      if o = b ∨ r.reference.map (·.berth) = some o then u.post (.berth o) body else u
    let coded (q : CodingRequest) (entry : Nat) (serial : Option Nat) (c : Cabin) (t : State) :=
      let body : NoticeBody := .strayResolved ticket q (some b) (some entry) serial .strayedWithTicket
        t.coding.strays.length (s.coding.reinject.length + 1)
      s.changesOnly t [.berths, .coding, .principals, .orders]
      ∧ t.coding.strays = s.coding.strays.filter (fun y => y.ticket != ticket)
      ∧ t.coding.reinject = s.coding.reinject
        ++ [⟨ticket, .coded, some b, some entry, r.candidate, r.size, s.loop.revolutions, s.loop.position⟩]
      ∧ t.coding.ticketCounter = s.coding.ticketCounter ∧ t.coding.unlisted = s.coding.unlisted
      ∧ (∀ d, r.reference = some d → d ≠ ⟨b, entry⟩ →
        t.entryOf d = (s.entryOf d).map fun y => { y with ticket := none })
      ∧ (∀ d, r.reference ≠ some d → d ≠ ⟨b, entry⟩ → t.entryOf d = s.entryOf d)
      ∧ (∀ o, (t.berth o).state = (s.berth o).state ∧ (t.berth o).deckMap = (s.berth o).deckMap)
      ∧ t.principals = (told .two body (told .one body (s.post .hall body))).principals
      ∧ (let records := doneRecords q ticket
          (bytesOf 1 b.number ++ bytesOf 2 entry ++ bytesOf 2 c.number ++ flagByte c.held)
        if s.orders.length + records.length ≤ 32 then
          t.orders = s.orders ++ records ∧ t.coding.exchange = some ⟨q, ticket⟩
        else t.orders = s.orders ∧ t.coding.exchange = none)
    ((∀ o, (s.berth o).state ≠ .bound ship) → tagged = .next (error .codeTag .berthNotBound))
    ∧ (bound → (s.berth b).findSerial serial = none → tagged = .next (error .codeTag .tagUnknown))
    ∧ (bound → (s.berth b).findSerial serial = some e → r.ticket = ticket →
      (¬usable → tagged = .next (error .codeTag .tagInUse))
      ∧ (usable → 16 ≤ s.coding.reinject.length → tagged = .next (error .codeTag .listFull))
      ∧ (usable → s.coding.reinject.length < 16 → (s.berth b).findEntry e.index = some e →
        (s.berth b).findCabin e.cabin = some x →
        ∃ t, tagged = .next t ∧ coded .codeTag e.index e.serial x t
          ∧ t.entryOf ⟨b, e.index⟩ = some { e with state := .strayed, ticket := some ticket }
          ∧ ∀ o m, (t.berth o).findCabin m = (s.berth o).findCabin m))
    ∧ (n ≠ 1 → n ≠ 2 → inCabin n = .next (error .codeCabin .berthNotBound))
    ∧ ((s.berth b).state.isBound = false → inCabin b.number = .next (error .codeCabin .berthNotBound))
    ∧ ((s.berth b).state.isBound = true →
      ((s.berth b).findCabin cabin = none → inCabin b.number = .next (error .codeCabin .cabinUnknown))
      ∧ ((s.berth b).findCabin cabin = some x →
        (15 ≤ x.entries.length → inCabin b.number = .next (error .codeCabin .cabinFull))
        ∧ (x.entries.length < 15 → 8192 ≤ (s.berth b).tags.length →
          inCabin b.number = .next (error .codeCabin .tableFull))
        ∧ (x.entries.length < 15 → (s.berth b).tags.length < 8192 → 16 ≤ s.coding.reinject.length →
          inCabin b.number = .next (error .codeCabin .listFull))
        ∧ (x.entries.length < 15 → (s.berth b).tags.length < 8192 → s.coding.reinject.length < 16 → free →
          ∃ t, inCabin b.number = .next t ∧ coded .codeCabin i none x t
            ∧ t.entryOf ⟨b, i⟩ = some ⟨i, none, cabin, .strayed, some ticket⟩
            ∧ (t.berth b).findCabin cabin = some { x with entries := x.entries ++ [i] }
            ∧ ∀ o m, ¬(o = b ∧ m = cabin) → (t.berth o).findCabin m = (s.berth o).findCabin m)))

end
end

