-- ==== Sys2Proof/Laws/State.lean ====
section
/-! SUPPORT. One lemma per field per update of the state: what an update leaves. -/

namespace Sys2Proof.Machine

@[simp] theorem State.setLoop_loop (s : State) (x : Loop) : (s.setLoop x).loop = x := rfl
@[simp] theorem State.setLoop_carriers (s : State) (x : Loop) : (s.setLoop x).carriers = s.carriers := rfl
@[simp] theorem State.setLoop_induction (s : State) (x : Loop) : (s.setLoop x).induction = s.induction := rfl
@[simp] theorem State.setLoop_stations (s : State) (x : Loop) : (s.setLoop x).stations = s.stations := rfl
@[simp] theorem State.setLoop_berths (s : State) (x : Loop) : (s.setLoop x).berths = s.berths := rfl
@[simp] theorem State.setLoop_router (s : State) (x : Loop) : (s.setLoop x).router = s.router := rfl
@[simp] theorem State.setLoop_lanes (s : State) (x : Loop) : (s.setLoop x).lanes = s.lanes := rfl
@[simp] theorem State.setLoop_diverters (s : State) (x : Loop) : (s.setLoop x).diverters = s.diverters := rfl
@[simp] theorem State.setLoop_coding (s : State) (x : Loop) : (s.setLoop x).coding = s.coding := rfl
@[simp] theorem State.setLoop_mode (s : State) (x : Loop) : (s.setLoop x).mode = s.mode := rfl
@[simp] theorem State.setLoop_links (s : State) (x : Loop) : (s.setLoop x).links = s.links := rfl
@[simp] theorem State.setLoop_lastServed (s : State) (x : Loop) : (s.setLoop x).lastServed = s.lastServed := rfl
@[simp] theorem State.setLoop_principals (s : State) (x : Loop) : (s.setLoop x).principals = s.principals := rfl
@[simp] theorem State.setLoop_orders (s : State) (x : Loop) : (s.setLoop x).orders = s.orders := rfl
@[simp] theorem State.setLoop_wires (s : State) (x : Loop) : (s.setLoop x).wires = s.wires := rfl
@[simp] theorem State.setLoop_pending (s : State) (x : Loop) : (s.setLoop x).pending = s.pending := rfl
@[simp] theorem State.setCarriers_loop (s : State) (x : CarrierTable) : (s.setCarriers x).loop = s.loop := rfl
@[simp] theorem State.setCarriers_carriers (s : State) (x : CarrierTable) : (s.setCarriers x).carriers = x := rfl
@[simp] theorem State.setCarriers_induction (s : State) (x : CarrierTable) : (s.setCarriers x).induction = s.induction := rfl
@[simp] theorem State.setCarriers_stations (s : State) (x : CarrierTable) : (s.setCarriers x).stations = s.stations := rfl
@[simp] theorem State.setCarriers_berths (s : State) (x : CarrierTable) : (s.setCarriers x).berths = s.berths := rfl
@[simp] theorem State.setCarriers_router (s : State) (x : CarrierTable) : (s.setCarriers x).router = s.router := rfl
@[simp] theorem State.setCarriers_lanes (s : State) (x : CarrierTable) : (s.setCarriers x).lanes = s.lanes := rfl
@[simp] theorem State.setCarriers_diverters (s : State) (x : CarrierTable) : (s.setCarriers x).diverters = s.diverters := rfl
@[simp] theorem State.setCarriers_coding (s : State) (x : CarrierTable) : (s.setCarriers x).coding = s.coding := rfl
@[simp] theorem State.setCarriers_mode (s : State) (x : CarrierTable) : (s.setCarriers x).mode = s.mode := rfl
@[simp] theorem State.setCarriers_links (s : State) (x : CarrierTable) : (s.setCarriers x).links = s.links := rfl
@[simp] theorem State.setCarriers_lastServed (s : State) (x : CarrierTable) : (s.setCarriers x).lastServed = s.lastServed := rfl
@[simp] theorem State.setCarriers_principals (s : State) (x : CarrierTable) : (s.setCarriers x).principals = s.principals := rfl
@[simp] theorem State.setCarriers_orders (s : State) (x : CarrierTable) : (s.setCarriers x).orders = s.orders := rfl
@[simp] theorem State.setCarriers_wires (s : State) (x : CarrierTable) : (s.setCarriers x).wires = s.wires := rfl
@[simp] theorem State.setCarriers_pending (s : State) (x : CarrierTable) : (s.setCarriers x).pending = s.pending := rfl
@[simp] theorem State.setInduction_loop (s : State) (x : Induction) : (s.setInduction x).loop = s.loop := rfl
@[simp] theorem State.setInduction_carriers (s : State) (x : Induction) : (s.setInduction x).carriers = s.carriers := rfl
@[simp] theorem State.setInduction_induction (s : State) (x : Induction) : (s.setInduction x).induction = x := rfl
@[simp] theorem State.setInduction_stations (s : State) (x : Induction) : (s.setInduction x).stations = s.stations := rfl
@[simp] theorem State.setInduction_berths (s : State) (x : Induction) : (s.setInduction x).berths = s.berths := rfl
@[simp] theorem State.setInduction_router (s : State) (x : Induction) : (s.setInduction x).router = s.router := rfl
@[simp] theorem State.setInduction_lanes (s : State) (x : Induction) : (s.setInduction x).lanes = s.lanes := rfl
@[simp] theorem State.setInduction_diverters (s : State) (x : Induction) : (s.setInduction x).diverters = s.diverters := rfl
@[simp] theorem State.setInduction_coding (s : State) (x : Induction) : (s.setInduction x).coding = s.coding := rfl
@[simp] theorem State.setInduction_mode (s : State) (x : Induction) : (s.setInduction x).mode = s.mode := rfl
@[simp] theorem State.setInduction_links (s : State) (x : Induction) : (s.setInduction x).links = s.links := rfl
@[simp] theorem State.setInduction_lastServed (s : State) (x : Induction) : (s.setInduction x).lastServed = s.lastServed := rfl
@[simp] theorem State.setInduction_principals (s : State) (x : Induction) : (s.setInduction x).principals = s.principals := rfl
@[simp] theorem State.setInduction_orders (s : State) (x : Induction) : (s.setInduction x).orders = s.orders := rfl
@[simp] theorem State.setInduction_wires (s : State) (x : Induction) : (s.setInduction x).wires = s.wires := rfl
@[simp] theorem State.setInduction_pending (s : State) (x : Induction) : (s.setInduction x).pending = s.pending := rfl
@[simp] theorem State.setStations_loop (s : State) (x : Vector Station 4) : (s.setStations x).loop = s.loop := rfl
@[simp] theorem State.setStations_carriers (s : State) (x : Vector Station 4) : (s.setStations x).carriers = s.carriers := rfl
@[simp] theorem State.setStations_induction (s : State) (x : Vector Station 4) : (s.setStations x).induction = s.induction := rfl
@[simp] theorem State.setStations_stations (s : State) (x : Vector Station 4) : (s.setStations x).stations = x := rfl
@[simp] theorem State.setStations_berths (s : State) (x : Vector Station 4) : (s.setStations x).berths = s.berths := rfl
@[simp] theorem State.setStations_router (s : State) (x : Vector Station 4) : (s.setStations x).router = s.router := rfl
@[simp] theorem State.setStations_lanes (s : State) (x : Vector Station 4) : (s.setStations x).lanes = s.lanes := rfl
@[simp] theorem State.setStations_diverters (s : State) (x : Vector Station 4) : (s.setStations x).diverters = s.diverters := rfl
@[simp] theorem State.setStations_coding (s : State) (x : Vector Station 4) : (s.setStations x).coding = s.coding := rfl
@[simp] theorem State.setStations_mode (s : State) (x : Vector Station 4) : (s.setStations x).mode = s.mode := rfl
@[simp] theorem State.setStations_links (s : State) (x : Vector Station 4) : (s.setStations x).links = s.links := rfl
@[simp] theorem State.setStations_lastServed (s : State) (x : Vector Station 4) : (s.setStations x).lastServed = s.lastServed := rfl
@[simp] theorem State.setStations_principals (s : State) (x : Vector Station 4) : (s.setStations x).principals = s.principals := rfl
@[simp] theorem State.setStations_orders (s : State) (x : Vector Station 4) : (s.setStations x).orders = s.orders := rfl
@[simp] theorem State.setStations_wires (s : State) (x : Vector Station 4) : (s.setStations x).wires = s.wires := rfl
@[simp] theorem State.setStations_pending (s : State) (x : Vector Station 4) : (s.setStations x).pending = s.pending := rfl
@[simp] theorem State.setBerths_loop (s : State) (x : Berths) : (s.setBerths x).loop = s.loop := rfl
@[simp] theorem State.setBerths_carriers (s : State) (x : Berths) : (s.setBerths x).carriers = s.carriers := rfl
@[simp] theorem State.setBerths_induction (s : State) (x : Berths) : (s.setBerths x).induction = s.induction := rfl
@[simp] theorem State.setBerths_stations (s : State) (x : Berths) : (s.setBerths x).stations = s.stations := rfl
@[simp] theorem State.setBerths_berths (s : State) (x : Berths) : (s.setBerths x).berths = x := rfl
@[simp] theorem State.setBerths_router (s : State) (x : Berths) : (s.setBerths x).router = s.router := rfl
@[simp] theorem State.setBerths_lanes (s : State) (x : Berths) : (s.setBerths x).lanes = s.lanes := rfl
@[simp] theorem State.setBerths_diverters (s : State) (x : Berths) : (s.setBerths x).diverters = s.diverters := rfl
@[simp] theorem State.setBerths_coding (s : State) (x : Berths) : (s.setBerths x).coding = s.coding := rfl
@[simp] theorem State.setBerths_mode (s : State) (x : Berths) : (s.setBerths x).mode = s.mode := rfl
@[simp] theorem State.setBerths_links (s : State) (x : Berths) : (s.setBerths x).links = s.links := rfl
@[simp] theorem State.setBerths_lastServed (s : State) (x : Berths) : (s.setBerths x).lastServed = s.lastServed := rfl
@[simp] theorem State.setBerths_principals (s : State) (x : Berths) : (s.setBerths x).principals = s.principals := rfl
@[simp] theorem State.setBerths_orders (s : State) (x : Berths) : (s.setBerths x).orders = s.orders := rfl
@[simp] theorem State.setBerths_wires (s : State) (x : Berths) : (s.setBerths x).wires = s.wires := rfl
@[simp] theorem State.setBerths_pending (s : State) (x : Berths) : (s.setBerths x).pending = s.pending := rfl
@[simp] theorem State.setRouter_loop (s : State) (x : Router) : (s.setRouter x).loop = s.loop := rfl
@[simp] theorem State.setRouter_carriers (s : State) (x : Router) : (s.setRouter x).carriers = s.carriers := rfl
@[simp] theorem State.setRouter_induction (s : State) (x : Router) : (s.setRouter x).induction = s.induction := rfl
@[simp] theorem State.setRouter_stations (s : State) (x : Router) : (s.setRouter x).stations = s.stations := rfl
@[simp] theorem State.setRouter_berths (s : State) (x : Router) : (s.setRouter x).berths = s.berths := rfl
@[simp] theorem State.setRouter_router (s : State) (x : Router) : (s.setRouter x).router = x := rfl
@[simp] theorem State.setRouter_lanes (s : State) (x : Router) : (s.setRouter x).lanes = s.lanes := rfl
@[simp] theorem State.setRouter_diverters (s : State) (x : Router) : (s.setRouter x).diverters = s.diverters := rfl
@[simp] theorem State.setRouter_coding (s : State) (x : Router) : (s.setRouter x).coding = s.coding := rfl
@[simp] theorem State.setRouter_mode (s : State) (x : Router) : (s.setRouter x).mode = s.mode := rfl
@[simp] theorem State.setRouter_links (s : State) (x : Router) : (s.setRouter x).links = s.links := rfl
@[simp] theorem State.setRouter_lastServed (s : State) (x : Router) : (s.setRouter x).lastServed = s.lastServed := rfl
@[simp] theorem State.setRouter_principals (s : State) (x : Router) : (s.setRouter x).principals = s.principals := rfl
@[simp] theorem State.setRouter_orders (s : State) (x : Router) : (s.setRouter x).orders = s.orders := rfl
@[simp] theorem State.setRouter_wires (s : State) (x : Router) : (s.setRouter x).wires = s.wires := rfl
@[simp] theorem State.setRouter_pending (s : State) (x : Router) : (s.setRouter x).pending = s.pending := rfl
@[simp] theorem State.setLanes_loop (s : State) (x : Vector Lane 40) : (s.setLanes x).loop = s.loop := rfl
@[simp] theorem State.setLanes_carriers (s : State) (x : Vector Lane 40) : (s.setLanes x).carriers = s.carriers := rfl
@[simp] theorem State.setLanes_induction (s : State) (x : Vector Lane 40) : (s.setLanes x).induction = s.induction := rfl
@[simp] theorem State.setLanes_stations (s : State) (x : Vector Lane 40) : (s.setLanes x).stations = s.stations := rfl
@[simp] theorem State.setLanes_berths (s : State) (x : Vector Lane 40) : (s.setLanes x).berths = s.berths := rfl
@[simp] theorem State.setLanes_router (s : State) (x : Vector Lane 40) : (s.setLanes x).router = s.router := rfl
@[simp] theorem State.setLanes_lanes (s : State) (x : Vector Lane 40) : (s.setLanes x).lanes = x := rfl
@[simp] theorem State.setLanes_diverters (s : State) (x : Vector Lane 40) : (s.setLanes x).diverters = s.diverters := rfl
@[simp] theorem State.setLanes_coding (s : State) (x : Vector Lane 40) : (s.setLanes x).coding = s.coding := rfl
@[simp] theorem State.setLanes_mode (s : State) (x : Vector Lane 40) : (s.setLanes x).mode = s.mode := rfl
@[simp] theorem State.setLanes_links (s : State) (x : Vector Lane 40) : (s.setLanes x).links = s.links := rfl
@[simp] theorem State.setLanes_lastServed (s : State) (x : Vector Lane 40) : (s.setLanes x).lastServed = s.lastServed := rfl
@[simp] theorem State.setLanes_principals (s : State) (x : Vector Lane 40) : (s.setLanes x).principals = s.principals := rfl
@[simp] theorem State.setLanes_orders (s : State) (x : Vector Lane 40) : (s.setLanes x).orders = s.orders := rfl
@[simp] theorem State.setLanes_wires (s : State) (x : Vector Lane 40) : (s.setLanes x).wires = s.wires := rfl
@[simp] theorem State.setLanes_pending (s : State) (x : Vector Lane 40) : (s.setLanes x).pending = s.pending := rfl
@[simp] theorem State.setDiverters_loop (s : State) (x : Vector Diverter 40) : (s.setDiverters x).loop = s.loop := rfl
@[simp] theorem State.setDiverters_carriers (s : State) (x : Vector Diverter 40) : (s.setDiverters x).carriers = s.carriers := rfl
@[simp] theorem State.setDiverters_induction (s : State) (x : Vector Diverter 40) : (s.setDiverters x).induction = s.induction := rfl
@[simp] theorem State.setDiverters_stations (s : State) (x : Vector Diverter 40) : (s.setDiverters x).stations = s.stations := rfl
@[simp] theorem State.setDiverters_berths (s : State) (x : Vector Diverter 40) : (s.setDiverters x).berths = s.berths := rfl
@[simp] theorem State.setDiverters_router (s : State) (x : Vector Diverter 40) : (s.setDiverters x).router = s.router := rfl
@[simp] theorem State.setDiverters_lanes (s : State) (x : Vector Diverter 40) : (s.setDiverters x).lanes = s.lanes := rfl
@[simp] theorem State.setDiverters_diverters (s : State) (x : Vector Diverter 40) : (s.setDiverters x).diverters = x := rfl
@[simp] theorem State.setDiverters_coding (s : State) (x : Vector Diverter 40) : (s.setDiverters x).coding = s.coding := rfl
@[simp] theorem State.setDiverters_mode (s : State) (x : Vector Diverter 40) : (s.setDiverters x).mode = s.mode := rfl
@[simp] theorem State.setDiverters_links (s : State) (x : Vector Diverter 40) : (s.setDiverters x).links = s.links := rfl
@[simp] theorem State.setDiverters_lastServed (s : State) (x : Vector Diverter 40) : (s.setDiverters x).lastServed = s.lastServed := rfl
@[simp] theorem State.setDiverters_principals (s : State) (x : Vector Diverter 40) : (s.setDiverters x).principals = s.principals := rfl
@[simp] theorem State.setDiverters_orders (s : State) (x : Vector Diverter 40) : (s.setDiverters x).orders = s.orders := rfl
@[simp] theorem State.setDiverters_wires (s : State) (x : Vector Diverter 40) : (s.setDiverters x).wires = s.wires := rfl
@[simp] theorem State.setDiverters_pending (s : State) (x : Vector Diverter 40) : (s.setDiverters x).pending = s.pending := rfl
@[simp] theorem State.setCoding_loop (s : State) (x : Coding) : (s.setCoding x).loop = s.loop := rfl
@[simp] theorem State.setCoding_carriers (s : State) (x : Coding) : (s.setCoding x).carriers = s.carriers := rfl
@[simp] theorem State.setCoding_induction (s : State) (x : Coding) : (s.setCoding x).induction = s.induction := rfl
@[simp] theorem State.setCoding_stations (s : State) (x : Coding) : (s.setCoding x).stations = s.stations := rfl
@[simp] theorem State.setCoding_berths (s : State) (x : Coding) : (s.setCoding x).berths = s.berths := rfl
@[simp] theorem State.setCoding_router (s : State) (x : Coding) : (s.setCoding x).router = s.router := rfl
@[simp] theorem State.setCoding_lanes (s : State) (x : Coding) : (s.setCoding x).lanes = s.lanes := rfl
@[simp] theorem State.setCoding_diverters (s : State) (x : Coding) : (s.setCoding x).diverters = s.diverters := rfl
@[simp] theorem State.setCoding_coding (s : State) (x : Coding) : (s.setCoding x).coding = x := rfl
@[simp] theorem State.setCoding_mode (s : State) (x : Coding) : (s.setCoding x).mode = s.mode := rfl
@[simp] theorem State.setCoding_links (s : State) (x : Coding) : (s.setCoding x).links = s.links := rfl
@[simp] theorem State.setCoding_lastServed (s : State) (x : Coding) : (s.setCoding x).lastServed = s.lastServed := rfl
@[simp] theorem State.setCoding_principals (s : State) (x : Coding) : (s.setCoding x).principals = s.principals := rfl
@[simp] theorem State.setCoding_orders (s : State) (x : Coding) : (s.setCoding x).orders = s.orders := rfl
@[simp] theorem State.setCoding_wires (s : State) (x : Coding) : (s.setCoding x).wires = s.wires := rfl
@[simp] theorem State.setCoding_pending (s : State) (x : Coding) : (s.setCoding x).pending = s.pending := rfl
@[simp] theorem State.setMode_loop (s : State) (x : Mode) : (s.setMode x).loop = s.loop := rfl
@[simp] theorem State.setMode_carriers (s : State) (x : Mode) : (s.setMode x).carriers = s.carriers := rfl
@[simp] theorem State.setMode_induction (s : State) (x : Mode) : (s.setMode x).induction = s.induction := rfl
@[simp] theorem State.setMode_stations (s : State) (x : Mode) : (s.setMode x).stations = s.stations := rfl
@[simp] theorem State.setMode_berths (s : State) (x : Mode) : (s.setMode x).berths = s.berths := rfl
@[simp] theorem State.setMode_router (s : State) (x : Mode) : (s.setMode x).router = s.router := rfl
@[simp] theorem State.setMode_lanes (s : State) (x : Mode) : (s.setMode x).lanes = s.lanes := rfl
@[simp] theorem State.setMode_diverters (s : State) (x : Mode) : (s.setMode x).diverters = s.diverters := rfl
@[simp] theorem State.setMode_coding (s : State) (x : Mode) : (s.setMode x).coding = s.coding := rfl
@[simp] theorem State.setMode_mode (s : State) (x : Mode) : (s.setMode x).mode = x := rfl
@[simp] theorem State.setMode_links (s : State) (x : Mode) : (s.setMode x).links = s.links := rfl
@[simp] theorem State.setMode_lastServed (s : State) (x : Mode) : (s.setMode x).lastServed = s.lastServed := rfl
@[simp] theorem State.setMode_principals (s : State) (x : Mode) : (s.setMode x).principals = s.principals := rfl
@[simp] theorem State.setMode_orders (s : State) (x : Mode) : (s.setMode x).orders = s.orders := rfl
@[simp] theorem State.setMode_wires (s : State) (x : Mode) : (s.setMode x).wires = s.wires := rfl
@[simp] theorem State.setMode_pending (s : State) (x : Mode) : (s.setMode x).pending = s.pending := rfl
@[simp] theorem State.setLinks_loop (s : State) (x : Vector Link 4) : (s.setLinks x).loop = s.loop := rfl
@[simp] theorem State.setLinks_carriers (s : State) (x : Vector Link 4) : (s.setLinks x).carriers = s.carriers := rfl
@[simp] theorem State.setLinks_induction (s : State) (x : Vector Link 4) : (s.setLinks x).induction = s.induction := rfl
@[simp] theorem State.setLinks_stations (s : State) (x : Vector Link 4) : (s.setLinks x).stations = s.stations := rfl
@[simp] theorem State.setLinks_berths (s : State) (x : Vector Link 4) : (s.setLinks x).berths = s.berths := rfl
@[simp] theorem State.setLinks_router (s : State) (x : Vector Link 4) : (s.setLinks x).router = s.router := rfl
@[simp] theorem State.setLinks_lanes (s : State) (x : Vector Link 4) : (s.setLinks x).lanes = s.lanes := rfl
@[simp] theorem State.setLinks_diverters (s : State) (x : Vector Link 4) : (s.setLinks x).diverters = s.diverters := rfl
@[simp] theorem State.setLinks_coding (s : State) (x : Vector Link 4) : (s.setLinks x).coding = s.coding := rfl
@[simp] theorem State.setLinks_mode (s : State) (x : Vector Link 4) : (s.setLinks x).mode = s.mode := rfl
@[simp] theorem State.setLinks_links (s : State) (x : Vector Link 4) : (s.setLinks x).links = x := rfl
@[simp] theorem State.setLinks_lastServed (s : State) (x : Vector Link 4) : (s.setLinks x).lastServed = s.lastServed := rfl
@[simp] theorem State.setLinks_principals (s : State) (x : Vector Link 4) : (s.setLinks x).principals = s.principals := rfl
@[simp] theorem State.setLinks_orders (s : State) (x : Vector Link 4) : (s.setLinks x).orders = s.orders := rfl
@[simp] theorem State.setLinks_wires (s : State) (x : Vector Link 4) : (s.setLinks x).wires = s.wires := rfl
@[simp] theorem State.setLinks_pending (s : State) (x : Vector Link 4) : (s.setLinks x).pending = s.pending := rfl
@[simp] theorem State.setLastServed_loop (s : State) (x : LinkNo) : (s.setLastServed x).loop = s.loop := rfl
@[simp] theorem State.setLastServed_carriers (s : State) (x : LinkNo) : (s.setLastServed x).carriers = s.carriers := rfl
@[simp] theorem State.setLastServed_induction (s : State) (x : LinkNo) : (s.setLastServed x).induction = s.induction := rfl
@[simp] theorem State.setLastServed_stations (s : State) (x : LinkNo) : (s.setLastServed x).stations = s.stations := rfl
@[simp] theorem State.setLastServed_berths (s : State) (x : LinkNo) : (s.setLastServed x).berths = s.berths := rfl
@[simp] theorem State.setLastServed_router (s : State) (x : LinkNo) : (s.setLastServed x).router = s.router := rfl
@[simp] theorem State.setLastServed_lanes (s : State) (x : LinkNo) : (s.setLastServed x).lanes = s.lanes := rfl
@[simp] theorem State.setLastServed_diverters (s : State) (x : LinkNo) : (s.setLastServed x).diverters = s.diverters := rfl
@[simp] theorem State.setLastServed_coding (s : State) (x : LinkNo) : (s.setLastServed x).coding = s.coding := rfl
@[simp] theorem State.setLastServed_mode (s : State) (x : LinkNo) : (s.setLastServed x).mode = s.mode := rfl
@[simp] theorem State.setLastServed_links (s : State) (x : LinkNo) : (s.setLastServed x).links = s.links := rfl
@[simp] theorem State.setLastServed_lastServed (s : State) (x : LinkNo) : (s.setLastServed x).lastServed = x := rfl
@[simp] theorem State.setLastServed_principals (s : State) (x : LinkNo) : (s.setLastServed x).principals = s.principals := rfl
@[simp] theorem State.setLastServed_orders (s : State) (x : LinkNo) : (s.setLastServed x).orders = s.orders := rfl
@[simp] theorem State.setLastServed_wires (s : State) (x : LinkNo) : (s.setLastServed x).wires = s.wires := rfl
@[simp] theorem State.setLastServed_pending (s : State) (x : LinkNo) : (s.setLastServed x).pending = s.pending := rfl
@[simp] theorem State.setPrincipals_loop (s : State) (x : Principals) : (s.setPrincipals x).loop = s.loop := rfl
@[simp] theorem State.setPrincipals_carriers (s : State) (x : Principals) : (s.setPrincipals x).carriers = s.carriers := rfl
@[simp] theorem State.setPrincipals_induction (s : State) (x : Principals) : (s.setPrincipals x).induction = s.induction := rfl
@[simp] theorem State.setPrincipals_stations (s : State) (x : Principals) : (s.setPrincipals x).stations = s.stations := rfl
@[simp] theorem State.setPrincipals_berths (s : State) (x : Principals) : (s.setPrincipals x).berths = s.berths := rfl
@[simp] theorem State.setPrincipals_router (s : State) (x : Principals) : (s.setPrincipals x).router = s.router := rfl
@[simp] theorem State.setPrincipals_lanes (s : State) (x : Principals) : (s.setPrincipals x).lanes = s.lanes := rfl
@[simp] theorem State.setPrincipals_diverters (s : State) (x : Principals) : (s.setPrincipals x).diverters = s.diverters := rfl
@[simp] theorem State.setPrincipals_coding (s : State) (x : Principals) : (s.setPrincipals x).coding = s.coding := rfl
@[simp] theorem State.setPrincipals_mode (s : State) (x : Principals) : (s.setPrincipals x).mode = s.mode := rfl
@[simp] theorem State.setPrincipals_links (s : State) (x : Principals) : (s.setPrincipals x).links = s.links := rfl
@[simp] theorem State.setPrincipals_lastServed (s : State) (x : Principals) : (s.setPrincipals x).lastServed = s.lastServed := rfl
@[simp] theorem State.setPrincipals_principals (s : State) (x : Principals) : (s.setPrincipals x).principals = x := rfl
@[simp] theorem State.setPrincipals_orders (s : State) (x : Principals) : (s.setPrincipals x).orders = s.orders := rfl
@[simp] theorem State.setPrincipals_wires (s : State) (x : Principals) : (s.setPrincipals x).wires = s.wires := rfl
@[simp] theorem State.setPrincipals_pending (s : State) (x : Principals) : (s.setPrincipals x).pending = s.pending := rfl
@[simp] theorem State.setOrders_loop (s : State) (x : List Order) : (s.setOrders x).loop = s.loop := rfl
@[simp] theorem State.setOrders_carriers (s : State) (x : List Order) : (s.setOrders x).carriers = s.carriers := rfl
@[simp] theorem State.setOrders_induction (s : State) (x : List Order) : (s.setOrders x).induction = s.induction := rfl
@[simp] theorem State.setOrders_stations (s : State) (x : List Order) : (s.setOrders x).stations = s.stations := rfl
@[simp] theorem State.setOrders_berths (s : State) (x : List Order) : (s.setOrders x).berths = s.berths := rfl
@[simp] theorem State.setOrders_router (s : State) (x : List Order) : (s.setOrders x).router = s.router := rfl
@[simp] theorem State.setOrders_lanes (s : State) (x : List Order) : (s.setOrders x).lanes = s.lanes := rfl
@[simp] theorem State.setOrders_diverters (s : State) (x : List Order) : (s.setOrders x).diverters = s.diverters := rfl
@[simp] theorem State.setOrders_coding (s : State) (x : List Order) : (s.setOrders x).coding = s.coding := rfl
@[simp] theorem State.setOrders_mode (s : State) (x : List Order) : (s.setOrders x).mode = s.mode := rfl
@[simp] theorem State.setOrders_links (s : State) (x : List Order) : (s.setOrders x).links = s.links := rfl
@[simp] theorem State.setOrders_lastServed (s : State) (x : List Order) : (s.setOrders x).lastServed = s.lastServed := rfl
@[simp] theorem State.setOrders_principals (s : State) (x : List Order) : (s.setOrders x).principals = s.principals := rfl
@[simp] theorem State.setOrders_orders (s : State) (x : List Order) : (s.setOrders x).orders = x := rfl
@[simp] theorem State.setOrders_wires (s : State) (x : List Order) : (s.setOrders x).wires = s.wires := rfl
@[simp] theorem State.setOrders_pending (s : State) (x : List Order) : (s.setOrders x).pending = s.pending := rfl
@[simp] theorem State.setWires_loop (s : State) (x : Wires) : (s.setWires x).loop = s.loop := rfl
@[simp] theorem State.setWires_carriers (s : State) (x : Wires) : (s.setWires x).carriers = s.carriers := rfl
@[simp] theorem State.setWires_induction (s : State) (x : Wires) : (s.setWires x).induction = s.induction := rfl
@[simp] theorem State.setWires_stations (s : State) (x : Wires) : (s.setWires x).stations = s.stations := rfl
@[simp] theorem State.setWires_berths (s : State) (x : Wires) : (s.setWires x).berths = s.berths := rfl
@[simp] theorem State.setWires_router (s : State) (x : Wires) : (s.setWires x).router = s.router := rfl
@[simp] theorem State.setWires_lanes (s : State) (x : Wires) : (s.setWires x).lanes = s.lanes := rfl
@[simp] theorem State.setWires_diverters (s : State) (x : Wires) : (s.setWires x).diverters = s.diverters := rfl
@[simp] theorem State.setWires_coding (s : State) (x : Wires) : (s.setWires x).coding = s.coding := rfl
@[simp] theorem State.setWires_mode (s : State) (x : Wires) : (s.setWires x).mode = s.mode := rfl
@[simp] theorem State.setWires_links (s : State) (x : Wires) : (s.setWires x).links = s.links := rfl
@[simp] theorem State.setWires_lastServed (s : State) (x : Wires) : (s.setWires x).lastServed = s.lastServed := rfl
@[simp] theorem State.setWires_principals (s : State) (x : Wires) : (s.setWires x).principals = s.principals := rfl
@[simp] theorem State.setWires_orders (s : State) (x : Wires) : (s.setWires x).orders = s.orders := rfl
@[simp] theorem State.setWires_wires (s : State) (x : Wires) : (s.setWires x).wires = x := rfl
@[simp] theorem State.setWires_pending (s : State) (x : Wires) : (s.setWires x).pending = s.pending := rfl
@[simp] theorem State.setPending_loop (s : State) (x : List Instr) : (s.setPending x).loop = s.loop := rfl
@[simp] theorem State.setPending_carriers (s : State) (x : List Instr) : (s.setPending x).carriers = s.carriers := rfl
@[simp] theorem State.setPending_induction (s : State) (x : List Instr) : (s.setPending x).induction = s.induction := rfl
@[simp] theorem State.setPending_stations (s : State) (x : List Instr) : (s.setPending x).stations = s.stations := rfl
@[simp] theorem State.setPending_berths (s : State) (x : List Instr) : (s.setPending x).berths = s.berths := rfl
@[simp] theorem State.setPending_router (s : State) (x : List Instr) : (s.setPending x).router = s.router := rfl
@[simp] theorem State.setPending_lanes (s : State) (x : List Instr) : (s.setPending x).lanes = s.lanes := rfl
@[simp] theorem State.setPending_diverters (s : State) (x : List Instr) : (s.setPending x).diverters = s.diverters := rfl
@[simp] theorem State.setPending_coding (s : State) (x : List Instr) : (s.setPending x).coding = s.coding := rfl
@[simp] theorem State.setPending_mode (s : State) (x : List Instr) : (s.setPending x).mode = s.mode := rfl
@[simp] theorem State.setPending_links (s : State) (x : List Instr) : (s.setPending x).links = s.links := rfl
@[simp] theorem State.setPending_lastServed (s : State) (x : List Instr) : (s.setPending x).lastServed = s.lastServed := rfl
@[simp] theorem State.setPending_principals (s : State) (x : List Instr) : (s.setPending x).principals = s.principals := rfl
@[simp] theorem State.setPending_orders (s : State) (x : List Instr) : (s.setPending x).orders = s.orders := rfl
@[simp] theorem State.setPending_wires (s : State) (x : List Instr) : (s.setPending x).wires = s.wires := rfl
@[simp] theorem State.setPending_pending (s : State) (x : List Instr) : (s.setPending x).pending = x := rfl

end Sys2Proof.Machine
end

