-- ==== Sys2Proof/Laws/Records.lean ====
section
/-! SUPPORT. The records of each table by number: what storing one leaves of it, of the others and of the state. -/

namespace Sys2Proof.Machine

/-! ## lane records -/

@[simp] theorem State.lane_setLane (s : State) (j : LaneNo) (x : Lane) : (s.setLane j x).lane j = x := by
  simp [State.lane, State.setLane]

theorem State.lane_setLane_ne (s : State) {i j : LaneNo} (x : Lane) (h : i ≠ j) : (s.setLane j x).lane i = s.lane i := by
  have : j.val ≠ i.val := fun e => h (Fin.ext e.symm)
  simp [State.lane, State.setLane, this]

@[simp] theorem State.setLane_loop (s : State) (j : LaneNo) (x : Lane) : (s.setLane j x).loop = s.loop := rfl
@[simp] theorem State.setLane_carriers (s : State) (j : LaneNo) (x : Lane) : (s.setLane j x).carriers = s.carriers := rfl
@[simp] theorem State.setLane_induction (s : State) (j : LaneNo) (x : Lane) : (s.setLane j x).induction = s.induction := rfl
@[simp] theorem State.setLane_stations (s : State) (j : LaneNo) (x : Lane) : (s.setLane j x).stations = s.stations := rfl
@[simp] theorem State.setLane_berths (s : State) (j : LaneNo) (x : Lane) : (s.setLane j x).berths = s.berths := rfl
@[simp] theorem State.setLane_router (s : State) (j : LaneNo) (x : Lane) : (s.setLane j x).router = s.router := rfl
@[simp] theorem State.setLane_diverters (s : State) (j : LaneNo) (x : Lane) : (s.setLane j x).diverters = s.diverters := rfl
@[simp] theorem State.setLane_coding (s : State) (j : LaneNo) (x : Lane) : (s.setLane j x).coding = s.coding := rfl
@[simp] theorem State.setLane_mode (s : State) (j : LaneNo) (x : Lane) : (s.setLane j x).mode = s.mode := rfl
@[simp] theorem State.setLane_links (s : State) (j : LaneNo) (x : Lane) : (s.setLane j x).links = s.links := rfl
@[simp] theorem State.setLane_lastServed (s : State) (j : LaneNo) (x : Lane) : (s.setLane j x).lastServed = s.lastServed := rfl
@[simp] theorem State.setLane_principals (s : State) (j : LaneNo) (x : Lane) : (s.setLane j x).principals = s.principals := rfl
@[simp] theorem State.setLane_orders (s : State) (j : LaneNo) (x : Lane) : (s.setLane j x).orders = s.orders := rfl
@[simp] theorem State.setLane_wires (s : State) (j : LaneNo) (x : Lane) : (s.setLane j x).wires = s.wires := rfl
@[simp] theorem State.setLane_pending (s : State) (j : LaneNo) (x : Lane) : (s.setLane j x).pending = s.pending := rfl
@[simp] theorem State.diverter_setLane (s : State) (j : LaneNo) (x : Lane) (i : LaneNo) : (s.setLane j x).diverter i = s.diverter i := rfl
@[simp] theorem State.point_setLane (s : State) (j : LaneNo) (x : Lane) (i : PointNo) : (s.setLane j x).point i = s.point i := rfl
@[simp] theorem State.station_setLane (s : State) (j : LaneNo) (x : Lane) (i : StationNo) : (s.setLane j x).station i = s.station i := rfl
@[simp] theorem State.link_setLane (s : State) (j : LaneNo) (x : Lane) (i : LinkNo) : (s.setLane j x).link i = s.link i := rfl
@[simp] theorem State.berth_setLane (s : State) (j : LaneNo) (x : Lane) (i : BerthId) : (s.setLane j x).berth i = s.berth i := rfl
@[simp] theorem State.principal_setLane (s : State) (j : LaneNo) (x : Lane) (i : Principal) : (s.setLane j x).principal i = s.principal i := rfl
@[simp] theorem State.carrier_setLane (s : State) (j : LaneNo) (x : Lane) (i : Nat) : (s.setLane j x).carrier i = s.carrier i := rfl

/-! ## diverter records -/

@[simp] theorem State.diverter_setDiverter (s : State) (j : LaneNo) (x : Diverter) : (s.setDiverter j x).diverter j = x := by
  simp [State.diverter, State.setDiverter]

theorem State.diverter_setDiverter_ne (s : State) {i j : LaneNo} (x : Diverter) (h : i ≠ j) : (s.setDiverter j x).diverter i = s.diverter i := by
  have : j.val ≠ i.val := fun e => h (Fin.ext e.symm)
  simp [State.diverter, State.setDiverter, this]

@[simp] theorem State.setDiverter_loop (s : State) (j : LaneNo) (x : Diverter) : (s.setDiverter j x).loop = s.loop := rfl
@[simp] theorem State.setDiverter_carriers (s : State) (j : LaneNo) (x : Diverter) : (s.setDiverter j x).carriers = s.carriers := rfl
@[simp] theorem State.setDiverter_induction (s : State) (j : LaneNo) (x : Diverter) : (s.setDiverter j x).induction = s.induction := rfl
@[simp] theorem State.setDiverter_stations (s : State) (j : LaneNo) (x : Diverter) : (s.setDiverter j x).stations = s.stations := rfl
@[simp] theorem State.setDiverter_berths (s : State) (j : LaneNo) (x : Diverter) : (s.setDiverter j x).berths = s.berths := rfl
@[simp] theorem State.setDiverter_router (s : State) (j : LaneNo) (x : Diverter) : (s.setDiverter j x).router = s.router := rfl
@[simp] theorem State.setDiverter_lanes (s : State) (j : LaneNo) (x : Diverter) : (s.setDiverter j x).lanes = s.lanes := rfl
@[simp] theorem State.setDiverter_coding (s : State) (j : LaneNo) (x : Diverter) : (s.setDiverter j x).coding = s.coding := rfl
@[simp] theorem State.setDiverter_mode (s : State) (j : LaneNo) (x : Diverter) : (s.setDiverter j x).mode = s.mode := rfl
@[simp] theorem State.setDiverter_links (s : State) (j : LaneNo) (x : Diverter) : (s.setDiverter j x).links = s.links := rfl
@[simp] theorem State.setDiverter_lastServed (s : State) (j : LaneNo) (x : Diverter) : (s.setDiverter j x).lastServed = s.lastServed := rfl
@[simp] theorem State.setDiverter_principals (s : State) (j : LaneNo) (x : Diverter) : (s.setDiverter j x).principals = s.principals := rfl
@[simp] theorem State.setDiverter_orders (s : State) (j : LaneNo) (x : Diverter) : (s.setDiverter j x).orders = s.orders := rfl
@[simp] theorem State.setDiverter_wires (s : State) (j : LaneNo) (x : Diverter) : (s.setDiverter j x).wires = s.wires := rfl
@[simp] theorem State.setDiverter_pending (s : State) (j : LaneNo) (x : Diverter) : (s.setDiverter j x).pending = s.pending := rfl
@[simp] theorem State.lane_setDiverter (s : State) (j : LaneNo) (x : Diverter) (i : LaneNo) : (s.setDiverter j x).lane i = s.lane i := rfl
@[simp] theorem State.point_setDiverter (s : State) (j : LaneNo) (x : Diverter) (i : PointNo) : (s.setDiverter j x).point i = s.point i := rfl
@[simp] theorem State.station_setDiverter (s : State) (j : LaneNo) (x : Diverter) (i : StationNo) : (s.setDiverter j x).station i = s.station i := rfl
@[simp] theorem State.link_setDiverter (s : State) (j : LaneNo) (x : Diverter) (i : LinkNo) : (s.setDiverter j x).link i = s.link i := rfl
@[simp] theorem State.berth_setDiverter (s : State) (j : LaneNo) (x : Diverter) (i : BerthId) : (s.setDiverter j x).berth i = s.berth i := rfl
@[simp] theorem State.principal_setDiverter (s : State) (j : LaneNo) (x : Diverter) (i : Principal) : (s.setDiverter j x).principal i = s.principal i := rfl
@[simp] theorem State.carrier_setDiverter (s : State) (j : LaneNo) (x : Diverter) (i : Nat) : (s.setDiverter j x).carrier i = s.carrier i := rfl

/-! ## point records -/

@[simp] theorem State.point_setPoint (s : State) (j : PointNo) (x : Point) : (s.setPoint j x).point j = x := by
  simp [State.point, State.setPoint]

theorem State.point_setPoint_ne (s : State) {i j : PointNo} (x : Point) (h : i ≠ j) : (s.setPoint j x).point i = s.point i := by
  have : j.val ≠ i.val := fun e => h (Fin.ext e.symm)
  simp [State.point, State.setPoint, this]

@[simp] theorem State.setPoint_loop (s : State) (j : PointNo) (x : Point) : (s.setPoint j x).loop = s.loop := rfl
@[simp] theorem State.setPoint_carriers (s : State) (j : PointNo) (x : Point) : (s.setPoint j x).carriers = s.carriers := rfl
@[simp] theorem State.setPoint_stations (s : State) (j : PointNo) (x : Point) : (s.setPoint j x).stations = s.stations := rfl
@[simp] theorem State.setPoint_berths (s : State) (j : PointNo) (x : Point) : (s.setPoint j x).berths = s.berths := rfl
@[simp] theorem State.setPoint_router (s : State) (j : PointNo) (x : Point) : (s.setPoint j x).router = s.router := rfl
@[simp] theorem State.setPoint_lanes (s : State) (j : PointNo) (x : Point) : (s.setPoint j x).lanes = s.lanes := rfl
@[simp] theorem State.setPoint_diverters (s : State) (j : PointNo) (x : Point) : (s.setPoint j x).diverters = s.diverters := rfl
@[simp] theorem State.setPoint_coding (s : State) (j : PointNo) (x : Point) : (s.setPoint j x).coding = s.coding := rfl
@[simp] theorem State.setPoint_mode (s : State) (j : PointNo) (x : Point) : (s.setPoint j x).mode = s.mode := rfl
@[simp] theorem State.setPoint_links (s : State) (j : PointNo) (x : Point) : (s.setPoint j x).links = s.links := rfl
@[simp] theorem State.setPoint_lastServed (s : State) (j : PointNo) (x : Point) : (s.setPoint j x).lastServed = s.lastServed := rfl
@[simp] theorem State.setPoint_principals (s : State) (j : PointNo) (x : Point) : (s.setPoint j x).principals = s.principals := rfl
@[simp] theorem State.setPoint_orders (s : State) (j : PointNo) (x : Point) : (s.setPoint j x).orders = s.orders := rfl
@[simp] theorem State.setPoint_wires (s : State) (j : PointNo) (x : Point) : (s.setPoint j x).wires = s.wires := rfl
@[simp] theorem State.setPoint_pending (s : State) (j : PointNo) (x : Point) : (s.setPoint j x).pending = s.pending := rfl
@[simp] theorem State.lane_setPoint (s : State) (j : PointNo) (x : Point) (i : LaneNo) : (s.setPoint j x).lane i = s.lane i := rfl
@[simp] theorem State.diverter_setPoint (s : State) (j : PointNo) (x : Point) (i : LaneNo) : (s.setPoint j x).diverter i = s.diverter i := rfl
@[simp] theorem State.station_setPoint (s : State) (j : PointNo) (x : Point) (i : StationNo) : (s.setPoint j x).station i = s.station i := rfl
@[simp] theorem State.link_setPoint (s : State) (j : PointNo) (x : Point) (i : LinkNo) : (s.setPoint j x).link i = s.link i := rfl
@[simp] theorem State.berth_setPoint (s : State) (j : PointNo) (x : Point) (i : BerthId) : (s.setPoint j x).berth i = s.berth i := rfl
@[simp] theorem State.principal_setPoint (s : State) (j : PointNo) (x : Point) (i : Principal) : (s.setPoint j x).principal i = s.principal i := rfl
@[simp] theorem State.carrier_setPoint (s : State) (j : PointNo) (x : Point) (i : Nat) : (s.setPoint j x).carrier i = s.carrier i := rfl

/-! ## station records -/

@[simp] theorem State.station_setStation (s : State) (j : StationNo) (x : Station) : (s.setStation j x).station j = x := by
  simp [State.station, State.setStation]

theorem State.station_setStation_ne (s : State) {i j : StationNo} (x : Station) (h : i ≠ j) : (s.setStation j x).station i = s.station i := by
  have : j.val ≠ i.val := fun e => h (Fin.ext e.symm)
  simp [State.station, State.setStation, this]

@[simp] theorem State.setStation_loop (s : State) (j : StationNo) (x : Station) : (s.setStation j x).loop = s.loop := rfl
@[simp] theorem State.setStation_carriers (s : State) (j : StationNo) (x : Station) : (s.setStation j x).carriers = s.carriers := rfl
@[simp] theorem State.setStation_induction (s : State) (j : StationNo) (x : Station) : (s.setStation j x).induction = s.induction := rfl
@[simp] theorem State.setStation_berths (s : State) (j : StationNo) (x : Station) : (s.setStation j x).berths = s.berths := rfl
@[simp] theorem State.setStation_router (s : State) (j : StationNo) (x : Station) : (s.setStation j x).router = s.router := rfl
@[simp] theorem State.setStation_lanes (s : State) (j : StationNo) (x : Station) : (s.setStation j x).lanes = s.lanes := rfl
@[simp] theorem State.setStation_diverters (s : State) (j : StationNo) (x : Station) : (s.setStation j x).diverters = s.diverters := rfl
@[simp] theorem State.setStation_coding (s : State) (j : StationNo) (x : Station) : (s.setStation j x).coding = s.coding := rfl
@[simp] theorem State.setStation_mode (s : State) (j : StationNo) (x : Station) : (s.setStation j x).mode = s.mode := rfl
@[simp] theorem State.setStation_links (s : State) (j : StationNo) (x : Station) : (s.setStation j x).links = s.links := rfl
@[simp] theorem State.setStation_lastServed (s : State) (j : StationNo) (x : Station) : (s.setStation j x).lastServed = s.lastServed := rfl
@[simp] theorem State.setStation_principals (s : State) (j : StationNo) (x : Station) : (s.setStation j x).principals = s.principals := rfl
@[simp] theorem State.setStation_orders (s : State) (j : StationNo) (x : Station) : (s.setStation j x).orders = s.orders := rfl
@[simp] theorem State.setStation_wires (s : State) (j : StationNo) (x : Station) : (s.setStation j x).wires = s.wires := rfl
@[simp] theorem State.setStation_pending (s : State) (j : StationNo) (x : Station) : (s.setStation j x).pending = s.pending := rfl
@[simp] theorem State.lane_setStation (s : State) (j : StationNo) (x : Station) (i : LaneNo) : (s.setStation j x).lane i = s.lane i := rfl
@[simp] theorem State.diverter_setStation (s : State) (j : StationNo) (x : Station) (i : LaneNo) : (s.setStation j x).diverter i = s.diverter i := rfl
@[simp] theorem State.point_setStation (s : State) (j : StationNo) (x : Station) (i : PointNo) : (s.setStation j x).point i = s.point i := rfl
@[simp] theorem State.link_setStation (s : State) (j : StationNo) (x : Station) (i : LinkNo) : (s.setStation j x).link i = s.link i := rfl
@[simp] theorem State.berth_setStation (s : State) (j : StationNo) (x : Station) (i : BerthId) : (s.setStation j x).berth i = s.berth i := rfl
@[simp] theorem State.principal_setStation (s : State) (j : StationNo) (x : Station) (i : Principal) : (s.setStation j x).principal i = s.principal i := rfl
@[simp] theorem State.carrier_setStation (s : State) (j : StationNo) (x : Station) (i : Nat) : (s.setStation j x).carrier i = s.carrier i := rfl

/-! ## link records -/

@[simp] theorem State.link_setLink (s : State) (j : LinkNo) (x : Link) : (s.setLink j x).link j = x := by
  simp [State.link, State.setLink]

theorem State.link_setLink_ne (s : State) {i j : LinkNo} (x : Link) (h : i ≠ j) : (s.setLink j x).link i = s.link i := by
  have : j.val ≠ i.val := fun e => h (Fin.ext e.symm)
  simp [State.link, State.setLink, this]

@[simp] theorem State.setLink_loop (s : State) (j : LinkNo) (x : Link) : (s.setLink j x).loop = s.loop := rfl
@[simp] theorem State.setLink_carriers (s : State) (j : LinkNo) (x : Link) : (s.setLink j x).carriers = s.carriers := rfl
@[simp] theorem State.setLink_induction (s : State) (j : LinkNo) (x : Link) : (s.setLink j x).induction = s.induction := rfl
@[simp] theorem State.setLink_stations (s : State) (j : LinkNo) (x : Link) : (s.setLink j x).stations = s.stations := rfl
@[simp] theorem State.setLink_berths (s : State) (j : LinkNo) (x : Link) : (s.setLink j x).berths = s.berths := rfl
@[simp] theorem State.setLink_router (s : State) (j : LinkNo) (x : Link) : (s.setLink j x).router = s.router := rfl
@[simp] theorem State.setLink_lanes (s : State) (j : LinkNo) (x : Link) : (s.setLink j x).lanes = s.lanes := rfl
@[simp] theorem State.setLink_diverters (s : State) (j : LinkNo) (x : Link) : (s.setLink j x).diverters = s.diverters := rfl
@[simp] theorem State.setLink_coding (s : State) (j : LinkNo) (x : Link) : (s.setLink j x).coding = s.coding := rfl
@[simp] theorem State.setLink_mode (s : State) (j : LinkNo) (x : Link) : (s.setLink j x).mode = s.mode := rfl
@[simp] theorem State.setLink_lastServed (s : State) (j : LinkNo) (x : Link) : (s.setLink j x).lastServed = s.lastServed := rfl
@[simp] theorem State.setLink_principals (s : State) (j : LinkNo) (x : Link) : (s.setLink j x).principals = s.principals := rfl
@[simp] theorem State.setLink_orders (s : State) (j : LinkNo) (x : Link) : (s.setLink j x).orders = s.orders := rfl
@[simp] theorem State.setLink_wires (s : State) (j : LinkNo) (x : Link) : (s.setLink j x).wires = s.wires := rfl
@[simp] theorem State.setLink_pending (s : State) (j : LinkNo) (x : Link) : (s.setLink j x).pending = s.pending := rfl
@[simp] theorem State.lane_setLink (s : State) (j : LinkNo) (x : Link) (i : LaneNo) : (s.setLink j x).lane i = s.lane i := rfl
@[simp] theorem State.diverter_setLink (s : State) (j : LinkNo) (x : Link) (i : LaneNo) : (s.setLink j x).diverter i = s.diverter i := rfl
@[simp] theorem State.point_setLink (s : State) (j : LinkNo) (x : Link) (i : PointNo) : (s.setLink j x).point i = s.point i := rfl
@[simp] theorem State.station_setLink (s : State) (j : LinkNo) (x : Link) (i : StationNo) : (s.setLink j x).station i = s.station i := rfl
@[simp] theorem State.berth_setLink (s : State) (j : LinkNo) (x : Link) (i : BerthId) : (s.setLink j x).berth i = s.berth i := rfl
@[simp] theorem State.principal_setLink (s : State) (j : LinkNo) (x : Link) (i : Principal) : (s.setLink j x).principal i = s.principal i := rfl
@[simp] theorem State.carrier_setLink (s : State) (j : LinkNo) (x : Link) (i : Nat) : (s.setLink j x).carrier i = s.carrier i := rfl

/-! ## berth records -/

@[simp] theorem State.berth_setBerth (s : State) (j : BerthId) (x : Berth) : (s.setBerth j x).berth j = x := by
  cases j <;> rfl

theorem State.berth_setBerth_ne (s : State) {i j : BerthId} (x : Berth) (h : i ≠ j) : (s.setBerth j x).berth i = s.berth i := by
  cases i <;> cases j <;> first | rfl | exact absurd rfl h

@[simp] theorem State.setBerth_loop (s : State) (j : BerthId) (x : Berth) : (s.setBerth j x).loop = s.loop := by cases j <;> rfl
@[simp] theorem State.setBerth_carriers (s : State) (j : BerthId) (x : Berth) : (s.setBerth j x).carriers = s.carriers := by cases j <;> rfl
@[simp] theorem State.setBerth_induction (s : State) (j : BerthId) (x : Berth) : (s.setBerth j x).induction = s.induction := by cases j <;> rfl
@[simp] theorem State.setBerth_stations (s : State) (j : BerthId) (x : Berth) : (s.setBerth j x).stations = s.stations := by cases j <;> rfl
@[simp] theorem State.setBerth_router (s : State) (j : BerthId) (x : Berth) : (s.setBerth j x).router = s.router := by cases j <;> rfl
@[simp] theorem State.setBerth_lanes (s : State) (j : BerthId) (x : Berth) : (s.setBerth j x).lanes = s.lanes := by cases j <;> rfl
@[simp] theorem State.setBerth_diverters (s : State) (j : BerthId) (x : Berth) : (s.setBerth j x).diverters = s.diverters := by cases j <;> rfl
@[simp] theorem State.setBerth_coding (s : State) (j : BerthId) (x : Berth) : (s.setBerth j x).coding = s.coding := by cases j <;> rfl
@[simp] theorem State.setBerth_mode (s : State) (j : BerthId) (x : Berth) : (s.setBerth j x).mode = s.mode := by cases j <;> rfl
@[simp] theorem State.setBerth_links (s : State) (j : BerthId) (x : Berth) : (s.setBerth j x).links = s.links := by cases j <;> rfl
@[simp] theorem State.setBerth_lastServed (s : State) (j : BerthId) (x : Berth) : (s.setBerth j x).lastServed = s.lastServed := by cases j <;> rfl
@[simp] theorem State.setBerth_principals (s : State) (j : BerthId) (x : Berth) : (s.setBerth j x).principals = s.principals := by cases j <;> rfl
@[simp] theorem State.setBerth_orders (s : State) (j : BerthId) (x : Berth) : (s.setBerth j x).orders = s.orders := by cases j <;> rfl
@[simp] theorem State.setBerth_wires (s : State) (j : BerthId) (x : Berth) : (s.setBerth j x).wires = s.wires := by cases j <;> rfl
@[simp] theorem State.setBerth_pending (s : State) (j : BerthId) (x : Berth) : (s.setBerth j x).pending = s.pending := by cases j <;> rfl
@[simp] theorem State.lane_setBerth (s : State) (j : BerthId) (x : Berth) (i : LaneNo) : (s.setBerth j x).lane i = s.lane i := by cases j <;> rfl
@[simp] theorem State.diverter_setBerth (s : State) (j : BerthId) (x : Berth) (i : LaneNo) : (s.setBerth j x).diverter i = s.diverter i := by cases j <;> rfl
@[simp] theorem State.point_setBerth (s : State) (j : BerthId) (x : Berth) (i : PointNo) : (s.setBerth j x).point i = s.point i := by cases j <;> rfl
@[simp] theorem State.station_setBerth (s : State) (j : BerthId) (x : Berth) (i : StationNo) : (s.setBerth j x).station i = s.station i := by cases j <;> rfl
@[simp] theorem State.link_setBerth (s : State) (j : BerthId) (x : Berth) (i : LinkNo) : (s.setBerth j x).link i = s.link i := by cases j <;> rfl
@[simp] theorem State.principal_setBerth (s : State) (j : BerthId) (x : Berth) (i : Principal) : (s.setBerth j x).principal i = s.principal i := by cases j <;> rfl
@[simp] theorem State.carrier_setBerth (s : State) (j : BerthId) (x : Berth) (i : Nat) : (s.setBerth j x).carrier i = s.carrier i := by cases j <;> rfl

/-! ## principal records -/

@[simp] theorem State.principal_setPrincipal (s : State) (j : Principal) (x : PrincipalRecord) :
    (s.setPrincipal j x).principal j = x := by
  rcases j with _ | _ | _ <;> rfl

theorem State.principal_setPrincipal_ne (s : State) {i j : Principal} (x : PrincipalRecord) (h : i ≠ j) :
    (s.setPrincipal j x).principal i = s.principal i := by
  rcases i with _ | _ | _ <;> rcases j with _ | _ | _ <;> first | rfl | exact absurd rfl h

@[simp] theorem State.setPrincipal_loop (s : State) (j : Principal) (x : PrincipalRecord) : (s.setPrincipal j x).loop = s.loop := by rcases j with _ | _ | _ <;> rfl
@[simp] theorem State.setPrincipal_carriers (s : State) (j : Principal) (x : PrincipalRecord) : (s.setPrincipal j x).carriers = s.carriers := by rcases j with _ | _ | _ <;> rfl
@[simp] theorem State.setPrincipal_induction (s : State) (j : Principal) (x : PrincipalRecord) : (s.setPrincipal j x).induction = s.induction := by rcases j with _ | _ | _ <;> rfl
@[simp] theorem State.setPrincipal_stations (s : State) (j : Principal) (x : PrincipalRecord) : (s.setPrincipal j x).stations = s.stations := by rcases j with _ | _ | _ <;> rfl
@[simp] theorem State.setPrincipal_berths (s : State) (j : Principal) (x : PrincipalRecord) : (s.setPrincipal j x).berths = s.berths := by rcases j with _ | _ | _ <;> rfl
@[simp] theorem State.setPrincipal_router (s : State) (j : Principal) (x : PrincipalRecord) : (s.setPrincipal j x).router = s.router := by rcases j with _ | _ | _ <;> rfl
@[simp] theorem State.setPrincipal_lanes (s : State) (j : Principal) (x : PrincipalRecord) : (s.setPrincipal j x).lanes = s.lanes := by rcases j with _ | _ | _ <;> rfl
@[simp] theorem State.setPrincipal_diverters (s : State) (j : Principal) (x : PrincipalRecord) : (s.setPrincipal j x).diverters = s.diverters := by rcases j with _ | _ | _ <;> rfl
@[simp] theorem State.setPrincipal_coding (s : State) (j : Principal) (x : PrincipalRecord) : (s.setPrincipal j x).coding = s.coding := by rcases j with _ | _ | _ <;> rfl
@[simp] theorem State.setPrincipal_mode (s : State) (j : Principal) (x : PrincipalRecord) : (s.setPrincipal j x).mode = s.mode := by rcases j with _ | _ | _ <;> rfl
@[simp] theorem State.setPrincipal_links (s : State) (j : Principal) (x : PrincipalRecord) : (s.setPrincipal j x).links = s.links := by rcases j with _ | _ | _ <;> rfl
@[simp] theorem State.setPrincipal_lastServed (s : State) (j : Principal) (x : PrincipalRecord) : (s.setPrincipal j x).lastServed = s.lastServed := by rcases j with _ | _ | _ <;> rfl
@[simp] theorem State.setPrincipal_orders (s : State) (j : Principal) (x : PrincipalRecord) : (s.setPrincipal j x).orders = s.orders := by rcases j with _ | _ | _ <;> rfl
@[simp] theorem State.setPrincipal_wires (s : State) (j : Principal) (x : PrincipalRecord) : (s.setPrincipal j x).wires = s.wires := by rcases j with _ | _ | _ <;> rfl
@[simp] theorem State.setPrincipal_pending (s : State) (j : Principal) (x : PrincipalRecord) : (s.setPrincipal j x).pending = s.pending := by rcases j with _ | _ | _ <;> rfl
@[simp] theorem State.lane_setPrincipal (s : State) (j : Principal) (x : PrincipalRecord) (i : LaneNo) : (s.setPrincipal j x).lane i = s.lane i := by rcases j with _ | _ | _ <;> rfl
@[simp] theorem State.diverter_setPrincipal (s : State) (j : Principal) (x : PrincipalRecord) (i : LaneNo) : (s.setPrincipal j x).diverter i = s.diverter i := by rcases j with _ | _ | _ <;> rfl
@[simp] theorem State.point_setPrincipal (s : State) (j : Principal) (x : PrincipalRecord) (i : PointNo) : (s.setPrincipal j x).point i = s.point i := by rcases j with _ | _ | _ <;> rfl
@[simp] theorem State.station_setPrincipal (s : State) (j : Principal) (x : PrincipalRecord) (i : StationNo) : (s.setPrincipal j x).station i = s.station i := by rcases j with _ | _ | _ <;> rfl
@[simp] theorem State.link_setPrincipal (s : State) (j : Principal) (x : PrincipalRecord) (i : LinkNo) : (s.setPrincipal j x).link i = s.link i := by rcases j with _ | _ | _ <;> rfl
@[simp] theorem State.berth_setPrincipal (s : State) (j : Principal) (x : PrincipalRecord) (i : BerthId) : (s.setPrincipal j x).berth i = s.berth i := by rcases j with _ | _ | _ <;> rfl
@[simp] theorem State.carrier_setPrincipal (s : State) (j : Principal) (x : PrincipalRecord) (i : Nat) : (s.setPrincipal j x).carrier i = s.carrier i := by rcases j with _ | _ | _ <;> rfl

/-! ## carrier records -/

@[simp] theorem State.setCarrier_loop (s : State) (j : Nat) (x : Carrier) : (s.setCarrier j x).loop = s.loop := rfl
@[simp] theorem State.setCarrier_induction (s : State) (j : Nat) (x : Carrier) : (s.setCarrier j x).induction = s.induction := rfl
@[simp] theorem State.setCarrier_stations (s : State) (j : Nat) (x : Carrier) : (s.setCarrier j x).stations = s.stations := rfl
@[simp] theorem State.setCarrier_berths (s : State) (j : Nat) (x : Carrier) : (s.setCarrier j x).berths = s.berths := rfl
@[simp] theorem State.setCarrier_router (s : State) (j : Nat) (x : Carrier) : (s.setCarrier j x).router = s.router := rfl
@[simp] theorem State.setCarrier_lanes (s : State) (j : Nat) (x : Carrier) : (s.setCarrier j x).lanes = s.lanes := rfl
@[simp] theorem State.setCarrier_diverters (s : State) (j : Nat) (x : Carrier) : (s.setCarrier j x).diverters = s.diverters := rfl
@[simp] theorem State.setCarrier_coding (s : State) (j : Nat) (x : Carrier) : (s.setCarrier j x).coding = s.coding := rfl
@[simp] theorem State.setCarrier_mode (s : State) (j : Nat) (x : Carrier) : (s.setCarrier j x).mode = s.mode := rfl
@[simp] theorem State.setCarrier_links (s : State) (j : Nat) (x : Carrier) : (s.setCarrier j x).links = s.links := rfl
@[simp] theorem State.setCarrier_lastServed (s : State) (j : Nat) (x : Carrier) : (s.setCarrier j x).lastServed = s.lastServed := rfl
@[simp] theorem State.setCarrier_principals (s : State) (j : Nat) (x : Carrier) : (s.setCarrier j x).principals = s.principals := rfl
@[simp] theorem State.setCarrier_orders (s : State) (j : Nat) (x : Carrier) : (s.setCarrier j x).orders = s.orders := rfl
@[simp] theorem State.setCarrier_wires (s : State) (j : Nat) (x : Carrier) : (s.setCarrier j x).wires = s.wires := rfl
@[simp] theorem State.setCarrier_pending (s : State) (j : Nat) (x : Carrier) : (s.setCarrier j x).pending = s.pending := rfl
@[simp] theorem State.lane_setCarrier (s : State) (j : Nat) (x : Carrier) (i : LaneNo) : (s.setCarrier j x).lane i = s.lane i := rfl
@[simp] theorem State.diverter_setCarrier (s : State) (j : Nat) (x : Carrier) (i : LaneNo) : (s.setCarrier j x).diverter i = s.diverter i := rfl
@[simp] theorem State.point_setCarrier (s : State) (j : Nat) (x : Carrier) (i : PointNo) : (s.setCarrier j x).point i = s.point i := rfl
@[simp] theorem State.station_setCarrier (s : State) (j : Nat) (x : Carrier) (i : StationNo) : (s.setCarrier j x).station i = s.station i := rfl
@[simp] theorem State.link_setCarrier (s : State) (j : Nat) (x : Carrier) (i : LinkNo) : (s.setCarrier j x).link i = s.link i := rfl
@[simp] theorem State.berth_setCarrier (s : State) (j : Nat) (x : Carrier) (i : BerthId) : (s.setCarrier j x).berth i = s.berth i := rfl
@[simp] theorem State.principal_setCarrier (s : State) (j : Nat) (x : Carrier) (i : Principal) : (s.setCarrier j x).principal i = s.principal i := rfl

end Sys2Proof.Machine
end

