-- ==== Sys2Proof/Laws/Carriers.lean ====
section
/-! SUPPORT. The carrier table: what storing a record leaves of the table, of every other record and of the counts. -/

namespace Sys2Proof.Machine

@[simp] theorem CarrierTable.store_length (t : CarrierTable) (k : Nat) (c : Carrier) :
    (t.store k c).table.length = t.table.length := by
  unfold CarrierTable.store
  split <;> simp

theorem CarrierTable.store_get (t : CarrierTable) (k i : Nat) (c : Carrier) :
    (t.store k c).table.getD i Carrier.empty
      = if i = k ∧ k < t.table.length then c else t.table.getD i Carrier.empty := by
  unfold CarrierTable.store
  split
  case h_1 h =>
    have : ¬k < t.table.length := by simpa using h
    simp [this]
  case h_2 old h =>
    have hk : k < t.table.length := (List.getElem?_eq_some_iff.mp h).1
    by_cases hi : i = k
    · subst hi; simp [hk]
    · simp [hi, Ne.symm hi]

@[simp] theorem State.carrierNumbers_setCarrier (s : State) (k : Nat) (c : Carrier) :
    (s.setCarrier k c).carrierNumbers = s.carrierNumbers := by
  simp [State.carrierNumbers, State.setCarrier]

theorem State.carrier_of_ge (s : State) {k : Nat} (h : s.carriers.table.length ≤ k) : s.carrier k = Carrier.empty := by
  simp [State.carrier, List.getElem?_eq_none h]

theorem State.carrier_setCarrier (s : State) (k i : Nat) (c : Carrier) :
    (s.setCarrier k c).carrier i = if i = k ∧ k < s.carriers.table.length then c else s.carrier i :=
  CarrierTable.store_get s.carriers k i c

theorem State.carrier_setCarrier_ne (s : State) {k i : Nat} (c : Carrier) (h : i ≠ k) :
    (s.setCarrier k c).carrier i = s.carrier i := by
  simp [State.carrier_setCarrier, h]

theorem State.carrier_setCarrier_same (s : State) {k : Nat} (c : Carrier) (h : k < s.carriers.table.length) :
    (s.setCarrier k c).carrier k = c := by
  simp [State.carrier_setCarrier, h]

/-- A carrier that is not EMPTY has a record in the table. -/
theorem State.lt_of_carrier_ne (s : State) {k : Nat} (h : s.carrier k ≠ Carrier.empty) :
    k < s.carriers.table.length := by
  rcases Nat.lt_or_ge k s.carriers.table.length with hk | hk
  · exact hk
  · exact absurd (s.carrier_of_ge hk) h

/-- Counting after one element is replaced. -/
theorem countP_set_add {α : Type} (p : α → Bool) (l : List α) (k : Nat) (a b : α) (h : l[k]? = some a) :
    (l.set k b).countP p + oneIf (p a) = l.countP p + oneIf (p b) := by
  induction l generalizing k with
  | nil => simp at h
  | cons x xs ih =>
    cases k with
    | zero =>
      simp at h; subst h
      simp [List.countP_cons, oneIf]; omega
    | succ n =>
      have := ih n (by simpa using h)
      simp [List.countP_cons]; omega

theorem oneIf_le_countP {α : Type} (p : α → Bool) (l : List α) (k : Nat) (a : α) (h : l[k]? = some a) :
    oneIf (p a) ≤ l.countP p := by
  have := countP_set_add p l k a a h
  have hm := List.mem_of_getElem? h
  unfold oneIf
  split
  · rename_i hp; exact List.countP_pos_iff.mpr ⟨a, hm, hp⟩
  · omega

/-- R12: the two counts follow a change of state. -/
theorem State.counted_setCarrier (s : State) (k : Nat) (c : Carrier) (h : s.counted) : (s.setCarrier k c).counted := by
  obtain ⟨hl, ha, hb⟩ := h
  have ha : s.carriers.loaded = s.carriers.table.countP Carrier.isLoaded := ha
  have hb : s.carriers.unverified = s.carriers.table.countP Carrier.isUnverified := hb
  cases hk : s.carriers.table[k]? with
  | none =>
    have he : s.setCarrier k c = s := by simp [State.setCarrier, State.setCarriers, CarrierTable.store, hk]
    rw [he]; exact ⟨hl, ha, hb⟩
  | some old =>
    have h1 := countP_set_add Carrier.isLoaded _ k old c hk
    have h2 := countP_set_add Carrier.isUnverified _ k old c hk
    have h3 := oneIf_le_countP Carrier.isLoaded _ k old hk
    have h4 := oneIf_le_countP Carrier.isUnverified _ k old hk
    have he : (s.setCarrier k c).carriers = ⟨s.carriers.table.set k c,
        s.carriers.loaded + oneIf c.isLoaded - oneIf old.isLoaded,
        s.carriers.unverified + oneIf c.isUnverified - oneIf old.isUnverified⟩ := by
      simp [State.setCarrier, CarrierTable.store, hk]
    unfold State.counted
    rw [he]
    refine ⟨by simpa using hl, ?_, ?_⟩
    · change _ = List.countP Carrier.isLoaded _
      dsimp only; omega
    · change _ = List.countP Carrier.isUnverified _
      dsimp only; omega

/-- An operation applied for each member of a list keeps what each application keeps. -/
theorem forEach_keeps {α : Type} (P : State → Prop) (f : State → α → State) (xs : List α) (s : State) (h : P s)
    (hf : ∀ s, ∀ a ∈ xs, P s → P (f s a)) : P (forEach xs f s) := by
  induction xs generalizing s with
  | nil => exact h
  | cons a as ih =>
    exact ih (f s a) (hf s a (by simp) h) fun s b hb hs => hf s b (by simp [hb]) hs

/-- A field that no application changes is unchanged. -/
theorem forEach_same {α β : Type} (g : State → β) (f : State → α → State) (xs : List α) (s : State)
    (hf : ∀ s, ∀ a ∈ xs, g (f s a) = g s) : g (forEach xs f s) = g s :=
  forEach_keeps (fun t => g t = g s) f xs s rfl fun t a ha ht => (hf t a ha).trans ht

end Sys2Proof.Machine
end

