-- ==== Sys2Proof/Laws/Commands.lean ====
section
/-! SUPPORT. Taking a command (R171): what `takeCommand` answers, case by case, and what forming a reply leaves. -/

namespace Sys2Proof.Machine

/-- A command whose rule takes it: its effect and its reply data. -/
theorem State.takeCommand_ok {s t : State} {l : LinkNo} {tag : Byte} {code : Nat} {body : Principal → State → Taken}
    {p : Principal} {data : List Byte} (h : (s.link l).state = .attached p)
    (hb : body p (s.setLastServed l) = .ok t data) : s.takeCommand l tag code body = t.replyOk l tag code data := by
  simp [State.takeCommand, h, hb]

/-- A command whose rule refuses it. -/
theorem State.takeCommand_refused {s : State} {l : LinkNo} {tag : Byte} {code : Nat} {body : Principal → State → Taken}
    {p : Principal} {r : RefusalCode} (h : (s.link l).state = .attached p)
    (hb : body p (s.setLastServed l) = .refused r) :
    s.takeCommand l tag code body = (s.setLastServed l).replyRefused l tag code r := by
  simp [State.takeCommand, h, hb]

theorem State.takeCommand_idle {s : State} {l : LinkNo} {tag : Byte} {code : Nat} {body : Principal → State → Taken}
    (h : (s.link l).state = .idle) :
    s.takeCommand l tag code body = (s.setLastServed l).replyRefused l tag code .notAttached := by
  simp [State.takeCommand, h]

theorem State.takeCommand_muted {s : State} {l : LinkNo} {tag : Byte} {code : Nat} {body : Principal → State → Taken}
    (h : (s.link l).state = .muted) : s.takeCommand l tag code body = s := by
  simp [State.takeCommand, h]

/-- Everything that taking a command can come to. -/
theorem State.takeCommand_cases (s : State) (l : LinkNo) (tag : Byte) (code : Nat) (body : Principal → State → Taken) :
    ((s.link l).state = .muted ∧ s.takeCommand l tag code body = s)
    ∨ (∃ r, (s.link l).state ≠ .muted ∧ s.takeCommand l tag code body = (s.setLastServed l).replyRefused l tag code r)
    ∨ ∃ p t data, (s.link l).state = .attached p ∧ body p (s.setLastServed l) = .ok t data
        ∧ s.takeCommand l tag code body = t.replyOk l tag code data := by
  cases h : (s.link l).state with
  | muted => exact .inl ⟨rfl, State.takeCommand_muted h⟩
  | idle => exact .inr (.inl ⟨_, by simp, State.takeCommand_idle h⟩)
  | attached p =>
    cases hb : body p (s.setLastServed l) with
    | refused r => exact .inr (.inl ⟨r, by simp, State.takeCommand_refused h hb⟩)
    | ok t data => exact .inr (.inr ⟨p, t, data, rfl, hb, State.takeCommand_ok h hb⟩)

/-! ## The last-served link is read by no rule but QUERY LINKS -/

@[simp] theorem State.lane_setLastServed (s : State) (l : LinkNo) (j : LaneNo) :
    (s.setLastServed l).lane j = s.lane j := rfl
@[simp] theorem State.diverter_setLastServed (s : State) (l : LinkNo) (j : LaneNo) :
    (s.setLastServed l).diverter j = s.diverter j := rfl
@[simp] theorem State.point_setLastServed (s : State) (l : LinkNo) (i : PointNo) :
    (s.setLastServed l).point i = s.point i := rfl
@[simp] theorem State.station_setLastServed (s : State) (l : LinkNo) (n : StationNo) :
    (s.setLastServed l).station n = s.station n := rfl
@[simp] theorem State.link_setLastServed (s : State) (l m : LinkNo) : (s.setLastServed l).link m = s.link m := rfl
@[simp] theorem State.berth_setLastServed (s : State) (l : LinkNo) (b : BerthId) :
    (s.setLastServed l).berth b = s.berth b := by cases b <;> rfl
@[simp] theorem State.principal_setLastServed (s : State) (l : LinkNo) (p : Principal) :
    (s.setLastServed l).principal p = s.principal p := by rcases p with _ | _ | _ <;> rfl
@[simp] theorem State.carrier_setLastServed (s : State) (l : LinkNo) (k : Nat) :
    (s.setLastServed l).carrier k = s.carrier k := rfl

/-! ## Numbers that name records -/

@[simp] theorem laneOf_val (j : LaneNo) : laneOf j.val = some j := by simp [laneOf]
@[simp] theorem pointOf_val (i : PointNo) : pointOf i.val = some i := by simp [pointOf]
@[simp] theorem stationOf_val (n : StationNo) : stationOf n.val = some n := by simp [stationOf]
@[simp] theorem linkOf_val (l : LinkNo) : linkOf l.val = some l := by simp [linkOf]
@[simp] theorem berthOf_number (b : BerthId) : berthOf b.number = some b := by cases b <;> rfl
@[simp] theorem principalOf_code (p : Principal) : principalOf p.code = some p := by rcases p with _ | _ | _ <;> rfl
@[simp] theorem modeOf_code (m : Mode) : modeOf m.code = some m := by cases m <;> rfl
@[simp] theorem functionOf_code (f : LaneFunction) : functionOf f.code = some f := by cases f <;> rfl

theorem laneOf_none {n : Nat} (h : 40 ≤ n) : laneOf n = none := by simp [laneOf]; omega
theorem pointOf_none {n : Nat} (h : 6 ≤ n) : pointOf n = none := by simp [pointOf]; omega
theorem stationOf_none {n : Nat} (h : 4 ≤ n) : stationOf n = none := by simp [stationOf]; omega
theorem linkOf_none {n : Nat} (h : 4 ≤ n) : linkOf n = none := by simp [linkOf]; omega
theorem berthOf_none {n : Nat} (h1 : n ≠ 1) (h2 : n ≠ 2) : berthOf n = none := by
  match n with
  | 0 => rfl
  | 1 => exact absurd rfl h1
  | 2 => exact absurd rfl h2
  | _ + 3 => rfl

end Sys2Proof.Machine
end

