-- ==== Sys2Proof/Laws/PerInstr.lean ====
section
/-! SUPPORT. The family HeaderOfFrame of statements about each row: what a frame that spells the row must carry. -/

namespace Sys2Proof.Laws

/-- R164, R180, Table 11-5: a frame that spells `i` on a link carries the tag and the code of `i`, and `i` came on that
link; no frame spells an event. -/
def HeaderOfFrame.Statement (i : Instr) : Prop :=
  ∀ (l : LinkNo) (f : CommandFrame), decodeCommand l f = some i → i.header = some (l, f.tag, f.kind.toNat)

/-- The statement of the family for every row at once, by the layout of each kind. -/
theorem decodeCommand_header {l : LinkNo} {f : CommandFrame} {i : Instr} (h : decodeCommand l f = some i) :
    i.header = some (l, f.tag, f.kind.toNat) := by
  unfold decodeCommand at h
  split at h <;> rename_i hk <;> (try rw [hk]) <;>
    simp only [Option.bind_eq_some_iff, Option.map_eq_some_iff, reduceCtorEq] at h
  all_goals grind [Instr.header, Option.bind_eq_some_iff, Option.map_eq_some_iff, readStationCommand]

theorem HeaderOfFrame.powerOn :
    HeaderOfFrame.Statement .powerOn :=
  fun _ _ h => decodeCommand_header h

theorem HeaderOfFrame.advance (homeMark : Byte) :
    HeaderOfFrame.Statement (.advance homeMark) :=
  fun _ _ h => decodeCommand_header h

theorem HeaderOfFrame.pollAnswer (station : Nat) (head : Nat) (pollNumber : Nat) (ship : Nat) (serial : Nat) :
    HeaderOfFrame.Statement (.pollAnswer station head pollNumber ship serial) :=
  fun _ _ h => decodeCommand_header h

theorem HeaderOfFrame.waitExpiry (carrier : Nat) :
    HeaderOfFrame.Statement (.waitExpiry carrier) :=
  fun _ _ h => decodeCommand_header h

theorem HeaderOfFrame.lapLimit (carrier : Nat) :
    HeaderOfFrame.Statement (.lapLimit carrier) :=
  fun _ _ h => decodeCommand_header h

theorem HeaderOfFrame.noReportTimeout (carrier : Nat) :
    HeaderOfFrame.Statement (.noReportTimeout carrier) :=
  fun _ _ h => decodeCommand_header h

theorem HeaderOfFrame.bagPresented (point : Nat) (size : SizeClass) (ticket : Nat) :
    HeaderOfFrame.Statement (.bagPresented point size ticket) :=
  fun _ _ h => decodeCommand_header h

theorem HeaderOfFrame.bagWithdrawn (point : Nat) :
    HeaderOfFrame.Statement (.bagWithdrawn point) :=
  fun _ _ h => decodeCommand_header h

theorem HeaderOfFrame.divertDone (lane : Nat) (carrier : Nat) :
    HeaderOfFrame.Statement (.divertDone lane carrier) :=
  fun _ _ h => decodeCommand_header h

theorem HeaderOfFrame.divertFailed (lane : Nat) (carrier : Nat) :
    HeaderOfFrame.Statement (.divertFailed lane carrier) :=
  fun _ _ h => decodeCommand_header h

theorem HeaderOfFrame.laneFull (lane : Nat) :
    HeaderOfFrame.Statement (.laneFull lane) :=
  fun _ _ h => decodeCommand_header h

theorem HeaderOfFrame.laneEmptied (lane : Nat) :
    HeaderOfFrame.Statement (.laneEmptied lane) :=
  fun _ _ h => decodeCommand_header h

theorem HeaderOfFrame.fetch (ticket : Nat) :
    HeaderOfFrame.Statement (.fetch ticket) :=
  fun _ _ h => decodeCommand_header h

theorem HeaderOfFrame.codeTag (ticket : Nat) (ship : Nat) (serial : Nat) :
    HeaderOfFrame.Statement (.codeTag ticket ship serial) :=
  fun _ _ h => decodeCommand_header h

theorem HeaderOfFrame.codeCabin (ticket : Nat) (berth : Nat) (cabin : Nat) :
    HeaderOfFrame.Statement (.codeCabin ticket berth cabin) :=
  fun _ _ h => decodeCommand_header h

theorem HeaderOfFrame.remove (ticket : Nat) :
    HeaderOfFrame.Statement (.remove ticket) :=
  fun _ _ h => decodeCommand_header h

theorem HeaderOfFrame.retry (ticket : Nat) :
    HeaderOfFrame.Statement (.retry ticket) :=
  fun _ _ h => decodeCommand_header h

theorem HeaderOfFrame.fieldRecordBad (record : List RxChar) :
    HeaderOfFrame.Statement (.fieldRecordBad record) :=
  fun _ _ h => decodeCommand_header h

theorem HeaderOfFrame.orderSent :
    HeaderOfFrame.Statement .orderSent :=
  fun _ _ h => decodeCommand_header h

theorem HeaderOfFrame.drainComplete :
    HeaderOfFrame.Statement .drainComplete :=
  fun _ _ h => decodeCommand_header h

theorem HeaderOfFrame.closingComplete (berth : Nat) :
    HeaderOfFrame.Statement (.closingComplete berth) :=
  fun _ _ h => decodeCommand_header h

theorem HeaderOfFrame.frameReceived (link : LinkNo) (characters : List RxChar) :
    HeaderOfFrame.Statement (.frameReceived link characters) :=
  fun _ _ h => decodeCommand_header h

theorem HeaderOfFrame.lineBreak (link : LinkNo) :
    HeaderOfFrame.Statement (.lineBreak link) :=
  fun _ _ h => decodeCommand_header h

theorem HeaderOfFrame.noticeSent (link : LinkNo) :
    HeaderOfFrame.Statement (.noticeSent link) :=
  fun _ _ h => decodeCommand_header h

theorem HeaderOfFrame.replySent (link : LinkNo) (which : SentReply) :
    HeaderOfFrame.Statement (.replySent link which) :=
  fun _ _ h => decodeCommand_header h

theorem HeaderOfFrame.configureLoop (link : LinkNo) (tag : Byte) (count : Nat) (commit : Nat) :
    HeaderOfFrame.Statement (.configureLoop link tag count commit) :=
  fun _ _ h => decodeCommand_header h

theorem HeaderOfFrame.queryPosition (link : LinkNo) (tag : Byte) :
    HeaderOfFrame.Statement (.queryPosition link tag) :=
  fun _ _ h => decodeCommand_header h

theorem HeaderOfFrame.queryCarrier (link : LinkNo) (tag : Byte) (carrier : Nat) :
    HeaderOfFrame.Statement (.queryCarrier link tag carrier) :=
  fun _ _ h => decodeCommand_header h

theorem HeaderOfFrame.configureInductionPoint (link : LinkNo) (tag : Byte) (point : Nat) (offset : Option Nat) (enabled : Bool) (mark : Bool) :
    HeaderOfFrame.Statement (.configureInductionPoint link tag point offset enabled mark) :=
  fun _ _ h => decodeCommand_header h

theorem HeaderOfFrame.setLoadLimit (link : LinkNo) (tag : Byte) (limit : Nat) :
    HeaderOfFrame.Statement (.setLoadLimit link tag limit) :=
  fun _ _ h => decodeCommand_header h

theorem HeaderOfFrame.setStarveLimit (link : LinkNo) (tag : Byte) (limit : Nat) :
    HeaderOfFrame.Statement (.setStarveLimit link tag limit) :=
  fun _ _ h => decodeCommand_header h

theorem HeaderOfFrame.queryInduction (link : LinkNo) (tag : Byte) :
    HeaderOfFrame.Statement (.queryInduction link tag) :=
  fun _ _ h => decodeCommand_header h

theorem HeaderOfFrame.configureReadStation (link : LinkNo) (tag : Byte) (station : Nat) (offset : Option Nat) (heads : Nat) (priority : List Nat) (enabled : Bool) :
    HeaderOfFrame.Statement (.configureReadStation link tag station offset heads priority enabled) :=
  fun _ _ h => decodeCommand_header h

theorem HeaderOfFrame.setReadVoting (link : LinkNo) (tag : Byte) (station : Nat) (polls : Nat) (votes : Nat) :
    HeaderOfFrame.Statement (.setReadVoting link tag station polls votes) :=
  fun _ _ h => decodeCommand_header h

theorem HeaderOfFrame.restoreHead (link : LinkNo) (tag : Byte) (station : Nat) (head : Nat) :
    HeaderOfFrame.Statement (.restoreHead link tag station head) :=
  fun _ _ h => decodeCommand_header h

theorem HeaderOfFrame.queryReadStation (link : LinkNo) (tag : Byte) (station : Nat) :
    HeaderOfFrame.Statement (.queryReadStation link tag station) :=
  fun _ _ h => decodeCommand_header h

theorem HeaderOfFrame.openBerth (link : LinkNo) (tag : Byte) (berth : Nat) (ship : Nat) :
    HeaderOfFrame.Statement (.openBerth link tag berth ship) :=
  fun _ _ h => decodeCommand_header h

theorem HeaderOfFrame.closeSailing (link : LinkNo) (tag : Byte) :
    HeaderOfFrame.Statement (.closeSailing link tag) :=
  fun _ _ h => decodeCommand_header h

theorem HeaderOfFrame.forceClose (link : LinkNo) (tag : Byte) (berth : Nat) :
    HeaderOfFrame.Statement (.forceClose link tag berth) :=
  fun _ _ h => decodeCommand_header h

theorem HeaderOfFrame.loadCabin (link : LinkNo) (tag : Byte) (cabin : Nat) (deck : Nat) (expected : Nat) :
    HeaderOfFrame.Statement (.loadCabin link tag cabin deck expected) :=
  fun _ _ h => decodeCommand_header h

theorem HeaderOfFrame.setCabinHold (link : LinkNo) (tag : Byte) (cabin : Nat) (held : Bool) :
    HeaderOfFrame.Statement (.setCabinHold link tag cabin held) :=
  fun _ _ h => decodeCommand_header h

theorem HeaderOfFrame.loadTag (link : LinkNo) (tag : Byte) (serial : Nat) (cabin : Nat) :
    HeaderOfFrame.Statement (.loadTag link tag serial cabin) :=
  fun _ _ h => decodeCommand_header h

theorem HeaderOfFrame.moveTag (link : LinkNo) (tag : Byte) (entry : EntryRef) (cabin : Nat) :
    HeaderOfFrame.Statement (.moveTag link tag entry cabin) :=
  fun _ _ h => decodeCommand_header h

theorem HeaderOfFrame.withdrawTag (link : LinkNo) (tag : Byte) (entry : EntryRef) :
    HeaderOfFrame.Statement (.withdrawTag link tag entry) :=
  fun _ _ h => decodeCommand_header h

theorem HeaderOfFrame.releaseHoldBag (link : LinkNo) (tag : Byte) (entry : EntryRef) :
    HeaderOfFrame.Statement (.releaseHoldBag link tag entry) :=
  fun _ _ h => decodeCommand_header h

theorem HeaderOfFrame.setDeckGroup (link : LinkNo) (tag : Byte) (deck : Nat) (group : Option Nat) :
    HeaderOfFrame.Statement (.setDeckGroup link tag deck group) :=
  fun _ _ h => decodeCommand_header h

theorem HeaderOfFrame.queryTag (link : LinkNo) (tag : Byte) (berth : Option Nat) (entry : EntryRef) :
    HeaderOfFrame.Statement (.queryTag link tag berth entry) :=
  fun _ _ h => decodeCommand_header h

theorem HeaderOfFrame.queryCabin (link : LinkNo) (tag : Byte) (berth : Option Nat) (cabin : Nat) :
    HeaderOfFrame.Statement (.queryCabin link tag berth cabin) :=
  fun _ _ h => decodeCommand_header h

theorem HeaderOfFrame.queryBerth (link : LinkNo) (tag : Byte) (berth : Nat) :
    HeaderOfFrame.Statement (.queryBerth link tag berth) :=
  fun _ _ h => decodeCommand_header h

theorem HeaderOfFrame.setLapLimits (link : LinkNo) (tag : Byte) (lapLimit : Nat) (waitLimit : Nat) :
    HeaderOfFrame.Statement (.setLapLimits link tag lapLimit waitLimit) :=
  fun _ _ h => decodeCommand_header h

theorem HeaderOfFrame.queryPending (link : LinkNo) (tag : Byte) :
    HeaderOfFrame.Statement (.queryPending link tag) :=
  fun _ _ h => decodeCommand_header h

theorem HeaderOfFrame.configureLane (link : LinkNo) (tag : Byte) (lane : Nat) (offset : Option Nat) (capacity : Nat) :
    HeaderOfFrame.Statement (.configureLane link tag lane offset capacity) :=
  fun _ _ h => decodeCommand_header h

theorem HeaderOfFrame.setLaneCapacity (link : LinkNo) (tag : Byte) (lane : Nat) (capacity : Nat) :
    HeaderOfFrame.Statement (.setLaneCapacity link tag lane capacity) :=
  fun _ _ h => decodeCommand_header h

theorem HeaderOfFrame.claimLane (link : LinkNo) (tag : Byte) (lane : Nat) :
    HeaderOfFrame.Statement (.claimLane link tag lane) :=
  fun _ _ h => decodeCommand_header h

theorem HeaderOfFrame.releaseLane (link : LinkNo) (tag : Byte) (lane : Nat) :
    HeaderOfFrame.Statement (.releaseLane link tag lane) :=
  fun _ _ h => decodeCommand_header h

theorem HeaderOfFrame.reclaimLane (link : LinkNo) (tag : Byte) (lane : Nat) :
    HeaderOfFrame.Statement (.reclaimLane link tag lane) :=
  fun _ _ h => decodeCommand_header h

theorem HeaderOfFrame.openLane (link : LinkNo) (tag : Byte) (lane : Nat) :
    HeaderOfFrame.Statement (.openLane link tag lane) :=
  fun _ _ h => decodeCommand_header h

theorem HeaderOfFrame.closeLane (link : LinkNo) (tag : Byte) (lane : Nat) :
    HeaderOfFrame.Statement (.closeLane link tag lane) :=
  fun _ _ h => decodeCommand_header h

theorem HeaderOfFrame.setLaneFunction (link : LinkNo) (tag : Byte) (lane : Nat) (function : Nat) :
    HeaderOfFrame.Statement (.setLaneFunction link tag lane function) :=
  fun _ _ h => decodeCommand_header h

theorem HeaderOfFrame.setLaneGroup (link : LinkNo) (tag : Byte) (lane : Nat) (group : Option Nat) :
    HeaderOfFrame.Statement (.setLaneGroup link tag lane group) :=
  fun _ _ h => decodeCommand_header h

theorem HeaderOfFrame.resetLaneFault (link : LinkNo) (tag : Byte) (lane : Nat) :
    HeaderOfFrame.Statement (.resetLaneFault link tag lane) :=
  fun _ _ h => decodeCommand_header h

theorem HeaderOfFrame.queryLane (link : LinkNo) (tag : Byte) (lane : Option Nat) :
    HeaderOfFrame.Statement (.queryLane link tag lane) :=
  fun _ _ h => decodeCommand_header h

theorem HeaderOfFrame.queryDiversion (link : LinkNo) (tag : Byte) (lane : Option Nat) :
    HeaderOfFrame.Statement (.queryDiversion link tag lane) :=
  fun _ _ h => decodeCommand_header h

theorem HeaderOfFrame.queryStrays (link : LinkNo) (tag : Byte) :
    HeaderOfFrame.Statement (.queryStrays link tag) :=
  fun _ _ h => decodeCommand_header h

theorem HeaderOfFrame.setMode (link : LinkNo) (tag : Byte) (mode : Nat) :
    HeaderOfFrame.Statement (.setMode link tag mode) :=
  fun _ _ h => decodeCommand_header h

theorem HeaderOfFrame.forceSetup (link : LinkNo) (tag : Byte) :
    HeaderOfFrame.Statement (.forceSetup link tag) :=
  fun _ _ h => decodeCommand_header h

theorem HeaderOfFrame.clearSort (link : LinkNo) (tag : Byte) :
    HeaderOfFrame.Statement (.clearSort link tag) :=
  fun _ _ h => decodeCommand_header h

theorem HeaderOfFrame.queryMode (link : LinkNo) (tag : Byte) :
    HeaderOfFrame.Statement (.queryMode link tag) :=
  fun _ _ h => decodeCommand_header h

theorem HeaderOfFrame.attach (link : LinkNo) (tag : Byte) (principal : Nat) :
    HeaderOfFrame.Statement (.attach link tag principal) :=
  fun _ _ h => decodeCommand_header h

theorem HeaderOfFrame.detach (link : LinkNo) (tag : Byte) :
    HeaderOfFrame.Statement (.detach link tag) :=
  fun _ _ h => decodeCommand_header h

theorem HeaderOfFrame.linkCheck (link : LinkNo) (tag : Byte) :
    HeaderOfFrame.Statement (.linkCheck link tag) :=
  fun _ _ h => decodeCommand_header h

theorem HeaderOfFrame.restoreLink (link : LinkNo) (tag : Byte) (named : Nat) :
    HeaderOfFrame.Statement (.restoreLink link tag named) :=
  fun _ _ h => decodeCommand_header h

theorem HeaderOfFrame.setLinkPermission (link : LinkNo) (tag : Byte) (named : Nat) (principal : Nat) (allowed : Bool) :
    HeaderOfFrame.Statement (.setLinkPermission link tag named principal allowed) :=
  fun _ _ h => decodeCommand_header h

theorem HeaderOfFrame.setNoticeClasses (link : LinkNo) (tag : Byte) (classes : Byte) :
    HeaderOfFrame.Statement (.setNoticeClasses link tag classes) :=
  fun _ _ h => decodeCommand_header h

theorem HeaderOfFrame.queryLinks (link : LinkNo) (tag : Byte) :
    HeaderOfFrame.Statement (.queryLinks link tag) :=
  fun _ _ h => decodeCommand_header h

end Sys2Proof.Laws
end

