-- ==== Sys2Proof/Laws/Routing.lean ====
section
/-! SUPPORT. What dropping, choosing and re-choosing targets can do (R91, R95, R96), and what giving dispositions can do
(R85): the laws that the statements about lanes and manifests lean on. -/

namespace Sys2Proof.Machine

/-! ## Parts -/

theorem State.changesOnly_refl (s : State) (ps : List Part) : s.changesOnly s ps := by
  intro p _; cases p <;> rfl

theorem Part.same_trans {s t u : State} {p : Part} (h : p.same s t) (h' : p.same t u) : p.same s u := by
  cases p <;> exact Eq.trans h' h

theorem State.changesOnly_trans {s t u : State} {ps : List Part} (h : s.changesOnly t ps) (h' : t.changesOnly u ps) :
    s.changesOnly u ps :=
  fun p hp => Part.same_trans (h p hp) (h' p hp)

theorem State.changesOnly_setCarrier (s : State) (k : Nat) (c : Carrier) :
    s.changesOnly (s.setCarrier k c) [.carriers, .lanes] := by
  intro p hp; cases p <;> first | rfl | simp at hp

theorem State.changesOnly_setLane (s : State) (j : LaneNo) (x : Lane) :
    s.changesOnly (s.setLane j x) [.carriers, .lanes] := by
  intro p hp; cases p <;> first | rfl | simp at hp

/-! ## Retargeting -/

theorem Carrier.retargeted_refl (c : Carrier) : c.retargeted c := rfl

theorem Carrier.retargeted_trans {a b c : Carrier} (h : a.retargeted b) (h' : b.retargeted c) : a.retargeted c := by
  unfold Carrier.retargeted at *
  rw [h'] ; rw [h]

theorem Lane.rebooked_refl (x : Lane) : x.rebooked x := rfl

theorem Lane.rebooked_trans {a b c : Lane} (h : a.rebooked b) (h' : b.rebooked c) : a.rebooked c := by
  unfold Lane.rebooked at *
  rw [h'] ; rw [h]

theorem State.rebooked_setLane (s : State) (j i : LaneNo) (n : Nat) :
    (s.lane i).rebooked ((s.setLane j { s.lane j with inbound := n }).lane i) := by
  by_cases h : i = j
  · subst h; simp [Lane.rebooked]
  · rw [State.lane_setLane_ne _ _ h]; rfl

theorem State.retargets_refl (s : State) (ks : List Nat) : s.retargets s ks :=
  ⟨s.changesOnly_refl _, fun _ => rfl, rfl, rfl, rfl, fun _ => rfl, fun _ _ => rfl⟩

theorem State.retargets_trans {s t u : State} {ks : List Nat} (h : s.retargets t ks) (h' : t.retargets u ks) :
    s.retargets u ks := by
  obtain ⟨h1, h2, h3, h4, h5, h6, h7⟩ := h
  obtain ⟨g1, g2, g3, g4, g5, g6, g7⟩ := h'
  exact ⟨State.changesOnly_trans h1 g1, fun j => Lane.rebooked_trans (h2 j) (g2 j), g3.trans h3, g4.trans h4,
    g5.trans h5, fun k => Carrier.retargeted_trans (h6 k) (g6 k), fun k hk => (g7 k hk).trans (h7 k hk)⟩

theorem State.retargets_mono {s t : State} {ks ls : List Nat} (h : s.retargets t ks) (hs : ∀ k ∈ ks, k ∈ ls) :
    s.retargets t ls := by
  obtain ⟨h1, h2, h3, h4, h5, h6, h7⟩ := h
  exact ⟨h1, h2, h3, h4, h5, h6, fun k hk => h7 k fun hm => hk (hs k hm)⟩

/-- The counts do not see a change of target. -/
theorem CarrierTable.store_counts (t : CarrierTable) (k : Nat) (c : Carrier)
    (h : c.state = (t.table.getD k Carrier.empty).state) :
    (t.store k c).loaded = t.loaded ∧ (t.store k c).unverified = t.unverified := by
  unfold CarrierTable.store
  split
  · exact ⟨rfl, rfl⟩
  · rename_i old hk
    have : t.table.getD k Carrier.empty = old := by simp [List.getD, hk]
    rw [this] at h
    simp [Carrier.isLoaded, Carrier.isUnverified, h]

theorem State.retargets_setCarrier (s : State) (k : Nat) (tg : Option LaneNo) (ar : Bool) :
    s.retargets (s.setCarrier k { s.carrier k with target := tg, armed := ar }) [k] := by
  have hc := CarrierTable.store_counts s.carriers k { s.carrier k with target := tg, armed := ar } rfl
  refine ⟨s.changesOnly_setCarrier _ _, fun _ => rfl, ?_, hc.1, hc.2, fun i => ?_, fun i hi => ?_⟩
  · simp [State.setCarrier]
  · rw [State.carrier_setCarrier]
    split
    · rename_i h; rw [h.1]; rfl
    · rfl
  · exact s.carrier_setCarrier_ne _ (by simpa using hi)

theorem State.retargets_setLane (s : State) (j : LaneNo) (n : Nat) (ks : List Nat) :
    s.retargets (s.setLane j { s.lane j with inbound := n }) ks :=
  ⟨s.changesOnly_setLane _ _, fun i => s.rebooked_setLane j i n, rfl, rfl, rfl, fun _ => rfl, fun _ _ => rfl⟩

theorem State.retargets_raiseInbound (s : State) (j : LaneNo) (u : Nat) (ks : List Nat) :
    s.retargets (s.raiseInbound j u) ks :=
  s.retargets_setLane j _ ks

theorem State.retargets_lowerInbound (s : State) (j : LaneNo) (u : Nat) (ks : List Nat) :
    s.retargets (s.lowerInbound j u) ks :=
  s.retargets_setLane j _ ks

theorem State.retargets_dropTarget (s : State) (k : Nat) : s.retargets (s.dropTarget k) [k] := by
  unfold State.dropTarget
  split
  · exact s.retargets_refl _
  · exact State.retargets_trans (s.retargets_setCarrier k none false) (State.retargets_lowerInbound _ _ _ _)

/-- R91: a choice leaves everything but the carrier's target and the chosen lane's inbound. -/
theorem State.retargets_chooseTarget (s : State) (k : Nat) : s.retargets (s.chooseTarget k) [k] := by
  unfold State.chooseTarget
  split
  · split
    · exact s.retargets_refl _
    · exact State.retargets_trans (s.retargets_setCarrier k _ false) (State.retargets_raiseInbound _ _ _ _)
  · exact s.retargets_refl _

theorem State.retargets_rechoose (s : State) (k : Nat) : s.retargets (s.rechoose k) [k] := by
  unfold State.rechoose
  split
  · exact State.retargets_trans (s.retargets_dropTarget k) (State.retargets_chooseTarget _ k)
  · exact s.retargets_refl _

theorem forEach_retargets (f : State → Nat → State) (ks : List Nat) (s : State)
    (hf : ∀ (s : State) (k : Nat), s.retargets (f s k) [k]) : s.retargets (forEach ks f s) ks :=
  forEach_keeps (fun t => s.retargets t ks) f ks s (s.retargets_refl ks) fun t k hk ht =>
    State.retargets_trans ht (State.retargets_mono (hf t k) fun i hi => by
      obtain rfl : i = k := by simpa using hi
      exact hk)

/-- R95 for several carriers. -/
theorem State.retargets_rechooseAll (s : State) (ks : List Nat) : s.retargets (s.rechooseAll ks) ks :=
  forEach_retargets _ ks s fun s k => s.retargets_rechoose k

theorem State.retargets_dropTargets (s : State) (ks : List Nat) : s.retargets (s.dropTargets ks) ks :=
  forEach_retargets _ ks s fun s k => s.retargets_dropTarget k

theorem State.retargets_chooseAll (s : State) (ks : List Nat) : s.retargets (s.chooseAll ks) ks :=
  forEach_retargets _ ks s fun s k => s.retargets_chooseTarget k

/-- R96: re-choosing for a lane touches the carriers whose tentative target is the lane and no other. -/
theorem State.retargets_rechooseLane (s : State) (j : LaneNo) : s.retargets (s.rechooseLane j) (s.tentativeAt j) :=
  State.retargets_trans (s.retargets_dropTargets _) (State.retargets_chooseAll _ _)

/-! ## Dispositions -/

theorem Carrier.entered_of_retargeted {a b c : Carrier} {d : Disposition} (h : a.entered b d) (h' : b.retargeted c) :
    a.entered c d := by
  unfold Carrier.entered Carrier.retargeted at *
  rw [h', h]

theorem State.disposes_of_retargets {s t u : State} {ks : List Nat} {d : Disposition} (h : s.disposes t ks d)
    (h' : t.retargets u ks) : s.disposes u ks d := by
  obtain ⟨h1, h2, h3, h4, h5⟩ := h
  obtain ⟨g1, g2, g3, _, _, g6, g7⟩ := h'
  exact ⟨State.changesOnly_trans h1 g1, fun j => Lane.rebooked_trans (h2 j) (g2 j), g3.trans h3,
    fun k hk => (g7 k hk).trans (h4 k hk), fun k hk => Carrier.entered_of_retargeted (h5 k hk) (g6 k)⟩

/-- R85: a carrier enters a disposition. -/
theorem State.disposes_enterDisposition (s : State) {k : Nat} (d : Disposition) (hk : k < s.carriers.table.length) :
    s.disposes (s.enterDisposition k d) [k] d := by
  obtain ⟨g1, g3, g4, _, _, g2, g7⟩ := s.retargets_dropTarget k
  have hk' : k < (s.dropTarget k).carriers.table.length := by omega
  refine ⟨State.changesOnly_trans g1 (State.changesOnly_setCarrier _ _ _), g3, ?_, fun i hi => ?_, fun i hi => ?_⟩
  · simpa [State.enterDisposition, State.setCarrier] using g4
  · exact ((s.dropTarget k).carrier_setCarrier_ne _ (by simpa using hi)).trans (g7 i hi)
  · obtain rfl : i = k := by simpa using hi
    have h2 := g2 i
    simp only [State.enterDisposition, State.carrier_setCarrier_same _ _ hk']
    unfold Carrier.entered
    unfold Carrier.retargeted at h2
    rw [h2]

theorem State.disposes_giveDisposition (s : State) {k : Nat} (d : Disposition) (hk : k < s.carriers.table.length) :
    s.disposes (s.giveDisposition k d) [k] d :=
  State.disposes_of_retargets (s.disposes_enterDisposition d hk) (State.retargets_chooseTarget _ k)

theorem Carrier.entered_trans {a b c : Carrier} {d d' : Disposition} (h : a.entered b d) (h' : b.entered c d') :
    a.entered c d' := by
  unfold Carrier.entered at *
  rw [h', h]

theorem State.disposes_append {s t u : State} {ks ls : List Nat} {d : Disposition} (h : s.disposes t ks d)
    (h' : t.disposes u ls d) : s.disposes u (ks ++ ls) d := by
  obtain ⟨h1, h2, h3, h4, h5⟩ := h
  obtain ⟨g1, g2, g3, g4, g5⟩ := h'
  refine ⟨State.changesOnly_trans h1 g1, fun j => Lane.rebooked_trans (h2 j) (g2 j), g3.trans h3, fun k hk => ?_,
    fun k hk => ?_⟩
  · rw [List.mem_append, not_or] at hk
    exact (g4 k hk.2).trans (h4 k hk.1)
  · by_cases hl : k ∈ ls
    · by_cases hs : k ∈ ks
      · exact Carrier.entered_trans (h5 k hs) (g5 k hl)
      · have := g5 k hl
        rwa [h4 k hs] at this
    · have hs : k ∈ ks := (List.mem_append.mp hk).resolve_right hl
      rw [g4 k hl]; exact h5 k hs

theorem State.disposes_nil (s : State) (d : Disposition) : s.disposes s [] d :=
  ⟨s.changesOnly_refl _, fun _ => rfl, rfl, fun _ _ => rfl, fun _ hk => by simp at hk⟩

/-- R65, R85: giving a disposition to several carriers gives it to each of them and touches no other. -/
theorem State.disposes_giveAll (s : State) (ks : List Nat) (d : Disposition)
    (hk : ∀ k ∈ ks, k < s.carriers.table.length) : s.disposes (s.giveAll ks d) ks d := by
  induction ks generalizing s with
  | nil => exact s.disposes_nil d
  | cons k ks ih =>
    have h := s.disposes_giveDisposition d (hk k (by simp))
    exact State.disposes_append h (ih _ fun i hi => by
      have := h.2.2.1
      have := hk i (by simp [hi])
      omega)

end Sys2Proof.Machine
end

