-- ==== Sys2Proof/Tests/Slice0.lean ====
section
/-! SUPPORT. Tests: ill-formed terms that the checks refuse, worked examples of the spec, and for each statement with
hypotheses a state and operands that meet them, clause by clause. -/

namespace Sys2Proof.Tests

-- One at a time: the kernel evaluations below, run at once, ask for more threads than the check's memory limit holds.
set_option Elab.async false

open Sys2Proof.Machine

/-! ## Ill-formed terms -/

theorem test_illformed_one_byte :
    (Instr.pollAnswer 256 0 0 5 1).wellFormed = false ∧ (Instr.bagWithdrawn 256).wellFormed = false
      ∧ (Instr.laneFull 256).wellFormed = false ∧ (Instr.laneEmptied 256).wellFormed = false
      ∧ (Instr.closingComplete 256).wellFormed = false ∧ (Instr.setStarveLimit 0 0 256).wellFormed = false
      ∧ (Instr.setReadVoting 0 0 0 256 1).wellFormed = false ∧ (Instr.restoreHead 0 0 0 256).wellFormed = false
      ∧ (Instr.queryReadStation 0 0 256).wellFormed = false ∧ (Instr.openBerth 0 0 1 256).wellFormed = false
      ∧ (Instr.forceClose 0 0 256).wellFormed = false ∧ (Instr.queryBerth 0 0 256).wellFormed = false
      ∧ (Instr.setLapLimits 0 0 1 256).wellFormed = false ∧ (Instr.setLaneCapacity 0 0 256 1).wellFormed = false
      ∧ (Instr.claimLane 0 0 256).wellFormed = false ∧ (Instr.releaseLane 0 0 256).wellFormed = false
      ∧ (Instr.reclaimLane 0 0 256).wellFormed = false ∧ (Instr.openLane 0 0 256).wellFormed = false
      ∧ (Instr.closeLane 0 0 256).wellFormed = false ∧ (Instr.setLaneFunction 0 0 0 256).wellFormed = false
      ∧ (Instr.resetLaneFault 0 0 256).wellFormed = false ∧ (Instr.setMode 0 0 256).wellFormed = false
      ∧ (Instr.attach 0 0 256).wellFormed = false ∧ (Instr.restoreLink 0 0 256).wellFormed = false
      ∧ (Instr.setLinkPermission 0 0 256 0 true).wellFormed = false := by decide

theorem test_illformed_two_bytes :
    (Instr.waitExpiry 65536).wellFormed = false ∧ (Instr.lapLimit 65536).wellFormed = false
      ∧ (Instr.noReportTimeout 65536).wellFormed = false ∧ (Instr.bagPresented 0 .S 65536).wellFormed = false
      ∧ (Instr.divertDone 0 65536).wellFormed = false ∧ (Instr.divertFailed 0 65536).wellFormed = false
      ∧ (Instr.fetch 65536).wellFormed = false ∧ (Instr.codeCabin 1 1 65536).wellFormed = false
      ∧ (Instr.remove 65536).wellFormed = false ∧ (Instr.retry 65536).wellFormed = false
      ∧ (Instr.configureLoop 0 0 65536 4).wellFormed = false ∧ (Instr.queryCarrier 0 0 65536).wellFormed = false
      ∧ (Instr.setLoadLimit 0 0 65536).wellFormed = false ∧ (Instr.loadCabin 0 0 65536 1 1).wellFormed = false
      ∧ (Instr.setCabinHold 0 0 65536 true).wellFormed = false ∧ (Instr.queryCabin 0 0 none 65536).wellFormed = false := by
  decide

theorem test_illformed_three_bytes_and_references :
    (Instr.codeTag 1 5 16777216).wellFormed = false ∧ (Instr.loadTag 0 0 16777216 1).wellFormed = false
      ∧ (Instr.moveTag 0 0 (.serial 16777216) 1).wellFormed = false
      ∧ (Instr.withdrawTag 0 0 (.index 65536)).wellFormed = false
      ∧ (Instr.releaseHoldBag 0 0 (.index 65536)).wellFormed = false
      ∧ (Instr.queryTag 0 0 (some 256) (.index 0)).wellFormed = false := by decide

theorem test_illformed_reserved_codes :
    (Instr.configureInductionPoint 0 0 0 (some 65535) true false).wellFormed = false
      ∧ (Instr.configureReadStation 0 0 0 (some 65535) 1 [] true).wellFormed = false
      ∧ (Instr.configureLane 0 0 0 (some 65535) 1).wellFormed = false
      ∧ (Instr.setDeckGroup 0 0 1 (some 255)).wellFormed = false
      ∧ (Instr.setLaneGroup 0 0 1 (some 255)).wellFormed = false ∧ (Instr.queryLane 0 0 (some 255)).wellFormed = false
      ∧ (Instr.queryDiversion 0 0 (some 255)).wellFormed = false := by decide

theorem test_illformed_characters :
    (Instr.frameReceived 0 []).wellFormed = false
      ∧ (Instr.fieldRecordBad
        ([0x5A, 0x07, 0x03, 0, 0, 0, 0, 0, 0, 0, 0, 0xF6].map cleanChar)).wellFormed = false := by decide

/-! ## Worked examples of the spec -/

/-- Table 1-3: C = 256, K = 4, P = 3, a lane diverter at offset 6. -/
theorem test_table_1_3 :
    (⟨256, 4, 3, 0, 0, 0⟩ : Loop).distance 250 6 = 253 ∧ (⟨256, 4, 3, 0, 0, 0⟩ : Loop).distance 0 6 = 3
      ∧ (⟨256, 4, 3, 0, 0, 0⟩ : Loop).distance 3 6 = 6 ∧ (⟨256, 4, 3, 0, 0, 0⟩ : Loop).distance 4 6 = 7
      ∧ (⟨256, 4, 3, 0, 0, 0⟩ : Loop).effective 0 6 = 259 ∧ (⟨256, 4, 3, 0, 0, 0⟩ : Loop).carrierAt 6 = 253
      ∧ (⟨256, 4, 4, 0, 0, 0⟩ : Loop).distance 250 6 = 252 := by decide

/-- R46's example: counts A = 4, B = 1, C = 1 are accepted at V = 4 and weak at V = 5; four against four is ambiguous. -/
theorem test_tally :
    (let answer (t : Tag) : Answer := ⟨0, some t⟩
     let six := List.replicate 4 (answer ⟨5, 1⟩) ++ [answer ⟨5, 2⟩, answer ⟨5, 3⟩]
     tally six 4 = .accepted ⟨5, 1⟩ ∧ tally six 5 = .weak ∧ tally [] 1 = .noRead
       ∧ tally (List.replicate 4 (answer ⟨5, 1⟩) ++ List.replicate 4 (answer ⟨5, 2⟩)) 2 = .ambiguous) := by decide

/-- R41's examples: heads 0 to 3, W = 8, with priority sets and suspensions. -/
theorem test_poll_orders :
    (let station (priority : List Nat) (suspended : List Nat) : Station :=
      { Station.reset with
        heads := 4
        priority := priority
        headRecords := Vector.ofFn fun h => ⟨0, suspended.contains h.val, false⟩ }
     (station [0] []).pollOrder = [0, 1, 0, 2, 0, 3, 0, 1] ∧ (station [0, 1] []).cycle = [0, 1, 2, 0, 1, 3]
       ∧ (station [0, 1] [1]).cycle = [0, 2, 0, 3] ∧ (station [0, 1] [2, 3]).cycle = [0, 1]) := by decide

/-- R164's example frame of LINK CHECK, sent and received. -/
theorem test_link_check_frame :
    (OutFrame.mk 0x2E 0x05 [] false).bytes = [0xC3, 0x03, 0x2E, 0x05, 0xCA]
      ∧ judgeFrame ([0xC3, 0x03, 0x2E, 0x05, 0xCA].map cleanChar) = .good ⟨0x2E, 0x05, []⟩
      ∧ judgeFrame ([0xC3, 0x03, 0x2E, 0x05, 0xCB].map cleanChar) = .bad := by decide

/-- R180 and Table 11-5, written out by hand: CONFIGURE LOOP with C = 300 and K = 6; MOVE TAG of index 258 to cabin 1. -/
theorem test_commands_spelled :
    decodeCommand 0 ⟨0x01, 9, [0x01, 0x2C, 0x06]⟩ = some (.configureLoop 0 9 300 6)
      ∧ decodeCommand 1 ⟨0x12, 9, [0x01, 0x00, 0x01, 0x02, 0x00, 0x01]⟩ = some (.moveTag 1 9 (.index 258) 1)
      ∧ decodeCommand 1 ⟨0x20, 9, []⟩ = none := by decide

/-- Table 11-4, written out by hand: a POLL ANSWER record of station 1, head 2, poll 7, tag 5/000258. -/
theorem test_poll_answer_record :
    judgeRecord ([0x5A, 0x04, 0x01, 0x02, 0x07, 0x05, 0x00, 0x01, 0x02, 0x00, 0x00, 0xEA].map cleanChar)
      = .good (.pollAnswer 1 2 7 5 258) := by decide

/-! ## A small site

A loop of 64 carriers at position 10 with K = 3: carrier `k` stands at distance (k + 5) mod 64 from the lane at offset
15. HALL is on link 0, BERTH-1 on link 1, BERTH-2 on link 2; link 3 is IDLE. -/

/-- A carrier with a bag of size S and candidate 5/000009. -/
def bag (state : CarrierState) (identity : Option Identity) (d : Disposition) (target : Option LaneNo) : Carrier :=
  ⟨state, none, some .S, some 0, identity, some ⟨5, 9⟩, some d, target, false, 3, 0, none⟩

/-- The carriers of the site. -/
def siteCarriers : List Carrier :=
  ((((((((((List.replicate 64 Carrier.empty).set 1 ⟨.unread, none, some .M, some 0, none, none, none, none, false, 0, 0,
    none⟩).set 2 ⟨.waiting, none, some .S, some 0, none, some ⟨5, 3⟩, none, none, false, 2, 0, none⟩).set 3
    (bag .carrying (some ⟨.one, 0⟩) .delivery (some 0))).set 4 (bag .carrying none (.stray .noRead) none)).set 8
    (bag .carrying (some ⟨.one, 6⟩) .delivery none)).set 9 (bag .carrying (some ⟨.one, 7⟩) .hold none)).set 12
    (bag .fired none (.stray .noRead) (some 3))).set 56 (bag .fired (some ⟨.one, 1⟩) .delivery (some 0))).set 59
    { bag .carrying (some ⟨.one, 2⟩) .delivery (some 0) with armed := true }).set 61
    (bag .carrying (some ⟨.one, 5⟩) .delivery (some 0))

/-- Berth 1 of the site: cabin 1 on deck 1, cabin 2 held. -/
def siteBerth : Berth where
  state := .bound 5
  cabins := [⟨1, 1, 2, 0, 0, false, [0, 1, 2, 5, 6]⟩, ⟨2, 2, 1, 0, 1, true, [3, 4, 7]⟩, ⟨3, 1, 1, 0, 0, false, [8]⟩]
  tags := [⟨0, some 10, 1, .onLoop, none⟩, ⟨1, some 11, 1, .onLoop, none⟩, ⟨2, some 12, 1, .onLoop, none⟩,
    ⟨3, some 13, 2, .inHold, none⟩, ⟨4, some 14, 2, .strayed, some 7⟩, ⟨5, some 15, 1, .onLoop, none⟩,
    ⟨6, some 16, 1, .onLoop, none⟩, ⟨7, some 17, 2, .onLoop, none⟩, ⟨8, some 18, 3, .expected, none⟩]
  deckMap := (Vector.replicate 24 none).set 0 (some 1)

/-- A lane of the site at an offset. -/
def lane (offset : Nat) (owner : Principal) (f : LaneFunction) (state : LaneState) : Lane :=
  ⟨some offset, 20, 0, 0, owner, f, none, state⟩

/-- The site. -/
def site : State :=
  { State.reset with
    loop := ⟨64, 3, 10, 0, 0, 0⟩
    carriers := ⟨siteCarriers, 10, 0⟩
    induction := ⟨((Vector.replicate 6 Point.reset).set 0 ⟨some 0, true, false, none⟩).set 1
      ⟨some 4, true, true, some ⟨.M, some 7, 39⟩⟩, 40, 40⟩
    stations := ((Vector.replicate 4 Station.reset).set 0 { Station.reset with offset := some 9, enabled := true, heads := 2 }).set 1
      { Station.reset with
        offset := some 8, enabled := true, heads := 2, polls := 2, votes := 1
        window := some ⟨2, .waiting, 2, 1, [0, 1], [⟨0, some ⟨5, 10⟩⟩], some ⟨1, 0⟩⟩ }
    berths := ⟨siteBerth, Berth.clear⟩
    router := ⟨3, 2, [⟨.one, 3, 2⟩]⟩
    lanes := (((((((State.reset.lanes.set 0 { lane 15 (.berth .one) .makeup .opened with inbound := 4, group := some 1 }).set 1
      (lane 20 .hall .makeup .closed)).set 2 (lane 25 (.berth .one) .makeup .faulted)).set 3
      { lane 30 .hall .stray .opened with inbound := 1 }).set 4 (lane 35 (.berth .one) .overflow .full)).set 5
      (lane 40 (.berth .one) .makeup .closed)).set 6 (lane 45 .hall .makeup .faulted)).set 7
      { lane 50 .hall .makeup .closed with fill := 1 }
    diverters := State.reset.diverters.set 0 ⟨[59], 8⟩
    coding := ⟨[⟨7, .noRoom, some ⟨5, 14⟩, some .one, some 4, .S, 3, 0, 9⟩], [⟨9, .readAgain, none, none, none, .S, 0, 9⟩], 10, 0,
      none⟩
    mode := .run
    links := ((State.reset.links.set 0 { Link.reset with state := .attached .hall }).set 1
      { Link.reset with state := .attached (.berth .one) }).set 2 { Link.reset with state := .attached (.berth .two) }
    orders := [.grant 0 1] }

/-- The site in another mode. -/
def siteIn (m : Mode) : State := { site with mode := m }

/-- The site with berth 1 in another state. -/
def siteBound (b : BerthState) : State := site.setBerth .one { siteBerth with state := b }

/-! ## Witnesses: a state and operands for each clause of a statement that has hypotheses -/

/-- A frame that spells QUERY POSITION. -/
def frame : CommandFrame := ⟨0x02, 1, []⟩

theorem witness_StepTakesTheFront : ({ site with pending := [.orderSent] } : State).pending = .orderSent :: [] := by
  decide

theorem witness_ProcessorServesInRotation :
    (site.pending = [] ∧ ∀ l, (site.link l).queue = [])
      ∧ (let s := site.setLink 0 { site.link 0 with queue := [frame] }
         s.pending = [] ∧ (∀ m : LinkNo, m < 0 → (s.link (s.lastServed + 1 + m)).queue = [])
           ∧ (s.link (s.lastServed + 1 + 0)).queue = frame :: [] ∧ decodeCommand (s.lastServed + 1 + 0) frame ≠ none)
      ∧ (let s := site.setLink 0 { site.link 0 with queue := [⟨0x20, 1, []⟩] }
         s.pending = [] ∧ (s.link (s.lastServed + 1 + 0)).queue = ⟨0x20, 1, []⟩ :: []
           ∧ decodeCommand (s.lastServed + 1 + 0) ⟨0x20, 1, []⟩ = none) := by decide

/-- A state that every invariant admits: a bag on its way to lane 0, which is the hall's. -/
def calm : State :=
  { State.reset with
    loop := ⟨64, 3, 10, 0, 0, 0⟩
    carriers := ⟨(List.replicate 64 Carrier.empty).set 3 (bag .carrying none (.stray .noRead) (some 0)), 1, 0⟩
    induction := ⟨Vector.replicate 6 ⟨none, false, false, none⟩, 40, 40⟩
    lanes := State.reset.lanes.set 0 { lane 15 .hall .stray .opened with inbound := 1 }
    berths := ⟨⟨.bound 5, [⟨1, 1, 1, 0, 0, false, [0]⟩], [⟨0, some 10, 1, .expected, none⟩], Vector.replicate 24 none⟩,
      Berth.clear⟩
    links := State.reset.links.set 0 { Link.reset with state := .attached .hall }
    mode := .hold }

/-- With nothing waiting, a state steps to itself: the step of every invariant's witness. -/
theorem calm_steps : step calm = .next calm := rfl

theorem witness_StepKeepsRoom : calm.roomKept := by
  refine ⟨?_, by decide +kernel, by decide +kernel, by decide +kernel⟩
  unfold State.counted
  decide +kernel

theorem witness_StepKeepsRanges : calm.settingsInRange ∧ calm.scoresInRange ∧ calm.stationsRead := by
  refine ⟨?_, ⟨by decide +kernel, by decide +kernel, ?_, by decide +kernel, by decide +kernel,
    by decide +kernel, by decide +kernel, by decide +kernel⟩, ?_⟩
  · unfold State.settingsInRange; decide +kernel
  · intro n h
    have hr : (calm.station n).headRecords = Vector.replicate 8 HeadRecord.clear := by
      revert n; decide +kernel
    simp only [Station.head, hr]
    rcases Nat.lt_or_ge h 8 with hh | hh <;> simp [hh, HeadRecord.clear]
  · unfold State.stationsRead; decide +kernel

theorem witness_StepKeepsCapacities : calm.withinCapacity ∧ calm.exchangeAgrees := by
  refine ⟨⟨by decide, ?_, by decide, by decide, by decide, by decide, ?_⟩, by unfold State.exchangeAgrees; decide⟩
  · intro p; rcases p with _ | b
    · decide
    · cases b <;> decide
  · intro b; cases b <;> decide

theorem witness_StepKeepsOwnersAndLinks : calm.ownersAgree ∧ calm.linksAgree := by
  refine ⟨⟨by decide, ?_, ?_⟩, ⟨?_, by decide, by decide, 0, by decide⟩⟩
  · intro b c h
    cases b <;> simp [calm, State.berth, Berth.clear, BerthState.ship] at h
    omega
  · intro j
    have hl : (calm.lane j).owner = .hall ∧ Principal.hall.mayChoose (calm.lane j).function = true
        ∧ (calm.lane j).group = none := by revert j; decide +kernel
    simp [hl]
  · intro p l m hl hm
    have h : ∀ l, l ≠ 0 → (calm.link l).state = .idle := by decide
    by_cases h1 : l = 0 <;> by_cases h2 : m = 0 <;> simp_all

theorem witness_StepKeepsPoints : calm.pointsAgree :=
  ⟨by decide +kernel, by decide +kernel, by decide +kernel, by decide +kernel⟩

theorem witness_StepKeepsManifests : calm.manifestsAgree := by
  intro b
  cases b
  · refine ⟨⟨by decide, by decide, by decide, by decide, ?_⟩, by decide⟩
    intro c hc
    have : c = ⟨1, 1, 1, 0, 0, false, [0]⟩ := by simpa [calm, State.berth] using hc
    subst this
    refine ⟨by decide, by decide, ?_, by decide, by decide⟩
    intro i
    simp [calm, State.berth, Berth.entriesIn, eq_comm]
  · refine ⟨⟨by decide, by decide, by decide, by decide, ?_⟩, by decide⟩
    intro c hc
    simp [calm, State.berth, Berth.clear] at hc

/-- A state in which every table agrees: carrier 3 a stray on its way to lane 0, carrier 8 WAITING, carrier 55 armed at
lane 1 with entry 1, and a stray record that names entry 2. -/
def agreed : State :=
  { calm with
    carriers := ⟨((calm.carriers.table).set 8 ⟨.waiting, none, some .S, some 0, none, some ⟨5, 3⟩, none, none, false, 0, 0,
      none⟩).set 55 ⟨.carrying, none, some .S, some 0, some ⟨.one, 1⟩, some ⟨5, 11⟩, some .delivery, some 1, true, 0, 0,
      none⟩, 3, 0⟩
    router := ⟨3, 2, [⟨.one, 3, 8⟩]⟩
    berths := ⟨⟨.bound 5, [⟨1, 1, 1, 0, 0, false, [0, 1, 2]⟩], [⟨0, some 10, 1, .expected, none⟩, ⟨1, some 11, 1, .onLoop, none⟩,
      ⟨2, some 12, 1, .strayed, some 7⟩], Vector.replicate 24 none⟩, Berth.clear⟩
    lanes := calm.lanes.set 1 { lane 20 (.berth .one) .makeup .opened with inbound := 1 }
    diverters := State.reset.diverters.set 1 ⟨[55], 0⟩
    coding := ⟨[⟨7, .noRoom, some ⟨5, 12⟩, some .one, some 2, .S, 0, 0, 9⟩], [], 8, 0, none⟩ }

theorem agreed_steps : step agreed = .next agreed := rfl

/-- Only these three carriers of `agreed` hold a bag. -/
theorem agreed_carrier (k : Nat) (h3 : k ≠ 3) (h8 : k ≠ 8) (h55 : k ≠ 55) : agreed.carrier k = Carrier.empty := by
  have ht : agreed.carriers.table = (((List.replicate 64 Carrier.empty).set 3 (agreed.carrier 3)).set 8
      (agreed.carrier 8)).set 55 (agreed.carrier 55) := by decide +kernel
  rw [State.carrier, ht, List.getD_eq_getElem?_getD, List.getElem?_set_ne (Ne.symm h55), List.getElem?_set_ne (Ne.symm h8),
    List.getElem?_set_ne (Ne.symm h3), List.getElem?_replicate]
  split <;> rfl

theorem agreed_manifests : agreed.manifestsAgree := by
  intro b
  cases b
  · refine ⟨⟨by decide, by decide, by decide, by decide, ?_⟩, by decide⟩
    intro c hc
    have : c = ⟨1, 1, 1, 0, 0, false, [0, 1, 2]⟩ := by simpa [agreed, State.berth] using hc
    subst this
    refine ⟨by decide, by decide, ?_, by decide, by decide⟩
    intro i
    simp [agreed, State.berth, Berth.entriesIn, eq_comm]
  · refine ⟨⟨by decide, by decide, by decide, by decide, ?_⟩, by decide⟩
    intro c hc
    simp [agreed, calm, State.berth, Berth.clear] at hc

theorem agreed_settings : agreed.settingsInRange ∧ agreed.scoresInRange := by
  refine ⟨by unfold State.settingsInRange; decide +kernel, by decide +kernel, by decide +kernel, ?_, by decide +kernel,
    by decide +kernel, by decide +kernel, by decide +kernel, by decide +kernel⟩
  intro n h
  have hr : (agreed.station n).headRecords = Vector.replicate 8 HeadRecord.clear := by
    revert n; decide +kernel
  simp only [Station.head, hr]
  rcases Nat.lt_or_ge h 8 with hh | hh <;> simp [hh, HeadRecord.clear]

theorem agreed_capacity : agreed.withinCapacity := by
  refine ⟨by decide, ?_, by decide, by decide, by decide, by decide, ?_⟩
  · intro p; rcases p with _ | b
    · decide
    · cases b <;> decide
  · intro b; cases b <;> decide

theorem agreed_owners : agreed.ownersAgree := by
  refine ⟨by decide, ?_, ?_⟩
  · intro b c h
    cases b <;> simp [agreed, calm, State.berth, Berth.clear, BerthState.ship] at h
    omega
  · intro j
    have hl : (j = 1 ∧ (agreed.lane j).owner = .berth .one ∨ (agreed.lane j).owner = .hall)
        ∧ (agreed.lane j).owner.mayChoose (agreed.lane j).function = true ∧ (agreed.lane j).group = none := by
      revert j; decide +kernel
    have hb : (agreed.berth .one).state.isOpen = true := by decide
    rcases hl.1 with ⟨_, h⟩ | h <;> simp_all

theorem agreed_pending : agreed.pendingAgrees := by
  refine ⟨by decide, by decide, by decide +kernel, ?_⟩
  intro k hk
  by_cases h8 : k = 8
  · exact ⟨⟨.one, 3, 8⟩, by decide, h8.symm⟩
  · by_cases h3 : k = 3
    · subst h3; exact absurd hk (by decide +kernel)
    · by_cases h55 : k = 55
      · subst h55; exact absurd hk (by decide +kernel)
      · rw [agreed_carrier k h3 h8 h55] at hk; cases hk

theorem agreed_armed : agreed.armedAgrees := by
  refine ⟨by decide +kernel, by decide +kernel, ?_, by decide⟩
  intro k j ha ht
  by_cases h55 : k = 55
  · subst h55
    have hj : some j = some (1 : LaneNo) := ht.symm.trans (by decide +kernel)
    cases hj; decide +kernel
  · by_cases h3 : k = 3
    · subst h3; exact absurd ha (by decide +kernel)
    · by_cases h8 : k = 8
      · subst h8; exact absurd ha (by decide +kernel)
      · rw [agreed_carrier k h3 h8 h55] at ha; cases ha

theorem witness_StepKeepsIdentities : agreed.tablesAgree := by
  refine ⟨by unfold State.counted; decide +kernel, agreed_settings.1, agreed_settings.2, agreed_capacity, agreed_owners,
    agreed_manifests, by unfold State.offsetsInRange; decide +kernel, ?_, ?_, agreed_pending, agreed_armed, ?_⟩
  · unfold State.carriersAgree Carrier.fieldsAgree; decide +kernel
  · refine ⟨?_, by decide +kernel⟩
    intro b; cases b <;> decide +kernel
  · refine ⟨by decide, ?_, ?_⟩
    · decide +kernel
    · intro b; cases b <;> decide +kernel

theorem witness_StepKeepsPendingAndArmed : agreed.tablesAgree := witness_StepKeepsIdentities

theorem witness_StepKeepsTickets : agreed.tablesAgree := witness_StepKeepsIdentities

theorem witness_AuthorityIsChecked :
    (Instr.queryPosition 3 1).header = some (3, 1, 0x02)
      ∧ ((site.setLink 3 { Link.reset with state := .muted }).link 3).state = .muted ∧ 0x02 ≠ 0x2E
      ∧ (site.link 3).state = .idle ∧ 0x02 ∉ openCodes
      ∧ (Instr.forceSetup 1 1).header = some (1, 1, 0x29) ∧ (site.link 1).state = .attached (.berth .one)
      ∧ 0x29 ∈ hallCodes
      ∧ (Instr.closeSailing 0 1).header = some (0, 1, 0x0D) ∧ (site.link 0).state = .attached .hall
      ∧ 0x0D ∈ berthCodes := by decide

theorem witness_EveryCommandIsAnsweredOnce :
    (Instr.queryPosition 0 1).header = some (0, 1, 0x02) ∧ (site.link 0).state ≠ .muted ∧ (1 : LinkNo) ≠ 0
      ∧ 0x02 ≠ 0x2C ∧ (okFrames 1 2 (List.replicate 56 0))[0]? = some ⟨0x80, 1, 2 :: 0 :: List.replicate 55 0, false⟩
      ∧ 0 + 1 < (okFrames 1 2 (List.replicate 56 0)).length := by decide

theorem witness_CommandsReadBack :
    (Instr.configureReadStation 0 1 3 (some 65534) 8 [7, 0] true).header = some (0, 1, 0x08)
      ∧ (Instr.configureReadStation 0 1 3 (some 65534) 8 [7, 0] true).wellFormed = true := by decide

/-- The POLL ANSWER record of `test_poll_answer_record`: its type, and its data. -/
def pollData : List Byte := [1, 2, 7, 5, 0, 1, 2, 0, 0]

theorem witness_FieldRecordsAndOrders :
    (Order.label none 39 .L .withdrawn).data.length ≤ 9 ∧ judgeRecord [] ≠ .bad
      ∧ judgeRecord (([0x5A, 0x04] : List Byte).map cleanChar ++ [⟨1, true, false⟩]) = .bad
      ∧ judgeRecord ((0x5A :: 0x04 :: (pollData ++ [checkByte (0x04 :: pollData)])).map cleanChar)
        = .good (.pollAnswer 1 2 7 5 258)
      ∧ pollData.length = 9 ∧ decodeEvent 0x04 pollData = some (.pollAnswer 1 2 7 5 258)
      ∧ ({ site with orders := [] } : State).orders = [] ∧ site.orders = .grant 0 1 :: [] := by decide

/-- A principal's record with a number of notices waiting. -/
def told (n : Nat) : PrincipalRecord := ⟨List.replicate n ⟨.homeMissed 1, 0, 0, false⟩, false, 0xFF⟩

theorem witness_TicketsAndNoticesFollowTheirCounts_notices :
    Principal.berth .one ≠ .hall
      ∧ ((site.setPrincipal .hall ⟨[], false, 0⟩).principal .hall).classes.getLsbD (NoticeBody.homeMissed 1).classBit = false
      ∧ ((site.setPrincipal .hall (told 31)).principal .hall).classes.getLsbD (NoticeBody.homeMissed 1).classBit = true
      ∧ ((site.setPrincipal .hall (told 31)).principal .hall).notices.length < 32
      ∧ ((site.setPrincipal .hall (told 32)).principal .hall).classes.getLsbD (NoticeBody.homeMissed 1).classBit = true
      ∧ 32 ≤ ((site.setPrincipal .hall (told 32)).principal .hall).notices.length := by decide

theorem witness_TicketsAndNoticesFollowTheirCounts :
    1 ≤ ({ site.coding with ticketCounter := 4095 } : Coding).ticketCounter
      ∧ ({ site.coding with ticketCounter := 4095 } : Coding).ticketCounter ≤ 4095
      ∧ site.coding.strays.length + site.coding.reinject.length ≤ 80 := by decide

theorem witness_NearestLaneByDistanceIsChosen :
    site.loop.position < site.loop.count ∧ 63 < site.loop.count
      ∧ 0 < site.loop.distance 61 15 ∧ site.loop.distance 59 15 = 0
      ∧ (siteIn .setup).mode = .setup ∧ (site.carrier 3).target ≠ none
      ∧ (site.mode = .run ∧ (site.carrier 8).state = .carrying ∧ (site.carrier 8).target = none
        ∧ (site.carrier 8).disposition = some .delivery ∧ (site.carrier 8).identity = some ⟨.one, 6⟩
        ∧ (site.carrier 8).size = some .S ∧ (site.berth .one).findEntry 6 = some ⟨6, some 16, 1, .onLoop, none⟩
        ∧ (site.berth .one).findCabin 1 = some ⟨1, 1, 2, 0, 0, false, [0, 1, 2, 5, 6]⟩
        ∧ (site.berth .one).groupOf 1 = some 1)
      ∧ ((site.lane 0).offset = some 15 ∧ (site.lane 0).owner = .berth .one ∧ (site.lane 0).function = .makeup
        ∧ (site.lane 0).group = some 1 ∧ (site.lane 0).state = .opened
        ∧ (site.lane 0).fill + (site.lane 0).inbound + 1 ≤ (site.lane 0).capacity)
      ∧ (let s := site.setLane 0 { lane 15 (.berth .one) .overflow .opened with inbound := 4 }
         (∀ j, ¬((s.lane j).function = .makeup ∧ (s.lane j).group = some 1))
           ∧ (s.lane 0).owner = .berth .one ∧ (s.lane 0).function = .overflow ∧ (s.lane 0).state = .opened
           ∧ (s.lane 0).fill + (s.lane 0).inbound + 1 ≤ (s.lane 0).capacity)
      ∧ (let s := site.setLane 0 Lane.reset
         (∀ j, ¬((s.lane j).function = .makeup ∧ (s.lane j).group = some 1))
           ∧ ∀ j, ¬((s.lane j).function = .overflow ∧ (s.lane j).state = .opened)) := by
  decide +kernel

theorem witness_NearestLaneByDistanceIsChosen_anew :
    ((site.carrier 3).state = .carrying ∧ (site.carrier 3).armed = false ∧ (site.carrier 3).target = some 0)
      ∧ (site.carrier 2).state ≠ .carrying ∧ (site.carrier 59).armed = true ∧ (site.carrier 8).target = none
      ∧ (site.carriersWith fun c => c.state == .carrying && c.armed == false && c.target == some 0) = [3, 61]
      ∧ (1 : LaneNo) ≠ 0 := by decide +kernel

theorem witness_QueriesReportTheirBlocks :
    (site.link 1).state = .attached (.berth .one) ∧ site.loop.count ≤ 64 ∧ 63 < site.loop.count ∧ 4 ≤ 4 := by decide

theorem witness_ManifestQueriesReport :
    (site.link 0).state = .attached .hall ∧ (site.link 1).state = .attached (.berth .one)
      ∧ (site.link 2).state = .attached (.berth .two) ∧ (∀ b : BerthId, b = .one ∨ b = .two → (3 : Nat) ≠ b.number)
      ∧ (site.berth .two).state = .unbound ∧ (site.berth .one).state ≠ .unbound
      ∧ isEntryRef (.index 8192) = false
      ∧ (isEntryRef (.index 8191) = true ∧ (site.berth .one).findRef (.index 8191) = none)
      ∧ (isEntryRef (.serial 10) = true ∧ (site.berth .one).findRef (.serial 10) = some ⟨0, some 10, 1, .onLoop, none⟩)
      ∧ ¬(1 ≤ 0 ∧ 0 ≤ 9999) ∧ (site.berth .one).findCabin 9999 = none
      ∧ (site.berth .one).findCabin 2 = some ⟨2, 2, 1, 0, 1, true, [3, 4, 7]⟩ := by
  refine ⟨by decide, by decide, by decide, ?_, by decide, by decide, by decide, by decide, by decide, by decide,
    by decide, by decide⟩
  intro b _; cases b <;> decide

theorem witness_QueriesReportTheirBlocks_lists_and_lanes : (site.link 2).state = .attached (.berth .two) ∧ 40 ≤ 40 := by decide

theorem witness_ConfigureLoopStoresGeometry :
    ((site.link 1).state = .attached (.berth .one) ∧ Principal.berth .one ≠ .hall)
      ∧ ((site.link 0).state = .attached .hall ∧ site.mode ≠ .setup)
      ∧ (((siteIn .setup).link 0).state = .attached .hall ∧ (siteIn .setup).mode = .setup)
      ∧ 63 < 64 ∧ 1024 < 1025 ∧ (((siteIn .setup).lane 7).offset = some 50 ∧ 50 ≤ 50)
      ∧ (∀ i d, ((siteIn .setup).point i).offset = some d → d < 64)
      ∧ (∀ n d, ((siteIn .setup).station n).offset = some d → d < 64)
      ∧ ∀ j d, ((siteIn .setup).lane j).offset = some d → d < 64 := by
  have small : ∀ o : Option Nat, (∀ n ∈ o, n < 64) → ∀ d, o = some d → d < 64 := fun o h d hd => h d (by simp [hd])
  refine ⟨by decide, by decide, by decide, by decide, by decide, by decide, fun i => small _ ?_, fun n => small _ ?_,
    fun j => small _ ?_⟩
  · revert i; decide
  · revert n; decide
  · revert j; decide +kernel

theorem witness_LimitsVotingAndHeadsAreSet :
    (site.link 0).state = .attached .hall ∧ 4 ≤ 4 ∧ (site.station 3).offset = none
      ∧ ((site.station 0).offset ≠ none ∧ (site.station 0).heads ≤ 2)
      ∧ ((site.station 0).offset ≠ none ∧ 1 < (site.station 0).heads) := by decide

theorem witness_PointsAndStationsAreConfigured :
    (site.link 0).state = .attached .hall ∧ ((siteIn .setup).link 0).state = .attached .hall
      ∧ 6 ≤ 6 ∧ site.loop.count ≤ 64 ∧ ((0 : PointNo) ≠ 1 ∧ (site.point 0).offset = some 0)
      ∧ (∀ q, q ≠ 2 → (site.point q).offset ≠ some 63) ∧ (siteIn .setup).mode = .setup ∧ (siteIn .setup).loop.count = 64
      ∧ (site.mode ≠ .setup ∧ some 63 ≠ (site.point 2).offset)
      ∧ ((site.point 1).waiting ≠ none ∧ (site.point 0).waiting = none)
      ∧ 4 ≤ 4 ∧ ((0 : StationNo) ≠ 1 ∧ (site.station 0).offset = some 9)
      ∧ (∀ n, n ≠ 2 → (site.station n).offset ≠ some 63) ∧ some 63 ≠ (site.station 2).offset
      ∧ (let s := site.setStation 1 Station.reset
         s.mode ≠ .setup ∧ (s.station 0).offset = some 9 ∧ (s.station 0).heads = 2
           ∧ ((List.range 8).filter fun h => ([] : List Nat).contains h) = (s.station 0).priority
           ∧ ∀ m, m ≠ 0 → (s.station m).enabled = false) := by decide +kernel

theorem witness_LaneIsConfiguredAndClamped :
    ((site.link 0).state = .attached .hall ∧ site.mode ≠ .setup)
      ∧ ((siteIn .setup).link 0).state = .attached .hall ∧ (siteIn .setup).mode = .setup ∧ 40 ≤ 40
      ∧ (siteIn .setup).loop.count ≤ 64 ∧ ((siteIn .setup).lane 0).state ≠ .closed
      ∧ (63 < (siteIn .setup).loop.count ∧ ((siteIn .setup).lane 1).state = .closed) := by decide

theorem witness_LaneIsConfiguredAndClamped_capacity :
    ((site.link 1).state = .attached (.berth .one) ∧ Principal.berth .one ≠ .hall)
      ∧ (site.link 0).state = .attached .hall ∧ 40 ≤ 40
      ∧ (3 < (site.lane 0).fill + (site.lane 0).inbound ∧ (site.lane 0).fill + (site.lane 0).inbound ≤ 255)
      ∧ 255 < 256 := by decide

theorem witness_BerthIsOpened :
    ((site.link 1).state = .attached (.berth .one) ∧ Principal.berth .one ≠ .hall)
      ∧ (site.link 0).state = .attached .hall ∧ (3 ≠ 1 ∧ 3 ≠ 2) ∧ ¬(1 ≤ 64 ∧ 64 ≤ 63)
      ∧ (1 ≤ 63 ∧ 63 ≤ 63) ∧ (site.berth .one).state ≠ .unbound ∧ (site.berth .two).state = .unbound
      ∧ (site.berth .one).state.ship = some 5 ∧ ∀ o, (site.berth o).state.ship ≠ some 63 := by
  refine ⟨by decide, by decide, by decide, by decide, by decide, by decide, by decide, by decide, ?_⟩
  intro o; cases o <;> decide

/-- The site with berth 1 CLOSING and none of its bags on the loop. -/
def siteReady : State :=
  { siteBound (.closing 5) with carriers := ⟨List.replicate 64 Carrier.empty, 0, 0⟩, router := ⟨3, 2, []⟩ }

theorem witness_SailingClosesAndCompletes :
    (site.link 1).state = .attached (.berth .one)
      ∧ ((site.link 2).state = .attached (.berth .two) ∧ (site.berth .two).state = .unbound)
      ∧ (((siteBound (.closing 5)).link 1).state = .attached (.berth .one)
        ∧ ((siteBound (.closing 5)).berth .one).state = .closing 5)
      ∧ ((site.berth .one).state = .bound 5 ∧ (site.carriers.table.any fun c => c.isOf .one) = true)
      ∧ (let s := siteReady.setBerth .one siteBerth
         (s.link 1).state = .attached (.berth .one) ∧ (s.berth .one).state = .bound 5
           ∧ (s.carriers.table.any fun c => c.isOf .one) = false)
      ∧ (3 ≠ 1 ∧ 3 ≠ 2) ∧ (site.berth .one).state.isClosing ≠ true
      ∧ (siteReady.berth .one).state.isClosing = true ∧ (∀ c ∈ siteReady.carriers.table, c.isOf .one = false)
      ∧ ∀ r ∈ siteReady.router.pendingTags, r.berth ≠ .one := by decide +kernel

theorem witness_ForceCloseClearsBerth :
    (site.link 0).state = .attached .hall ∧ (3 ≠ 1 ∧ 3 ≠ 2) ∧ (site.berth .two).state = .unbound
      ∧ (site.berth .one).state ≠ .unbound
      ∧ (2 ∈ site.pendingCarriers .one ∧ (site.carrier 2).isOf .one = false)
      ∧ (3 ∉ site.pendingCarriers .one ∧ (site.carrier 3).isOf .one = true ∧ (site.carrier 3).isReachable = true)
      ∧ (59 ∉ site.pendingCarriers .one ∧ (site.carrier 59).isOf .one = true ∧ (site.carrier 59).isReachable = false)
      ∧ (4 ∉ site.pendingCarriers .one ∧ (site.carrier 4).isOf .one = false) := by decide +kernel

theorem witness_CabinIsLoadedAndHeld :
    ((site.link 2).state = .attached (.berth .two) ∧ (site.berth .two).state = .unbound)
      ∧ (site.link 1).state = .attached (.berth .one) ∧ (site.berth .one).state ≠ .unbound
      ∧ ¬(1 ≤ 10000 ∧ 10000 ≤ 9999 ∧ 1 ≤ 25 ∧ 25 ≤ 24) ∧ (1 ≤ 9999 ∧ 9999 ≤ 9999 ∧ 1 ≤ 24 ∧ 24 ≤ 24)
      ∧ (site.berth .one).findCabin 9999 = none ∧ (site.berth .one).cabins.length < 3072
      ∧ (let s := site.setBerth .one { siteBerth with cabins := List.replicate 3072 ⟨1, 1, 1, 0, 0, false, []⟩ }
         (s.link 1).state = .attached (.berth .one) ∧ (s.berth .one).state ≠ .unbound
           ∧ (s.berth .one).findCabin 9999 = none ∧ 3072 ≤ (s.berth .one).cabins.length)
      ∧ (site.berth .one).findCabin 1 = some ⟨1, 1, 2, 0, 0, false, [0, 1, 2, 5, 6]⟩ ∧ 1 ≠ 24
      ∧ ¬(1 ≤ 0 ∧ 0 ≤ 9999) ∧ false ≠ true := by decide +kernel

/-- The site with cabin 3's list full. -/
def siteFull : State :=
  site.setBerth .one { siteBerth with cabins := siteBerth.cabins.take 2 ++ [⟨3, 1, 1, 0, 0, false, List.range 15⟩] }

theorem witness_TagIsLoaded :
    ((site.link 2).state = .attached (.berth .two) ∧ (site.berth .two).state = .unbound)
      ∧ (site.link 1).state = .attached (.berth .one) ∧ (site.berth .one).state ≠ .unbound
      ∧ ¬(1000000 ≤ 999999 ∧ 1 ≤ 1 ∧ 1 ≤ 9999) ∧ (999999 ≤ 999999 ∧ 1 ≤ 3 ∧ 3 ≤ 9999)
      ∧ (site.berth .one).findCabin 9999 = none
      ∧ (site.berth .one).findCabin 3 = some ⟨3, 1, 1, 0, 0, false, [8]⟩
      ∧ (site.berth .one).findSerial 10 ≠ none ∧ (site.berth .one).findSerial 999999 = none
      ∧ ((siteFull.link 1).state = .attached (.berth .one) ∧ (siteFull.berth .one).state ≠ .unbound
        ∧ (siteFull.berth .one).findCabin 3 = some ⟨3, 1, 1, 0, 0, false, List.range 15⟩
        ∧ (siteFull.berth .one).findSerial 999999 = none ∧ 15 ≤ (List.range 15).length)
      ∧ (site.berth .one).tags.length < 8192
      ∧ ((∀ e ∈ (site.berth .one).tags, e.index ≠ 9) ∧ ∀ m, m < 9 → ∃ e ∈ (site.berth .one).tags, e.index = m)
      ∧ (site.router.pendingTags.find? fun t => t.berth == .one && t.serial == 999999) = none
      ∧ (site.berth .one).findSerial 3 = none
      ∧ (site.router.pendingTags.find? fun t => t.berth == .one && t.serial == 3) = some ⟨.one, 3, 2⟩
      ∧ (⟨.one, 3, 2⟩ : PendingTag).carrier < site.carriers.table.length := by decide +kernel

theorem witness_EntriesAreMovedAndReleased :
    ((site.link 2).state = .attached (.berth .two) ∧ (site.berth .two).state = .unbound)
      ∧ (site.link 1).state = .attached (.berth .one) ∧ (site.berth .one).state ≠ .unbound
      ∧ ¬(isEntryRef (.serial 1000000) = true ∧ 1 ≤ 1 ∧ 1 ≤ 9999) ∧ isEntryRef (.index 8192) = false
      ∧ (isEntryRef (.index 8191) = true ∧ 1 ≤ 9999 ∧ 9999 ≤ 9999)
      ∧ (site.berth .one).findRef (.index 8191) = none ∧ (site.berth .one).findCabin 9999 = none
      ∧ (isEntryRef (.index 0) = true ∧ (site.berth .one).findRef (.index 0) = some ⟨0, some 10, 1, .onLoop, none⟩)
      ∧ (site.berth .one).findCabin 1 = some ⟨1, 1, 2, 0, 0, false, [0, 1, 2, 5, 6]⟩
      ∧ ((site.berth .one).findCabin 2 = some ⟨2, 2, 1, 0, 1, true, [3, 4, 7]⟩ ∧ 1 ≠ 2)
      ∧ ((siteFull.link 1).state = .attached (.berth .one) ∧ (siteFull.berth .one).state ≠ .unbound
        ∧ (siteFull.berth .one).findRef (.index 0) = some ⟨0, some 10, 1, .onLoop, none⟩
        ∧ (siteFull.berth .one).findCabin 3 = some ⟨3, 1, 1, 0, 0, false, List.range 15⟩)
      ∧ ((site.berth .one).findEntry 0 = some ⟨0, some 10, 1, .onLoop, none⟩
        ∧ 3 ∈ site.reached .one (fun y => y.index == 0) ∧ 4 ∉ site.reached .one (fun y => y.index == 0)
        ∧ (site.carrier 3).disposition ≠ some .hold
        ∧ (site.berth .one).findCabin 3 = some ⟨3, 1, 1, 0, 0, false, [8]⟩ ∧ (site.carrier 3).disposition = some .delivery)
      ∧ (isEntryRef (.index 3) = true ∧ (site.berth .one).findRef (.index 3) = some ⟨3, some 13, 2, .inHold, none⟩
        ∧ (site.berth .one).findEntry 3 = some ⟨3, some 13, 2, .inHold, none⟩) := by decide +kernel

theorem witness_TagIsWithdrawn :
    ((site.link 2).state = .attached (.berth .two) ∧ (site.berth .two).state = .unbound)
      ∧ (site.link 1).state = .attached (.berth .one) ∧ (site.berth .one).state ≠ .unbound
      ∧ isEntryRef (.index 8192) = false
      ∧ (isEntryRef (.index 8191) = true ∧ (site.berth .one).findRef (.index 8191) = none)
      ∧ (isEntryRef (.index 8) = true ∧ (site.berth .one).findRef (.index 8) = some ⟨8, some 18, 3, .expected, none⟩)
      ∧ (site.berth .one).findRef (.index 4) = some ⟨4, some 14, 2, .strayed, some 7⟩
      ∧ (site.berth .one).findRef (.index 0) = some ⟨0, some 10, 1, .onLoop, none⟩
      ∧ ((site.carriersWith fun c => c.identity == some ⟨.one, 0⟩).head? = some 3 ∧ (site.carrier 3).isReachable = true)
      ∧ ((site.berth .one).findRef (.index 2) = some ⟨2, some 12, 1, .onLoop, none⟩
        ∧ (site.carriersWith fun c => c.identity == some ⟨.one, 2⟩).head? = some 59
        ∧ (site.carrier 59).isReachable = false)
      ∧ (site.berth .one).state.isClosing ≠ true := by decide +kernel

/-- A carrier other than the one whose record is stored in an empty table is of no berth. -/
theorem isOf_only (s : State) (k m : Nat) (c : Carrier) (b : BerthId) (h : m ≠ k)
    (ht : s.carriers.table = (List.replicate 64 Carrier.empty).set k c) : (s.carrier m).isOf b = false := by
  have : s.carrier m = Carrier.empty := by
    simp only [State.carrier, ht, List.getD_eq_getElem?_getD]
    rw [List.getElem?_set_ne (Ne.symm h), List.getElem?_replicate]
    split <;> rfl
  simp [this, Carrier.isOf, Carrier.empty]

/-- The site with berth 1 CLOSING and one bag of it left, carrier 8's. -/
def siteLast : State :=
  { siteReady with
    carriers := ⟨(List.replicate 64 Carrier.empty).set 8 (bag .carrying (some ⟨.one, 6⟩) .delivery none), 1, 0⟩ }

theorem witness_last_bag_of_a_closing_berth :
    (siteLast.link 1).state = .attached (.berth .one) ∧ (siteLast.berth .one).state.isClosing = true
      ∧ (siteLast.berth .one).findRef (.index 6) = some ⟨6, some 16, 1, .onLoop, none⟩
      ∧ (siteLast.carriersWith fun c => c.identity == some ⟨.one, 6⟩).head? = some 8
      ∧ siteLast.entryOf ⟨.one, 6⟩ = some ⟨6, some 16, 1, .onLoop, none⟩
      ∧ (siteLast.mode = .run ∧ (siteLast.carrier 8).state = .carrying ∧ (siteLast.carrier 8).target = none
        ∧ siteLast.router.lapLimit ≤ (siteLast.carrier 8).laps ∧ (siteLast.carrier 8).disposition = some .delivery
        ∧ (siteLast.carrier 8).identity = some ⟨.one, 6⟩)
      ∧ (∀ m, m ≠ 8 → (siteLast.carrier m).isOf .one = false) ∧ ∀ t ∈ siteLast.router.pendingTags, t.berth ≠ .one := by
  refine ⟨by decide, by decide, by decide, by decide +kernel, by decide, by decide +kernel, ?_, by decide⟩
  exact fun m h => isOf_only siteLast 8 m _ .one h rfl

theorem witness_DeckGroupIsSet :
    ((site.link 2).state = .attached (.berth .two) ∧ (site.berth .two).state = .unbound)
      ∧ (site.link 1).state = .attached (.berth .one) ∧ (site.berth .one).state ≠ .unbound
      ∧ ¬(1 ≤ 25 ∧ 25 ≤ 24) ∧ (1 ≤ 24 ∧ 24 ≤ 24) ∧ (∀ g, some 15 = some g → g ≤ 15) ∧ ¬(∀ g, some 16 = some g → g ≤ 15)
      ∧ (site.berth .one).groupOf 1 = some 1 ∧ (site.berth .one).groupOf 24 ≠ some 15 := by
  refine ⟨by decide, by decide, by decide, by decide, by decide, ?_, ?_, by decide, by decide⟩
  · intro g h; cases h; decide
  · intro h; exact absurd (h 16 rfl) (by decide)

theorem witness_LaneIsClaimed :
    (site.link 0).state = .attached .hall
      ∧ ((site.link 2).state = .attached (.berth .two) ∧ (site.berth .two).state = .unbound)
      ∧ (site.link 1).state = .attached (.berth .one) ∧ (site.berth .one).state ≠ .unbound ∧ 40 ≤ 40
      ∧ (site.lane 39).offset = none ∧ ((site.lane 0).offset ≠ none ∧ (site.lane 0).owner ≠ .hall)
      ∧ ((site.lane 3).offset ≠ none ∧ (site.lane 3).function = .stray)
      ∧ ((site.lane 6).offset ≠ none ∧ (site.lane 6).owner = .hall ∧ (site.lane 6).function ≠ .stray
        ∧ (site.lane 6).state = .faulted)
      ∧ (let x := (site.setLane 6 (lane 45 .hall .makeup .full)).lane 6
         x.offset ≠ none ∧ x.owner = .hall ∧ x.function ≠ .stray ∧ x.state = .full)
      ∧ ((site.lane 7).offset ≠ none ∧ (site.lane 7).owner = .hall ∧ (site.lane 7).function ≠ .stray
        ∧ (site.lane 7).state = .closed ∧ (site.lane 7).fill ≠ 0)
      ∧ ((site.lane 1).offset ≠ none ∧ (site.lane 1).owner = .hall ∧ (site.lane 1).function ≠ .stray
        ∧ (site.lane 1).state = .closed ∧ (site.lane 1).fill = 0 ∧ (site.lane 1).inbound = 0) := by decide

theorem witness_LaneIsHandedBack :
    Principal.hall = .hall ∧ Principal.berth .one = .berth .one ∧ (site.link 0).state = .attached .hall ∧ (site.link 1).state = .attached (.berth .one) ∧ 40 ≤ 40
      ∧ (site.lane 39).owner ≠ .berth .one ∧ (site.lane 39).owner = .hall ∧ (site.lane 0).owner = .berth .one := by decide

theorem witness_LanesChangeState :
    (site.link 0).state = .attached .hall ∧ (site.link 1).state = .attached (.berth .one) ∧ 40 ≤ 40
      ∧ (site.lane 39).owner ≠ .berth .one ∧ ((site.lane 39).owner = .hall ∧ (site.lane 39).offset = none)
      ∧ ((site.lane 5).owner = .berth .one ∧ (site.lane 5).offset ≠ none ∧ (site.lane 5).state = .closed)
      ∧ ((site.lane 0).owner = .berth .one ∧ (site.lane 0).offset ≠ none ∧ (site.lane 0).state = .opened)
      ∧ ((site.lane 4).owner = .berth .one ∧ (site.lane 4).offset ≠ none ∧ (site.lane 4).state = .full)
      ∧ ((site.lane 2).owner = .berth .one ∧ (site.lane 2).offset ≠ none ∧ (site.lane 2).state = .faulted) := by decide

theorem witness_LaneFunctionAndGroupAreSet :
    (site.link 0).state = .attached .hall ∧ Principal.hall = .hall ∧ (site.link 1).state = .attached (.berth .one) ∧ 40 ≤ 40
      ∧ Principal.berth .one ≠ .hall ∧ (site.lane 39).owner ≠ .berth .one ∧ (site.lane 0).owner = .berth .one ∧ 4 ≤ 4
      ∧ (¬((Principal.berth .one = .hall ∧ (LaneFunction.stray = .makeup ∨ LaneFunction.stray = .stray))
        ∨ (Principal.berth .one ≠ .hall ∧ LaneFunction.stray ≠ .stray)))
      ∧ (site.lane 0).function = .makeup ∧ (site.lane 0).function ≠ .overflow
      ∧ ((site.lane 1).owner = .hall ∧ (site.lane 1).function ≠ .stray)
      ∧ ((site.lane 4).owner = .berth .one ∧ (site.lane 4).function ≠ .makeup)
      ∧ (site.lane 0).group = some 1 ∧ (site.lane 0).group ≠ some 15
      ∧ (∀ g, some 15 = some g → g ≤ 15) ∧ ¬∀ g, some 16 = some g → g ≤ 15 := by
  refine ⟨by decide, rfl, by decide, by decide, by decide, by decide, by decide, by decide, by decide, by decide, by decide,
    by decide, by decide, by decide, by decide, ?_, ?_⟩
  · intro g h; cases h; decide
  · intro h; exact absurd (h 16 rfl) (by decide)

theorem witness_ModeIsSet :
    (site.link 0).state = .attached .hall ∧ 3 ≤ 3 ∧ (siteIn .setup).mode = .setup
      ∧ (let s := { siteIn .setup with stations := State.reset.stations }
         (s.link 0).state = .attached .hall ∧ s.mode = .setup ∧ ∀ m, (s.station m).enabled = false)
      ∧ (((siteIn .setup).station 0).enabled = true ∧ ((siteIn .setup).station 0).offset ≠ none)
      ∧ (∀ i, ∀ d ∈ ((siteIn .setup).point i).offset, d < (siteIn .setup).loop.count)
      ∧ (∀ m, ∀ d ∈ ((siteIn .setup).station m).offset, d < (siteIn .setup).loop.count)
      ∧ (∀ j, ∀ d ∈ ((siteIn .setup).lane j).offset, d < (siteIn .setup).loop.count)
      ∧ site.mode = .run ∧ (siteIn .hold).mode = .hold ∧ (siteIn .draining).mode = .draining
      ∧ (siteIn .halted).mode = .halted ∧ site.carriers.loaded ≠ 0
      ∧ ((siteReady.link 0).state = .attached .hall ∧ siteReady.mode = .run ∧ siteReady.carriers.loaded = 0) := by
  decide +kernel

theorem witness_DrainsCompleteAndHaltsEnd :
    (let s : State := { siteReady with mode := .draining }
     s.mode = .draining ∧ s.carriers.loaded = 0)
      ∧ site.mode ≠ .draining ∧ (siteIn .draining).carriers.loaded ≠ 0
      ∧ (let s : State := { siteLast with mode := .halted }
         (s.link 0).state = .attached .hall ∧ s.mode = .halted ∧ (s.berth .one).state.isClosing = true
           ∧ s.leftByLoss .one = true ∧ s.leftByLoss .two = false) := by decide +kernel

theorem witness_ForceSetupEmptiesTheLoop :
    (site.link 0).state = .attached .hall ∧ (site.berth .one).state.isClosing = false
      ∧ ((siteBound (.closing 5)).link 0).state = .attached .hall
      ∧ ((siteBound (.closing 5)).berth .one).state.isClosing = true := by decide

theorem witness_SortIsCleared :
    (site.link 0).state = .attached .hall ∧ site.mode ≠ .setup ∧ ((siteIn .setup).link 0).state = .attached .hall
      ∧ (siteIn .setup).mode = .setup := by decide

theorem witness_LinksAttachAndAreChecked :
    (site.link 3).state ≠ .muted ∧ 3 ≤ 3
      ∧ (let s := site.setLink 3 { Link.reset with allowed := ⟨true, false, true⟩ }
         (s.link 3).state ≠ .muted ∧ (s.link 3).allowed.allows (.berth .one) = false)
      ∧ ((site.link 1).state = .attached (.berth .one) ∧ (site.link 1).allowed.allows .hall = true
        ∧ Principal.berth .one ≠ .hall)
      ∧ (site.link 1).allowed.allows (.berth .one) = true
      ∧ (site.link 3).state = .idle ∧ (site.link 3).allowed.allows (.berth .one) = true
      ∧ (∀ o, (site.link o).state = .attached (.berth .one) ↔ o = 1)
      ∧ (let s := site.setLink 1 Link.reset
         (s.link 3).state = .idle ∧ ∀ o, (s.link o).state ≠ .attached (.berth .one)) := by decide

/-- The site with link 3 MUTED after a number of LINK CHECKs. -/
def siteMuted (checks : Nat) : State :=
  site.setLink 3 { Link.reset with state := .muted, errorCount := 130, checkCount := checks }

theorem witness_LinksAttachAndAreChecked_checks :
    (site.link 3).state ≠ .muted ∧ ((siteMuted 14).link 3).state = .muted ∧ ((siteMuted 14).link 3).checkCount < 15
      ∧ ((siteMuted 15).link 3).state = .muted ∧ 15 ≤ ((siteMuted 15).link 3).checkCount
      ∧ (site.link 0).state = .attached .hall ∧ 4 ≤ 4 ∧ 3 ≤ 3 ∧ ((siteMuted 0).link 0).state = .attached .hall
      ∧ (let s := ((site.setLink 1 { Link.reset with allowed := ⟨false, true, true⟩ }).setLink 2
            { Link.reset with allowed := ⟨false, true, true⟩ }).setLink 3
            { Link.reset with allowed := ⟨false, true, true⟩ }
         (s.link 0).state = .attached .hall ∧ ∀ o, o ≠ 0 → (s.link o).allowed.hall = false)
      ∧ (1 : LinkNo) ≠ 0 ∧ (site.link 1).allowed.hall = true ∧ (site.link 1).state = .attached (.berth .one) := by decide

theorem witness_FramesAreTaken :
    judgeFrame [] = .incomplete ∧ judgeFrame ([0xC3, 2].map cleanChar ++ [⟨0, true, false⟩]) = .bad
      ∧ ((siteMuted 3).link 3).state = .muted
      ∧ (let s := site.setLink 3 { Link.reset with errorCount := 119 }
         (s.link 3).state ≠ .muted ∧ min 255 ((s.link 3).errorCount + 8) < 128)
      ∧ (let s := site.setLink 3 { Link.reset with errorCount := 120 }
         (s.link 3).state ≠ .muted ∧ 128 ≤ min 255 ((s.link 3).errorCount + 8))
      ∧ judgeFrame ((OutFrame.mk 0x2E 0x05 [] false).bytes.map cleanChar) = .good ⟨0x2E, 0x05, []⟩
      ∧ (judgeFrame ((OutFrame.mk 0x02 1 [] false).bytes.map cleanChar) = .good frame ∧ frame.kind ≠ 0x2E)
      ∧ (let s := site.setLink 3 { Link.reset with queue := List.replicate 3 frame }
         (s.link 3).state ≠ .muted ∧ (s.link 3).queue.length < 4)
      ∧ (let s := site.setLink 3 { Link.reset with queue := List.replicate 4 frame }
         (s.link 3).state ≠ .muted ∧ 4 ≤ (s.link 3).queue.length) := by decide

/-- The second part of a reply. -/
def part : OutFrame := ⟨0x80, 1, [0x25, 0x81], true⟩

theorem witness_LinesBreakAndSend :
    (site.link 1).state = .attached (.berth .one) ∧ (site.link 3).state = .idle ∧ ((siteMuted 3).link 3).state = .muted
      ∧ (site.principal (.berth .one)).notices = []
      ∧ (let s := (site.setPrincipal (.berth .one) (told 1)).setLink 1
            { site.link 1 with replies := [part], busyReplies := [part] }
         (s.link 1).state = .attached (.berth .one) ∧ (∃ f ∈ (s.link 1).replies.head?, f.later = true) ∧ (s.link 1).replies = part :: [])
      ∧ (let s := (site.setPrincipal (.berth .one) (told 1)).setLink 1 { site.link 1 with busyReplies := [part] }
         (s.link 1).state = .attached (.berth .one)
           ∧ (s.principal (.berth .one)).notices = ⟨.homeMissed 1, 0, 0, false⟩ :: [] ∧ (s.link 1).replies = []
           ∧ (s.link 1).busyReplies = part :: []) := by decide

/-- The site at the last position before home, in SETUP and with nothing to do. -/
def siteQuiet (position : Nat) : State :=
  { State.reset with loop := ⟨64, 3, position, 0, 0, 255⟩, carriers := ⟨List.replicate 64 Carrier.empty, 0, 0⟩ }

theorem witness_AdvanceRunsEveryBlock :
    ((siteQuiet 63).mode = .setup ∧ (∀ i, ((siteQuiet 63).point i).waiting = none)
      ∧ (∀ n, ((siteQuiet 63).station n).window = none) ∧ (∀ c ∈ (siteQuiet 63).carriers.table, c.state = .empty)
      ∧ (∀ j, ((siteQuiet 63).diverter j).queue = []) ∧ ((siteQuiet 63).loop.position + 1) % (siteQuiet 63).loop.count = 0)
      ∧ ((siteQuiet 62).mode = .setup ∧ (∀ i, ((siteQuiet 62).point i).waiting = none)
        ∧ (∀ n, ((siteQuiet 62).station n).window = none) ∧ (∀ c ∈ (siteQuiet 62).carriers.table, c.state = .empty)
        ∧ (∀ j, ((siteQuiet 62).diverter j).queue = [])
        ∧ ((siteQuiet 62).loop.position + 1) % (siteQuiet 62).loop.count ≠ 0) := by decide +kernel

theorem witness_SlipLosesTrack :
    (site.loop.position + 1) % site.loop.count ≠ 0 ∧ ¬0 < site.carriers.unverified
      ∧ (let s : State := { site with carriers := { site.carriers with unverified := 1 } }
         0 < s.carriers.unverified ∧ s.mode = .run)
      ∧ (let s : State := { siteIn .hold with carriers := { site.carriers with unverified := 1 } }
         0 < s.carriers.unverified ∧ s.mode = .hold)
      ∧ siteLast.leftByLoss .one = true ∧ siteLast.leftByLoss .two = false
      ∧ site.leftByLoss .one = false
      ∧ (∀ e ∈ (site.berth .one).tags,
        (site.carriers.table.any fun c => c.losesIdentity && c.identity == some ⟨.one, e.index⟩) = true →
          e.state ≠ .delivered ∧ e.state ≠ .inHold)
      ∧ (∃ e ∈ (site.berth .one).tags,
        (site.carriers.table.any fun c => c.losesIdentity && c.identity == some ⟨.one, e.index⟩) = true) := by
  decide +kernel

theorem site_berths_open (b : BerthId) : (site.berth b).state.isClosing = false := by cases b <;> decide

/-- The site after more advances, so that an EMPTY carrier stands at point 1. -/
def atPoint (position : Nat) : Granting := ⟨{ site with loop := ⟨64, 3, position, 0, 0, 0⟩ }, [], []⟩

/-- The same with a bag without a ticket waiting. -/
def atPointPlain (position : Nat) : Granting :=
  ⟨(atPoint position).state.setPoint 1 ⟨some 4, true, true, some ⟨.M, none, 39⟩⟩, [], []⟩

theorem witness_PointsGrantOrWait :
    ((atPoint 10).state.point 0).waiting = none
      ∧ (((atPointPlain 10).state.point 1).enabled = true ∧ ((atPointPlain 10).state.point 1).offset = some 4
        ∧ ((atPointPlain 10).state.point 1).waiting = some ⟨.M, none, 39⟩)
      ∧ (let s := (atPointPlain 10).state
         s.loop.carrierAt 4 < s.carriers.table.length ∧ s.mode = .run ∧ s.carriers.loaded < s.induction.loadLimit
           ∧ (s.carrier (s.loop.carrierAt 4)).state = .empty ∧ (s.carrier (s.loop.carrierAt 4)).reservation = none)
      ∧ (let s := (atPointPlain 12).state
         (s.carrier (s.loop.carrierAt 4)).state ≠ .empty ∧ s.loop.carrierAt 4 < s.carriers.table.length
           ∧ s.induction.starveLimit ≤ min 255 (39 + 1) ∧ (∀ c ∈ s.carriers.table, c.reservation ≠ some 1)
           ∧ (10 < s.carriers.table.length ∧ (s.carrier 10).state = .empty ∧ (s.carrier 10).reservation = none
             ∧ 0 < s.loop.distance 10 4)) := by decide +kernel

/-- The site with the reinject record of ticket 7 as its only one. -/
def reinjecting (r : ReinjectRecord) : Granting :=
  ⟨{ (atPoint 10).state with coding := { site.coding with reinject := [r] } }, [], []⟩

theorem witness_TicketedBagsAreGranted :
    (let s := (atPoint 10).state
     (s.point 1).enabled = true ∧ (s.point 1).offset = some 4 ∧ (s.point 1).waiting = some ⟨.M, some 7, 39⟩
       ∧ (s.point 1).mark = true ∧ s.loop.carrierAt 4 < s.carriers.table.length
       ∧ s.grants 1 (s.loop.carrierAt 4) = true ∧ s.coding.reinject.find? (fun r => r.ticket == 7) = none)
      ∧ (let s := (reinjecting ⟨7, .readAgain, none, none, none, .M, 0, 9⟩).state
         (s.point 1).waiting = some ⟨.M, some 7, 39⟩ ∧ s.grants 1 (s.loop.carrierAt 4) = true
           ∧ s.coding.reinject.find? (fun r => r.ticket == 7) = some ⟨7, .readAgain, none, none, none, .M, 0, 9⟩)
      ∧ (let s := (reinjecting ⟨7, .coded, some .one, some 4, none, .M, 0, 9⟩).state
         (s.point 1).waiting = some ⟨.M, some 7, 39⟩ ∧ s.grants 1 (s.loop.carrierAt 4) = true
           ∧ s.coding.reinject.find? (fun r => r.ticket == 7) = some ⟨7, .coded, some .one, some 4, none, .M, 0, 9⟩
           ∧ (s.berth .one).findEntry 4 = some ⟨4, some 14, 2, .strayed, some 7⟩
           ∧ (s.berth .one).findCabin 2 = some ⟨2, 2, 1, 0, 1, true, [3, 4, 7]⟩
           ∧ (s.berth .one).state.isBound = true)
      ∧ (let s := (reinjecting ⟨7, .coded, some .one, some 8191, none, .M, 0, 9⟩).state
         s.grants 1 (s.loop.carrierAt 4) = true
           ∧ s.coding.reinject.find? (fun r => r.ticket == 7) = some ⟨7, .coded, some .one, some 8191, none, .M, 0, 9⟩
           ∧ (s.berth .one).findEntry 8191 = none) := by decide +kernel

theorem witness_CarriersAreArmedAndFired :
    (siteIn .hold).mode = .hold
      ∧ ((site.carrier 61).state = .carrying ∧ (site.carrier 61).target = some 0 ∧ (site.carrier 61).armed = false
        ∧ (site.lane 0).offset = some 15 ∧ site.loop.distance 61 15 = site.loop.commit - 1)
      ∧ ((site.carrier 59).target = some 0 ∧ (site.carrier 59).armed = true)
      ∧ ((site.carrier 3).target = some 0 ∧ site.loop.distance 3 15 ≠ site.loop.commit - 1)
      ∧ (site.diverter 1).queue = []
      ∧ ((site.diverter 0).queue = 59 :: [] ∧ site.loop.distance 59 15 = 0)
      ∧ (let s := site.setDiverter 0 ⟨[60], 0⟩
         (s.diverter 0).queue = 60 :: [] ∧ (s.lane 0).offset = some 15 ∧ s.loop.distance 60 15 ≠ 0) := by decide +kernel

theorem witness_CarriersAreArmedAndFired_at_an_advance :
    site.mode = .run ∧ ∀ j, ∀ k ∈ (site.diverter j).queue, (site.carrier k).state = .carrying
      ∧ (site.carrier k).target = some j := by decide +kernel

theorem witness_BagsArePresentedAndWithdrawn :
    6 ≤ 6 ∧ ¬((site.point 5).enabled = true ∧ (site.point 5).offset ≠ none)
      ∧ ((site.point 0).enabled = true ∧ (site.point 0).offset ≠ none ∧ (site.point 0).waiting = none)
      ∧ bagSizeOf .L = some .L
      ∧ ((site.point 1).enabled = true ∧ (site.point 1).offset ≠ none ∧ (site.point 1).waiting ≠ none)
      ∧ (site.point 0).waiting = none := by decide

/-- The site with another set of answers in hand at station 1, and an UNREAD carrier there. -/
def reading (votes : Nat) (answers : List Answer) : State :=
  site.setStation 1 { site.station 1 with window := some ⟨1, .unread, 2, votes, [0, 1], answers, some ⟨1, 0⟩⟩ }

theorem witness_PollAnswersAreTakenAndScored :
    4 ≤ 4 ∧ (site.station 0).window = none
      ∧ (let w : Window := ⟨1, .unread, 2, 1, [0, 1], [], some ⟨1, 0⟩⟩
         ((reading 1 []).station 1).window = some w ∧ w.outstanding ≠ some ⟨1, 1⟩ ∧ w.outstanding = some ⟨1, 0⟩
           ∧ 0 + 1 < w.polls ∧ ((reading 1 []).carrier w.carrier).state = .unread)
      ∧ (let w : Window := ⟨1, .unread, 2, 2, [0, 1], [⟨0, none⟩], some ⟨1, 0⟩⟩
         ((reading 2 [⟨0, none⟩]).station 1).window = some w ∧ w.polls ≤ 1 + 1
           ∧ tally (w.answers ++ [⟨1, none⟩]) w.votes = .noRead ∧ tally (w.answers ++ [⟨1, some ⟨5, 10⟩⟩]) w.votes = .weak)
      ∧ (let w : Window := ⟨1, .unread, 2, 1, [0, 1], [⟨0, some ⟨5, 10⟩⟩], some ⟨1, 0⟩⟩
         ((reading 1 [⟨0, some ⟨5, 10⟩⟩]).station 1).window = some w
           ∧ tally (w.answers ++ [⟨1, some ⟨5, 11⟩⟩]) w.votes = .ambiguous
           ∧ tally (w.answers ++ [⟨1, some ⟨5, 10⟩⟩]) w.votes = .accepted ⟨5, 10⟩)
      ∧ ((site.station 1).window = some ⟨2, .waiting, 2, 1, [0, 1], [⟨0, some ⟨5, 10⟩⟩], some ⟨1, 0⟩⟩
        ∧ ¬((site.carrier 2).state = .unread ∨ (site.carrier 2).state = .unverified)
        ∧ tally ([⟨0, some ⟨5, 10⟩⟩] ++ [⟨1, some ⟨5, 10⟩⟩]) 1 = .accepted ⟨5, 10⟩)
      ∧ (⟨5, 11⟩ : Tag) ≠ ⟨5, 10⟩
      ∧ (let heads (a b : HeadRecord) := (site.setStation 1 { site.station 1 with
            headRecords := ((Vector.replicate 8 HeadRecord.clear).set 0 a).set 1 b })
         (((heads ⟨128, true, false⟩ .clear).station 1).head 0).suspended = true
           ∧ (let y := ((heads ⟨127, false, false⟩ .clear).station 1).head 0
              y.suspended = false ∧ y.score < 128)
           ∧ (let y := ((heads ⟨128, false, false⟩ .clear).station 1).head 0
              y.suspended = false ∧ 128 ≤ y.score ∧ (1 : Nat) ≠ 0
                ∧ (((heads ⟨128, false, false⟩ .clear).station 1).head 1).suspended = false)
           ∧ (let x := (heads ⟨128, false, true⟩ ⟨128, true, false⟩).station 1
              x.heads = 2 ∧ (x.head 0).suspended = false ∧ 128 ≤ (x.head 0).score ∧ (x.head 1).suspended = true
                ∧ (x.head 0).degraded = true)
           ∧ (let x := (heads ⟨128, false, false⟩ ⟨128, true, false⟩).station 1
              x.heads = 2 ∧ (x.head 0).suspended = false ∧ 128 ≤ (x.head 0).score ∧ (x.head 1).suspended = true
                ∧ (x.head 0).degraded = false)) := by decide

theorem witness_WindowsCloseAndOpen :
    tally [⟨0, some ⟨5, 10⟩⟩] 1 = .accepted ⟨5, 10⟩ ∧ tally [] 1 = .noRead ∧ tally [⟨0, some ⟨5, 10⟩⟩] 2 = .weak
      ∧ tally [⟨0, some ⟨5, 10⟩⟩, ⟨1, some ⟨5, 11⟩⟩] 1 = .ambiguous
      ∧ (∀ n, ∀ w ∈ (site.station n).window, w.carrier ≠ 3)
      ∧ (List.range (site.station 0).heads).filter (fun h => !((site.station 0).head h).suspended) ≠ []
      ∧ (site.station 2).offset = none
      ∧ ((site.station 0).offset = some 9 ∧ site.loop.carrierAt 9 = 1 ∧ (site.station 0).enabled = true ∧ site.mode = .run
        ∧ (site.carrier 1).state = .unread) := by decide +kernel

theorem witness_ReadsGiveDispositions :
    ¬((site.carrier 3).state = .unread ∨ (site.carrier 3).state = .unverified) ∧ (site.carrier 1).state = .unread
      ∧ (∀ o, (site.berth o).state.ship ≠ some 6) ∧ (∀ o, (site.berth o).state.ship = some 5 ↔ o = .one)
      ∧ ((∀ o, ((siteBound (.closing 5)).berth o).state.ship = some 5 ↔ o = .one)
        ∧ ((siteBound (.closing 5)).berth .one).state = .closing 5)
      ∧ (site.berth .one).state = .bound 5
      ∧ (site.berth .one).findSerial 10 = some ⟨0, some 10, 1, .onLoop, none⟩
      ∧ (site.berth .one).findSerial 13 = some ⟨3, some 13, 2, .inHold, none⟩
      ∧ ((site.berth .one).findSerial 18 = some ⟨8, some 18, 3, .expected, none⟩
        ∧ (site.berth .one).findEntry 8 = some ⟨8, some 18, 3, .expected, none⟩
        ∧ (site.berth .one).findCabin 3 = some ⟨3, 1, 1, 0, 0, false, [8]⟩)
      ∧ ((site.berth .one).findSerial 3 = none
        ∧ (site.router.pendingTags.any fun r => r.berth == .one && r.serial == 3) = true)
      ∧ ((site.berth .one).findSerial 99 = none
        ∧ (site.router.pendingTags.any fun r => r.berth == .one && r.serial == 99) = false
        ∧ 0 < site.router.waitLimit ∧ site.router.pendingTags.length < 32)
      ∧ ({ site with router := ⟨3, 0, []⟩ } : State).router.waitLimit = 0 := by
  refine ⟨by decide, by decide, ?_, ?_, ⟨?_, by decide⟩, by decide, by decide, by decide, by decide, by decide, by decide,
    by decide⟩ <;> intro o <;> cases o <;> decide

theorem witness_LapLimitsMakeStrays :
    ¬((site.carrier 3).state = .waiting) ∧ (site.mode = .run ∧ (site.carrier 2).state = .waiting
        ∧ site.router.waitLimit ≤ (site.carrier 2).laps)
      ∧ ((site.carrier 3).target ≠ none ∧ (∀ r, (site.carrier 3).disposition ≠ some (.stray r))
        ∧ (site.carrier 3).disposition ≠ none)
      ∧ (site.carrier 4).disposition = some (.stray .noRead)
      ∧ ((site.carrier 8).state = .carrying ∧ (site.carrier 8).target = none ∧ site.router.lapLimit ≤ (site.carrier 8).laps
        ∧ (site.carrier 8).disposition = some .delivery ∧ (site.carrier 8).identity = some ⟨.one, 6⟩
        ∧ site.entryOf ⟨.one, 6⟩ = some ⟨6, some 16, 1, .onLoop, none⟩)
      ∧ ((site.carrier 9).state = .carrying ∧ (site.carrier 9).target = none ∧ site.router.lapLimit ≤ (site.carrier 9).laps
        ∧ (site.carrier 9).disposition = some .hold ∧ (site.carrier 9).identity = some ⟨.one, 7⟩
        ∧ site.entryOf ⟨.one, 7⟩ = some ⟨7, some 17, 2, .onLoop, none⟩) := by
  have hd : (site.carrier 3).disposition = some .delivery := by decide +kernel
  refine ⟨by decide +kernel, by decide +kernel, ⟨by decide +kernel, ?_, by decide +kernel⟩, by decide +kernel,
    by decide +kernel, by decide +kernel⟩
  intro r h; rw [hd] at h; cases h

theorem witness_LapLimitsMakeStrays_counted :
    (siteIn .hold).mode = .hold ∧ site.mode = .run ∧ [2, 8].Nodup ∧ (∀ m ∈ [2, 8], m < site.carriers.table.length)
      ∧ ((site.carrier 2).state = .waiting ∧ site.router.waitLimit ≤ (site.carrier 2).laps)
      ∧ (site.carrier 3).state ≠ .waiting ∧ (site.carrier 3).target ≠ none
      ∧ ((site.carrier 8).state = .carrying ∧ (site.carrier 8).target = none ∧ site.router.lapLimit ≤ (site.carrier 8).laps
        ∧ (site.carrier 8).disposition = some .delivery)
      ∧ ((site.carrier 9).state = .carrying ∧ (site.carrier 9).target = none ∧ site.router.lapLimit ≤ (site.carrier 9).laps
        ∧ (site.carrier 9).disposition = some .hold) := by decide +kernel

theorem witness_DivertsAreDone :
    40 ≤ 40 ∧ ¬((site.carrier 3).state = .fired)
      ∧ ((site.carrier 56).state = .fired ∧ (site.carrier 56).target = some 0 ∧ (site.carrier 56).identity = some ⟨.one, 1⟩
        ∧ site.entryOf ⟨.one, 1⟩ = some ⟨1, some 11, 1, .onLoop, none⟩
        ∧ (site.berth .one).findCabin 1 = some ⟨1, 1, 2, 0, 0, false, [0, 1, 2, 5, 6]⟩
        ∧ (site.berth .one).state.isClosing = false)
      ∧ ((site.carrier 12).state = .fired ∧ (site.carrier 12).target = some 3 ∧ (site.carrier 12).identity = none
        ∧ (site.lane 3).function = .stray ∧ site.coding.strays.length < 64)
      ∧ (let s := { site with coding := { site.coding with strays := List.replicate 64 ⟨1, .held, none, none, none, .S, 3, 0, 0⟩ } }
         (s.carrier 12).state = .fired ∧ (s.carrier 12).target = some 3 ∧ (s.carrier 12).identity = none
           ∧ (s.lane 3).function = .stray ∧ 64 ≤ s.coding.strays.length)
      ∧ (let s := site.setLane 3 (lane 30 .hall .makeup .closed)
         (s.carrier 12).state = .fired ∧ (s.carrier 12).target = some 3 ∧ (s.carrier 12).identity = none
           ∧ (s.lane 3).function ≠ .stray ∧ s.mode ≠ .draining) := by decide +kernel

/-- The site with berth 1 CLOSING and its last bag FIRED at lane 0. -/
def siteFired : State :=
  { siteReady with
    carriers := ⟨(List.replicate 64 Carrier.empty).set 56
      { bag .fired (some ⟨.one, 1⟩) .delivery (some 0) with tries := 1 }, 1, 0⟩ }

theorem witness_last_divert_of_a_closing_berth :
    ((siteFired.carrier 56).state = .fired ∧ (siteFired.carrier 56).target = some 0
        ∧ (siteFired.carrier 56).identity = some ⟨.one, 1⟩
        ∧ siteFired.entryOf ⟨.one, 1⟩ = some ⟨1, some 11, 1, .onLoop, none⟩
        ∧ (siteFired.berth .one).findCabin 1 = some ⟨1, 1, 2, 0, 0, false, [0, 1, 2, 5, 6]⟩
        ∧ (siteFired.berth .one).state.isClosing = true)
      ∧ (∀ m, m ≠ 56 → (siteFired.carrier m).isOf .one = false) ∧ (∀ t ∈ siteFired.router.pendingTags, t.berth ≠ .one)
      ∧ (min 2 ((siteFired.carrier 56).tries + 1) = 2 ∧ (siteFired.carrier 56).disposition = some .delivery) := by
  refine ⟨by decide +kernel, ?_, by decide, by decide +kernel⟩
  exact fun m h => isOf_only siteFired 56 m _ .one h rfl

theorem witness_DivertsAreDone_references :
    (∀ o, (site.berth o).state.ship ≠ some 6) ∧ (∀ o, (site.berth o).state.ship = some 5 ↔ o = .one)
      ∧ (site.berth .one).findSerial 99 = none
      ∧ (site.berth .one).findSerial 14 = some ⟨4, some 14, 2, .strayed, some 7⟩
      ∧ (site.carrier 12).candidate = some ⟨5, 9⟩ ∧ (site.carrier 1).candidate = none := by
  refine ⟨?_, ?_, by decide, by decide, by decide +kernel, by decide +kernel⟩ <;> intro o <;> cases o <;> decide

theorem witness_DivertsFail :
    40 ≤ 40 ∧ ¬((site.carrier 3).state = .fired)
      ∧ ((site.carrier 12).state = .fired ∧ (site.carrier 12).target = some 3 ∧ (site.lane 3).offset = some 30
        ∧ site.loop.distance 12 30 ≠ site.loop.count - site.loop.commit)
      ∧ ((site.carrier 56).state = .fired ∧ (site.carrier 56).target = some 0 ∧ (site.lane 0).offset = some 15
        ∧ site.loop.distance 56 15 = site.loop.count - site.loop.commit
        ∧ 16 ≤ min 31 ((site.diverter 0).score + 8) ∧ (site.lane 0).state ≠ .faulted)
      ∧ (let s := site.setCarrier 56 { site.carrier 56 with tries := 1 }
         (s.carrier 56).state = .fired ∧ min 2 ((s.carrier 56).tries + 1) = 2
           ∧ (s.carrier 56).disposition = some .delivery ∧ (s.carrier 56).identity = some ⟨.one, 1⟩
           ∧ s.entryOf ⟨.one, 1⟩ = some ⟨1, some 11, 1, .onLoop, none⟩ ∧ (s.berth .one).state.isClosing = false)
      ∧ (let s := site.setDiverter 0 ⟨[59], 7⟩
         ¬16 ≤ min 31 ((s.diverter 0).score + 8) ∧ min 2 ((s.carrier 56).tries + 1) ≠ 2)
      ∧ (site.carrier 3).state ≠ .fired := by decide +kernel

theorem witness_CodingRequestsAreTaken :
    ({ site with coding := { site.coding with exchange := some ⟨.fetch, 3⟩ } } : State).coding.exchange ≠ none
      ∧ site.coding.exchange = none ∧ ¬(1 ≤ 4096 ∧ 4096 ≤ 4095)
      ∧ (site.coding.reinject.any fun x => x.ticket == 9) = true
      ∧ ((site.coding.reinject.any fun x => x.ticket == 4095) = false
        ∧ site.coding.strays.find? (fun x => x.ticket == 4095) = none)
      ∧ ((site.coding.reinject.any fun x => x.ticket == 7) = false
        ∧ site.coding.strays.find? (fun x => x.ticket == 7)
          = some ⟨7, .noRoom, some ⟨5, 14⟩, some .one, some 4, .S, 3, 0, 9⟩ ∧ site.coding.reinject.length < 16)
      ∧ (let c := { site.coding with reinject := List.replicate 16 ⟨9, .readAgain, none, none, none, .S, 0, 9⟩ }
         (c.reinject.any fun x => x.ticket == 7) = false ∧ 16 ≤ c.reinject.length) := by decide

theorem witness_StraysAreCoded :
    site.coding.exchange = none ∧ 1 ≤ 7 ∧ 7 ≤ 4095 ∧ (site.coding.reinject.any fun y => y.ticket == 7) = false
      ∧ site.coding.strays.find? (fun y => y.ticket == 7)
        = some ⟨7, .noRoom, some ⟨5, 14⟩, some .one, some 4, .S, 3, 0, 9⟩
      ∧ (∀ o, (site.berth o).state ≠ .bound 6) ∧ (∀ o, (site.berth o).state = .bound 5 ↔ o = .one)
      ∧ ((⟨.one, 4⟩ : Identity) ≠ ⟨.one, 9⟩ ∧ (site.berth .one).findSerial 99 = none)
      ∧ ((site.berth .one).findSerial 10 = some ⟨0, some 10, 1, .onLoop, none⟩)
      ∧ ((site.berth .one).findSerial 14 = some ⟨4, some 14, 2, .strayed, some 7⟩
        ∧ (site.berth .one).findEntry 4 = some ⟨4, some 14, 2, .strayed, some 7⟩
        ∧ (site.berth .one).findCabin 2 = some ⟨2, 2, 1, 0, 1, true, [3, 4, 7]⟩ ∧ site.coding.reinject.length < 16)
      ∧ (let c := { site.coding with reinject := List.replicate 16 ⟨9, .readAgain, none, none, none, .S, 0, 9⟩ }
         (c.reinject.any fun y => y.ticket == 7) = false ∧ 16 ≤ c.reinject.length)
      ∧ (3 ≠ 1 ∧ 3 ≠ 2) ∧ (site.berth .two).state.isBound = false ∧ (site.berth .one).state.isBound = true
      ∧ (site.berth .one).findCabin 9999 = none
      ∧ ((siteFull.berth .one).state.isBound = true
        ∧ (siteFull.berth .one).findCabin 3 = some ⟨3, 1, 1, 0, 0, false, List.range 15⟩)
      ∧ (let r := { siteBerth with tags := List.replicate 8192 ⟨0, none, 1, .expected, none⟩ }
         r.findCabin 3 = some ⟨3, 1, 1, 0, 0, false, [8]⟩ ∧ 8192 ≤ r.tags.length)
      ∧ (site.berth .one).tags.length < 8192
      ∧ ((∀ y ∈ (site.berth .one).tags, y.index ≠ 9) ∧ ∀ m, m < 9 → ∃ y ∈ (site.berth .one).tags, y.index = m) := by
  refine ⟨by decide, by decide, by decide, by decide, by decide, ?_, ?_, by decide, by decide, by decide, by decide,
    by decide, by decide, by decide, by decide, by decide, by decide +kernel, by decide, by decide⟩ <;>
    intro o <;> cases o <;> decide

/-! ## Worked examples of one step -/

/-- The state after an outcome, power-on's where there is none. -/
def after : Host.Outcome State Fault Refusal → State
  | .next t => t
  | _ => State.reset

/-- Worked Example: Choosing a Lane (Table 5-7), before the answer that closes the window. -/
def choosing : State :=
  { State.reset with
    loop := ⟨400, 4, 120, 0, 0, 0⟩
    carriers := ⟨(List.replicate 400 Carrier.empty).set 37 ⟨.unread, none, some .M, some 0, none, none, none, none, false, 0, 0,
      none⟩, 1, 0⟩
    stations := State.reset.stations.set 0 { Station.reset with
      offset := some 83, enabled := true, polls := 1, votes := 1
      window := some ⟨37, .unread, 1, 1, [0], [], some ⟨0, 1⟩⟩ }
    berths := ⟨⟨.bound 5, [⟨7104, 9, 1, 0, 0, false, [0]⟩], [⟨0, some 400112, 7104, .expected, none⟩],
      (Vector.replicate 24 none).set 8 (some 3)⟩, Berth.clear⟩
    lanes := ((State.reset.lanes.set 5 ⟨some 90, 60, 57, 2, .berth .one, .makeup, some 3, .opened⟩).set 9
      ⟨some 85, 60, 10, 0, .berth .one, .makeup, some 3, .opened⟩).set 12
      ⟨some 300, 60, 20, 4, .berth .one, .makeup, some 3, .opened⟩
    mode := .run }

theorem test_choosing_a_lane :
    (let t := after (exec (.pollAnswer 0 0 1 5 400112) choosing)
     t.carrier 37 = ⟨.carrying, none, some .M, some 0, some ⟨.one, 0⟩, some ⟨5, 400112⟩, some .delivery, some 12, false, 0, 0,
         none⟩
       ∧ (t.lane 12).inbound = 6 ∧ (t.lane 9).inbound = 0
       ∧ (t.berth .one).tags = [⟨0, some 400112, 7104, .onLoop, none⟩]) := by decide +kernel

/-- Worked Example: A Slip and a Second Slip (Table 1-7), before the first slip. -/
def slipping : State :=
  { State.reset with
    loop := ⟨256, 4, 254, 1021, 0, 0⟩
    carriers := ⟨((((List.replicate 256 Carrier.empty).set 240 ⟨.carrying, none, some .M, some 0, some ⟨.one, 311⟩,
      some ⟨5, 400112⟩, some .delivery, some 7, true, 0, 0, none⟩).set 241 ⟨.fired, none, some .S, some 0, some ⟨.two, 88⟩,
      some ⟨9, 61030⟩, some .delivery, some 12, false, 0, 0, none⟩).set 245 ⟨.waiting, none, some .L, some 0, none,
      some ⟨5, 400877⟩, none, none, false, 0, 0, none⟩).set 250 ⟨.unread, none, some .S, some 0, none, none, none, none, false,
      0, 0, none⟩, 4, 0⟩
    berths := ⟨⟨.bound 5, [⟨1, 1, 1, 0, 0, false, [311]⟩], [⟨311, some 400112, 1, .onLoop, none⟩], Vector.replicate 24 none⟩,
      ⟨.bound 9, [⟨1, 1, 1, 0, 0, false, [88]⟩], [⟨88, some 61030, 1, .onLoop, none⟩], Vector.replicate 24 none⟩⟩
    router := ⟨3, 2, [⟨.one, 400877, 245⟩]⟩
    lanes := (State.reset.lanes.set 7 { lane 100 (.berth .one) .makeup .opened with inbound := 2 }).set 12
      { lane 120 (.berth .two) .makeup .opened with inbound := 1 }
    diverters := State.reset.diverters.set 7 ⟨[240], 0⟩
    mode := .run }

theorem test_first_slip :
    (let t := after (exec (.advance 1) slipping)
     t.loop = ⟨256, 4, 0, 1022, 1, 0⟩ ∧ t.mode = .run ∧ t.carriers.loaded = 4 ∧ t.carriers.unverified = 3
       ∧ (t.carrier 240).state = .unverified ∧ (t.carrier 241).state = .fired ∧ (t.lane 7).inbound = 0
       ∧ (t.lane 12).inbound = 1 ∧ t.router.pendingTags = []
       ∧ (t.principal .hall).notices = [⟨.slip 255 3 1 false, 1022, 0, false⟩]) := by decide +kernel

/-- A DELIVERY bag of berth 2 at lane 14, in Table 7-3. -/
def atLane14 (state : CarrierState) (z : Size) (entry : Nat) (armed : Bool) (tries : Nat) : Carrier :=
  ⟨state, none, some z, some 0, some ⟨.two, entry⟩, some ⟨9, entry⟩, some .delivery, some 14, armed, 0, tries, none⟩

/-- Worked Example: A Diverter Fails (Table 7-3), before the failure; carrier 72 stands at distance 2 from lane 14. -/
def failing : State :=
  { State.reset with
    loop := ⟨400, 4, 270, 0, 0, 0⟩
    carriers := ⟨((((List.replicate 400 Carrier.empty).set 70 (atLane14 .fired .M 0 false 0)).set 72
      (atLane14 .carrying .S 1 true 0)).set 73 (atLane14 .carrying .L 2 true 1)).set 90 (atLane14 .carrying .M 3 false 0),
      4, 0⟩
    berths := ⟨Berth.clear, ⟨.bound 9, [⟨1, 1, 4, 0, 0, false, [0, 1, 2, 3]⟩], [⟨0, some 0, 1, .onLoop, none⟩,
      ⟨1, some 1, 1, .onLoop, none⟩, ⟨2, some 2, 1, .onLoop, none⟩, ⟨3, some 3, 1, .onLoop, none⟩],
      (Vector.replicate 24 none).set 0 (some 5)⟩⟩
    lanes := ((State.reset.lanes.set 14 ⟨some 200, 60, 20, 8, .berth .two, .makeup, some 5, .opened⟩).set 15
      ⟨some 210, 40, 5, 0, .berth .two, .overflow, none, .opened⟩).set 38 ⟨some 220, 80, 10, 0, .hall, .stray, none, .opened⟩
    diverters := State.reset.diverters.set 14 ⟨[72, 73], 8⟩
    mode := .run }

theorem test_a_diverter_fails :
    (let t := after (exec (.divertFailed 14 70) failing)
     (t.lane 14).inbound = 0 ∧ (t.lane 14).state = .faulted ∧ t.diverter 14 = ⟨[], 16⟩ ∧ (t.lane 15).inbound = 8
       ∧ (t.carrier 70).tries = 1 ∧ (t.carrier 73).tries = 1 ∧ (t.carrier 90).target = some 15
       ∧ (t.principal .hall).notices.map (·.body) = [.laneFault 14 (.berth .two) 16 70 .failed 2 1 0]
       ∧ (t.principal (.berth .two)).notices.map (·.body) = [.laneFault 14 (.berth .two) 16 70 .failed 2 1 0]) := by
  decide +kernel

/-- R107's example. -/
theorem test_capacity_example :
    (let s := (site.setLane 0 { lane 15 .hall .makeup .opened with fill := 30, inbound := 12 })
     ((after (exec (.setLaneCapacity 0 1 0 40) s)).lane 0).capacity = 42) := by decide

/-- R170's queue of four, and the command processor's rotation after it (R171): link 1 before link 2. -/
theorem test_rotation :
    (let s := (site.setLink 1 { site.link 1 with queue := [frame] }).setLink 2 { site.link 2 with queue := [frame] }
     let t := after (step { s with lastServed := 0 })
     t.lastServed = 1 ∧ (t.link 1).queue = [] ∧ (t.link 2).queue = [frame] ∧ (t.link 1).replies.length = 1) := by decide

/-- Table 11-1: a count of tag entries takes two bytes. -/
theorem test_cabin_layout :
    Cabin.bytes ⟨7104, 9, 1, 0, 0, false, [0, 5]⟩ = [0x1B, 0xC0, 9, 1, 0, 0, 0, 0, 0, 0, 2, 0, 0, 0, 5] := by decide

/-- R179's list of tag entry states: STRAYED is 4, OFF_SYSTEM is 5. -/
theorem test_resolved_state_codes :
    ResolvedState.strayedWithTicket.code = 4 ∧ ResolvedState.offSystem.code = 5 := by decide

/-- R172: every reply already formed, a BUSY one too, goes before the DISPLACED link frame. -/
theorem test_displaced_link_sends_its_replies_first :
    (let s := site.setLink 1 { site.link 1 with queue := [frame], busyReplies := [⟨0x82, 9, [2], false⟩] }
     let t := after (exec (.attach 3 1 1) s)
     (t.link 1).replies = [⟨0x82, 9, [2], false⟩, ⟨0x83, 1, [2], false⟩, ⟨0x88, 0, [1, 3], false⟩]
       ∧ (t.link 1).busyReplies = [] ∧ (t.link 1).state = .idle) := by decide

/-- R171, R178: QUERY LINKS from link 0 names the link served before it. -/
theorem test_last_served_in_query_links :
    (let s (n : LinkNo) : State := { site with lastServed := n }
     after (exec (.queryLinks 0 1) (s 2)) = (s 0).replyOk 0 1 0x32 (queryLinksData (s 2))
       ∧ queryLinksData (s 2) ≠ queryLinksData (s 0)) := by decide

/-- R181: the 65th part of a reply of 65 parts is no first part. -/
theorem test_a_part_past_63 :
    ((okFrames 1 0x25 (List.replicate 3521 0))[64]?.map fun f => (f.later, f.fields)) = some (true, [0x25, 0x80, 0]) := by
  decide +kernel

end Sys2Proof.Tests
end

/-! SUPPORT. The tally of a read window (R46): the answers in hand settle one outcome, and `tally` gives it. -/

namespace Sys2Proof.Machine

/-! ## Counting the answers -/

/-- The answers in hand that decoded tag `t`. -/
def votesFor (answers : List Answer) (t : Tag) : Nat :=
  answers.countP fun a => a.result == some t

theorem count_decoded (answers : List Answer) (t : Tag) :
    (answers.filterMap (·.result)).count t = votesFor answers t :=
  List.count_filterMap

theorem mem_decoded_iff_votesFor_pos {answers : List Answer} {t : Tag} :
    t ∈ answers.filterMap (·.result) ↔ 0 < votesFor answers t := by
  rw [← count_decoded, List.count_pos_iff]

/-- The greatest count that `tally` folds is the count of any tag that no other tag outdoes. -/
theorem foldl_max_votesFor {answers : List Answer} {t : Tag} (hpos : 0 < votesFor answers t)
    (htop : ∀ u, votesFor answers u ≤ votesFor answers t) :
    ((answers.filterMap (·.result)).map (votesFor answers)).foldl max 0 = votesFor answers t := by
  have hmax : ((answers.filterMap (·.result)).map (votesFor answers)).max? = some (votesFor answers t) := by
    refine List.max?_eq_some_iff.2 ⟨List.mem_map_of_mem (mem_decoded_iff_votesFor_pos.2 hpos), fun n hn => ?_⟩
    obtain ⟨u, -, rfl⟩ := List.mem_map.1 hn
    exact htop u
  simp [List.foldl_max, hmax]

/-- Either no answer decoded a tag, or some decoded tag has the greatest count. -/
theorem undecoded_or_exists_top (answers : List Answer) :
    (∀ a ∈ answers, a.result = none)
      ∨ ∃ t, 0 < votesFor answers t ∧ ∀ u, votesFor answers u ≤ votesFor answers t := by
  cases hmax : ((answers.filterMap (·.result)).map (votesFor answers)).max? with
  | none => left; simpa using hmax
  | some m =>
    obtain ⟨hmem, hle⟩ := List.max?_eq_some_iff.1 hmax
    obtain ⟨t, ht, rfl⟩ := List.mem_map.1 hmem
    refine .inr ⟨t, mem_decoded_iff_votesFor_pos.1 ht, fun u => ?_⟩
    rcases Nat.eq_zero_or_pos (votesFor answers u) with hzero | hpos
    · omega
    · exact hle _ (List.mem_map_of_mem (mem_decoded_iff_votesFor_pos.2 hpos))

/-! ## What `tally` answers -/

/-- The tags that `tally` compares are those whose count equals the greatest. -/
theorem exists_leaders_of_top {answers : List Answer} {t : Tag} (votes : Nat) (hpos : 0 < votesFor answers t)
    (htop : ∀ u, votesFor answers u ≤ votesFor answers t) :
    ∃ first rest, (∀ u, u ∈ first :: rest ↔ votesFor answers u = votesFor answers t)
      ∧ tally answers votes = if rest.any (· != first) then .ambiguous
          else if votesFor answers t < votes then .weak else .accepted first := by
  have hmem : ∀ u, u ∈ (answers.filterMap (·.result)).filter (fun u => votesFor answers u == votesFor answers t)
      ↔ votesFor answers u = votesFor answers t := by
    intro u
    rw [List.mem_filter, mem_decoded_iff_votesFor_pos, beq_iff_eq]
    omega
  unfold tally
  simp only [count_decoded, foldl_max_votesFor hpos htop]
  split
  next hnil => exact absurd ((hmem t).2 rfl) (by simp [hnil])
  next first rest hleaders => exact ⟨first, rest, by rwa [hleaders] at hmem, rfl⟩

theorem tally_of_undecoded {answers : List Answer} (votes : Nat) (h : ∀ a ∈ answers, a.result = none) :
    tally answers votes = .noRead := by
  have hdecoded : answers.filterMap (·.result) = [] := List.filterMap_eq_nil_iff.2 h
  simp [tally, hdecoded]

/-- A tie at the highest count is AMBIGUOUS however high the count (R46). -/
theorem tally_of_tie {answers : List Answer} {t u : Tag} (votes : Nat) (hne : t ≠ u) (hpos : 0 < votesFor answers t)
    (htie : votesFor answers t = votesFor answers u) (htop : ∀ v, votesFor answers v ≤ votesFor answers t) :
    tally answers votes = .ambiguous := by
  obtain ⟨first, rest, hmem, htally⟩ := exists_leaders_of_top votes hpos htop
  have ht : t = first ∨ t ∈ rest := List.mem_cons.1 ((hmem t).2 rfl)
  have hu : u = first ∨ u ∈ rest := List.mem_cons.1 ((hmem u).2 htie.symm)
  have hother : ∃ v ∈ rest, v ≠ first := by
    by_cases hfirst : t = first
    · exact ⟨u, hu.resolve_left (hfirst ▸ hne.symm), hfirst ▸ hne.symm⟩
    · exact ⟨t, ht.resolve_left hfirst, hfirst⟩
  rw [htally, if_pos (by simpa using hother)]

/-- One tag ahead of every other: V alone decides between WEAK and ACCEPTED (R46). -/
theorem tally_of_leader {answers : List Answer} {t : Tag} (votes : Nat) (hpos : 0 < votesFor answers t)
    (hlead : ∀ u, u ≠ t → votesFor answers u < votesFor answers t) :
    tally answers votes = if votesFor answers t < votes then .weak else .accepted t := by
  have htop : ∀ u, votesFor answers u ≤ votesFor answers t := fun u =>
    (eq_or_ne u t).elim (fun h => h ▸ le_rfl) fun h => (hlead u h).le
  obtain ⟨first, rest, hmem, htally⟩ := exists_leaders_of_top votes hpos htop
  have hall : ∀ u ∈ first :: rest, u = t := fun u hu =>
    by_contra fun hne => (hlead u hne).ne ((hmem u).1 hu)
  obtain ⟨rfl, hrest⟩ := List.forall_mem_cons.1 hall
  rw [htally, if_neg (by simpa using hrest)]

/-! ## The outcome that the answers warrant -/

/-- R46: what the answers in hand must be, for a least count `votes`, to close their window with an outcome. -/
def tallyWarrants (answers : List Answer) (votes : Nat) : ReadOutcome → Prop
  | .noRead => ∀ a ∈ answers, a.result = none
  | .ambiguous => ∃ t u, t ≠ u ∧ 0 < votesFor answers t ∧ votesFor answers t = votesFor answers u
      ∧ ∀ v, votesFor answers v ≤ votesFor answers t
  | .weak => ∃ t, 0 < votesFor answers t ∧ votesFor answers t < votes
      ∧ ∀ u, u ≠ t → votesFor answers u < votesFor answers t
  | .accepted t => 0 < votesFor answers t ∧ votes ≤ votesFor answers t
      ∧ ∀ u, u ≠ t → votesFor answers u < votesFor answers t

theorem tally_of_warrants {answers : List Answer} {votes : Nat} {o : ReadOutcome} (h : tallyWarrants answers votes o) :
    tally answers votes = o := by
  cases o with
  | noRead => exact tally_of_undecoded votes h
  | ambiguous =>
    obtain ⟨t, u, hne, hpos, htie, htop⟩ := h
    exact tally_of_tie votes hne hpos htie htop
  | weak =>
    obtain ⟨t, hpos, hfew, hlead⟩ := h
    rw [tally_of_leader votes hpos hlead, if_pos hfew]
  | accepted t =>
    obtain ⟨hpos, henough, hlead⟩ := h
    rw [tally_of_leader votes hpos hlead, if_neg henough.not_gt]

/-- Any answers warrant an outcome: the four cases of R46 leave none out. -/
theorem exists_tallyWarrants (answers : List Answer) (votes : Nat) : ∃ o, tallyWarrants answers votes o := by
  rcases undecoded_or_exists_top answers with hnone | ⟨t, hpos, htop⟩
  · exact ⟨.noRead, hnone⟩
  by_cases htie : ∃ u, t ≠ u ∧ votesFor answers t = votesFor answers u
  · obtain ⟨u, hne, heq⟩ := htie
    exact ⟨.ambiguous, t, u, hne, hpos, heq, htop⟩
  have hlead : ∀ u, u ≠ t → votesFor answers u < votesFor answers t := fun u hu =>
    (htop u).lt_of_ne fun heq => htie ⟨u, hu.symm, heq.symm⟩
  rcases lt_or_ge (votesFor answers t) votes with hfew | henough
  · exact ⟨.weak, t, hpos, hfew, hlead⟩
  · exact ⟨.accepted t, hpos, henough, hlead⟩

theorem tally_eq_iff (answers : List Answer) (votes : Nat) (o : ReadOutcome) :
    tally answers votes = o ↔ tallyWarrants answers votes o := by
  refine ⟨?_, tally_of_warrants⟩
  rintro rfl
  obtain ⟨o, ho⟩ := exists_tallyWarrants answers votes
  rwa [tally_of_warrants ho]

/-- Settles O18: `tally` gives an outcome exactly when the answers warrant it, and each of the statement's clauses is the
warrant of one outcome. -/
theorem windowsAreTallied : Obligations.WindowsAreTallied := fun answers votes =>
  ⟨tally_eq_iff answers votes .noRead, tally_eq_iff answers votes .ambiguous, tally_eq_iff answers votes .weak,
    fun t => tally_eq_iff answers votes (.accepted t)⟩

end Sys2Proof.Machine

/-! SUPPORT. CLAIM LANE (R109, R121): what refuses a claim, check by check, and what a claim that none refuses does. -/

namespace Sys2Proof.Machine

/-! ## The lane's condition -/

theorem Lane.claimRefusal_of_unfitted {x : Lane} (h : x.offset = none) : x.claimRefusal = some .notConfigured := by
  simp [Lane.claimRefusal, h]

theorem Lane.claimRefusal_of_taken {x : Lane} (hfit : x.offset ≠ none) (h : x.owner ≠ .hall ∨ x.function = .stray) :
    x.claimRefusal = some .owned := by
  by_cases howner : x.owner = .hall
  · simp [Lane.claimRefusal, hfit, howner, h.resolve_left (not_not.2 howner)]
  · simp [Lane.claimRefusal, hfit, howner]

/-- Past the checks of offset and ownership, the lane's state and contents decide. -/
theorem Lane.claimRefusal_of_hall {x : Lane} (hfit : x.offset ≠ none) (howner : x.owner = .hall)
    (hfun : x.function ≠ .stray) :
    x.claimRefusal = match x.state with
      | .faulted => some .faulted
      | .opened | .full => some .inUse
      | .closed => if x.fill ≠ 0 ∨ x.inbound ≠ 0 then some .notEmpty else none := by
  cases hstate : x.state <;> simp [Lane.claimRefusal, hfit, howner, hfun, hstate]

/-! ## The checks of the berth and of the lane number -/

theorem BerthState.isOpen_iff {x : BerthState} : x.isOpen = true ↔ x ≠ .unbound := by cases x <;> simp [BerthState.isOpen]

theorem claimLaneBody_of_unbound {s : State} {b : BerthId} (lane : Nat) (h : (s.berth b).state = .unbound) :
    claimLaneBody lane (.berth b) s = .refused .notConfigured := by
  simp [claimLaneBody, claimLaneBody.asManifestOwner, h, BerthState.isOpen]

section
variable {s : State} {b : BerthId} (hopen : (s.berth b).state ≠ .unbound)
include hopen

theorem claimLaneBody_of_no_lane {lane : Nat} (h : 40 ≤ lane) :
    claimLaneBody lane (.berth b) s = .refused .badValue := by
  simp [claimLaneBody, claimLaneBody.asManifestOwner, BerthState.isOpen_iff.2 hopen, laneOf_none h]

theorem claimLaneBody_of_claimRefusal {j : LaneNo} {r : RefusalCode} (h : (s.lane j).claimRefusal = some r) :
    claimLaneBody j.val (.berth b) s = .refused r := by
  simp [claimLaneBody, claimLaneBody.asManifestOwner, BerthState.isOpen_iff.2 hopen, h]

/-- The claim is taken: the lane is the berth's, and the notice goes to the berth and to HALL (R121). -/
theorem claimLaneBody_of_claimable {j : LaneNo} (h : (s.lane j).claimRefusal = none) :
    claimLaneBody j.val (.berth b) s = .ok ((s.setLane j ((s.lane j).claimed b)).postHallAnd b
      (.laneState j (.berth b) .makeup none .closed (s.lane j).fill (s.lane j).inbound (s.lane j).capacity .claimLane none))
      ((s.lane j).claimed b).bytes := by
  simp [claimLaneBody, claimLaneBody.asManifestOwner, BerthState.isOpen_iff.2 hopen, h, State.postLaneState,
    State.laneStateOf, State.postOwner, Lane.claimed]

end

/-! ## The command -/

theorem exec_claimLane_of_refused {s : State} {l : LinkNo} {p : Principal} {lane : Nat} {r : RefusalCode} (tag : Byte)
    (hl : (s.link l).state = .attached p) (hr : claimLaneBody lane p (s.setLastServed l) = .refused r) :
    exec (.claimLane l tag lane) s = .next ((s.setLastServed l).replyRefused l tag 0x1D r) :=
  congrArg Host.Outcome.next (State.takeCommand_refused hl hr)

theorem exec_claimLane_of_ok {s t : State} {l : LinkNo} {p : Principal} {lane : Nat} {data : List Byte} (tag : Byte)
    (hl : (s.link l).state = .attached p) (hok : claimLaneBody lane p (s.setLastServed l) = .ok t data) :
    exec (.claimLane l tag lane) s = .next (t.replyOk l tag 0x1D data) :=
  congrArg Host.Outcome.next (State.takeCommand_ok hl hok)

/-- R109: an open berth's claim is refused for what the lane's condition gives. -/
theorem exec_claimLane_of_claimRefusal {s : State} {l : LinkNo} {b : BerthId} {j : LaneNo} {r : RefusalCode} (tag : Byte)
    (hl : (s.link l).state = .attached (.berth b)) (hopen : (s.berth b).state ≠ .unbound)
    (h : (s.lane j).claimRefusal = some r) :
    exec (.claimLane l tag j.val) s = .next ((s.setLastServed l).replyRefused l tag 0x1D r) :=
  exec_claimLane_of_refused tag hl (claimLaneBody_of_claimRefusal (by simpa using hopen) h)

/-- R109: an open berth's claim of a lane that nothing refuses. -/
theorem exec_claimLane_of_claimable {s : State} {l : LinkNo} {b : BerthId} {j : LaneNo} (tag : Byte)
    (hl : (s.link l).state = .attached (.berth b)) (hopen : (s.berth b).state ≠ .unbound)
    (h : (s.lane j).claimRefusal = none) :
    exec (.claimLane l tag j.val) s = .next ((((s.setLastServed l).setLane j ((s.lane j).claimed b)).postHallAnd b
      (.laneState j (.berth b) .makeup none .closed (s.lane j).fill (s.lane j).inbound (s.lane j).capacity .claimLane
        none)).replyOk l tag 0x1D ((s.lane j).claimed b).bytes) :=
  exec_claimLane_of_ok tag hl (claimLaneBody_of_claimable (by simpa using hopen) h)

/-- Settles O36: the principal and the berth are checked first, then the lane's condition in the order of R109. -/
theorem laneIsClaimed : Obligations.LaneIsClaimed := by
  intro s l tag lane j b
  refine ⟨fun hl => exec_claimLane_of_refused tag hl rfl, fun hl hunbound =>
    exec_claimLane_of_refused tag hl (claimLaneBody_of_unbound lane (by simpa using hunbound)), fun hl hopen => ?_⟩
  have refused {r : RefusalCode} := exec_claimLane_of_claimRefusal (j := j) (r := r) tag hl hopen
  refine ⟨fun hlane => exec_claimLane_of_refused tag hl (claimLaneBody_of_no_lane (by simpa using hopen) hlane),
    fun hfit => refused (Lane.claimRefusal_of_unfitted hfit),
    fun hfit htaken => refused (Lane.claimRefusal_of_taken hfit htaken), fun hfit howner hfun => ?_⟩
  have hcheck := Lane.claimRefusal_of_hall hfit howner hfun
  refine ⟨fun hstate => refused ?faulted, fun hstate => refused ?inUse, fun hstate hbags => refused ?notEmpty,
    fun hstate hfill hinbound => ?claimed⟩
  case faulted => rw [hcheck, hstate]
  case inUse => rcases hstate with hstate | hstate <;> rw [hcheck, hstate]
  case notEmpty => simp only [hcheck, hstate, if_pos hbags]
  case claimed =>
    have hfree : (s.lane j).claimRefusal = none := by simp [hcheck, hstate, hfill, hinbound]
    have hclaim := exec_claimLane_of_claimable tag hl hopen hfree
    rwa [hfill, hinbound] at hclaim

end Sys2Proof.Machine

/-! SUPPORT. The actions of the blocks: every command and event is a chain of these, each small enough that the ranges,
capacities and agreements that concern one block can be checked action by action. An action's premises are what its rule
has checked before it acts. -/

namespace Sys2Proof.Machine

/-! ## Actions that leave targets, sizes, inbounds and fills alone -/

/-- A carrier record rewritten without a change of bag size, target or reservation, and not emptied. -/
structure Carrier.Relabels (c c' : Carrier) : Prop where
  target : c'.target = c.target
  size : c'.size = c.size
  reservation : c'.reservation = c.reservation
  loaded : c'.state = .empty → c.state = .empty
  laps : c.laps ≤ 15 → c'.laps ≤ 15
  tries : c.tries ≤ 2 → c'.tries ≤ 2

/-- Notices (R175 to R177). -/
inductive NoticeAct (s : State) : State → Prop
  | post (p : Principal) (body : NoticeBody) : NoticeAct s (s.post p body)
  | record (p : Principal) (x : PrincipalRecord) (h : x.notices.length ≤ (s.principal p).notices.length) :
    NoticeAct s (s.setPrincipal p x)

/-- Orders and the exchange (R141, R184). -/
inductive FieldAct (s : State) : State → Prop
  | order (o : Order) (h : o.endsExchange = false) : FieldAct s (s.handOver o)
  | answer (q : CodingRequest) (t : Nat) (records : List Order) (hx : s.coding.exchange = none)
    (hr : records.countP (·.endsExchange) = 1) : FieldAct s (s.answer q t records)
  | sent : FieldAct s s.sendOrder

/-- The lists of the Stray Controller and its counts (R136 to R139). -/
structure Coding.Updates (c c' : Coding) : Prop where
  exchange : c'.exchange = c.exchange
  strays : c.strays.length ≤ 64 → c'.strays.length ≤ 64
  reinject : c.reinject.length ≤ 16 → c'.reinject.length ≤ 16
  counter : 1 ≤ c.ticketCounter ∧ c.ticketCounter ≤ 4095 → 1 ≤ c'.ticketCounter ∧ c'.ticketCounter ≤ 4095
  unlisted : c.unlisted ≤ 255 → c'.unlisted ≤ 255

/-- The tables of one berth (R59 to R63, R66 to R74). -/
inductive BerthAct (s : State) : State → Prop
  | entryState (b : BerthId) (i : Nat) (st : EntryState) (ticket : Option Nat) :
    BerthAct s (s.setEntryState b i st ticket)
  | dropTicket (b : BerthId) (i : Nat) : BerthAct s (s.dropEntryTicket b i)
  | makeEntry (b : BerthId) (serial : Option Nat) (cabin : Nat) (st : EntryState) (ticket : Option Nat) (c : Cabin)
    (hopen : (s.berth b).state.isOpen = true) (hc : (s.berth b).findCabin cabin = some c) (hlist : c.entries.length < 15)
    (htags : (s.berth b).tags.length < 8192) (hserial : ∀ n, serial = some n → (s.berth b).findSerial n = none) :
    BerthAct s (s.setBerth b ((s.berth b).makeEntry serial cabin st ticket))
  | removeEntry (b : BerthId) (e : Entry) (he : e ∈ (s.berth b).tags) :
    BerthAct s (s.setBerth b ((s.berth b).removeEntry e))
  | moveEntry (b : BerthId) (e : Entry) (cabin : Nat) (c : Cabin) (he : e ∈ (s.berth b).tags)
    (hc : (s.berth b).findCabin cabin = some c) (hlist : c.entries.length < 15) (hne : e.cabin ≠ cabin) :
    BerthAct s (s.setBerth b ((s.berth b).moveEntry e cabin))
  | insertCabin (b : BerthId) (c : Cabin) (hopen : (s.berth b).state.isOpen = true)
    (hc : (s.berth b).findCabin c.number = none) (hlen : (s.berth b).cabins.length < 3072)
    (hnew : c.delivered = 0 ∧ c.inHold = 0 ∧ c.entries = []) : BerthAct s (s.setBerth b ((s.berth b).insertCabin c))
  | editCabin (b : BerthId) (n : Nat) (f : Cabin → Cabin) (c : Cabin) (hc : (s.berth b).findCabin n = some c)
    (hf : (f c).number = c.number ∧ (f c).delivered = c.delivered ∧ (f c).inHold = c.inHold
      ∧ (f c).entries = c.entries) : BerthAct s (s.setBerth b ((s.berth b).modifyCabin n f))
  | mapDeck (b : BerthId) (deck : Nat) (group : Option Nat) : BerthAct s (s.setBerth b ((s.berth b).mapDeck deck group))
  | bind (b : BerthId) (ship : Nat) (hfree : (s.berth b).state = .unbound) (hship : isShip ship = true)
    (hnew : s.berthOfShip ship = none) : BerthAct s (s.setBerth b { s.berth b with state := .bound ship })
  | close (b : BerthId) (ship : Nat) (hbound : (s.berth b).state = .bound ship) :
    BerthAct s (s.setBerth b { s.berth b with state := .closing ship })

/-- The actions that move no bag and promise no room. -/
inductive Quiet (s : State) : State → Prop
  | relabel (k : Nat) (c : Carrier) (h : (s.carrier k).Relabels c) : Quiet s (s.setCarrier k c)
  | notice {t : State} (h : NoticeAct s t) : Quiet s t
  | field {t : State} (h : FieldAct s t) : Quiet s t
  | coding (x : Coding) (h : s.coding.Updates x) : Quiet s (s.setCoding x)
  | berth {t : State} (h : BerthAct s t) : Quiet s t
  | clear (b : BerthId) : Quiet s (s.perBerthClear b)

/-- A chain of quiet actions. -/
def Quiets : State → State → Prop := Relation.ReflTransGen Quiet

/-! ## The other actions -/

/-- Targets, loads and releases of carriers (R27, R91, R95, R106). -/
inductive CarrierAct (s : State) : State → Prop
  | dropTarget (k : Nat) : CarrierAct s (s.dropTarget k)
  | choose (k : Nat) (j : LaneNo) (hmode : s.mode.sorts = true) (hk : (s.carrier k).isUntargeted = true)
    (hroom : (s.lane j).fill + (s.lane j).inbound + (s.carrier k).units ≤ (s.lane j).capacity) :
    CarrierAct s ((s.setCarrier k { s.carrier k with target := some j, armed := false }).raiseInbound j
      (s.carrier k).units)
  | load (k : Nat) (c : Carrier) (hk : (s.carrier k).state = .empty) (ht : c.target = none) (hr : c.reservation = none)
    (hlaps : c.laps = 0) (htries : c.tries = 0) : CarrierAct s (s.setCarrier k c)

/-- A lane record changed with its inbound kept, its room kept and an owner that may have it (R105 to R117). -/
structure Lane.Updates (x x' : Lane) (isOpen : BerthId → Prop) : Prop where
  inbound : x'.inbound = x.inbound
  room : x.fill + x.inbound ≤ x.capacity ∧ x.capacity ≤ 255 → x'.fill + x.inbound ≤ x'.capacity ∧ x'.capacity ≤ 255
  owner : ∀ b, x'.owner = .berth b → x.owner = .berth b ∨ isOpen b
  function : x.owner.mayChoose x.function = true → x'.owner.mayChoose x'.function = true
  group : (x.group ≠ none → x.owner ≠ .hall ∧ x.function = .makeup) → x'.group ≠ none →
    x'.owner ≠ .hall ∧ x'.function = .makeup

/-- Lane records and diverters. -/
inductive LaneAct (s : State) : State → Prop
  | lane (j : LaneNo) (x : Lane) (h : (s.lane j).Updates x fun b => (s.berth b).state.isOpen = true) :
    LaneAct s (s.setLane j x)
  | diverter (j : LaneNo) (v : Diverter) (h : (s.diverter j).score ≤ 31 → v.score ≤ 31) :
    LaneAct s (s.setDiverter j v)

/-- Points, waiting records and reservations (R21 to R33). -/
inductive PointAct (s : State) : State → Prop
  | endReservation (i : PointNo) : PointAct s (s.endReservation i)
  | clearWaiting (i : PointNo) : PointAct s ((s.endReservation i).removeWaiting i)
  | present (i : PointNo) (w : Waiting) (hpart : (s.point i).takesPart = true) (hnone : (s.point i).waiting = none)
    (ht : w.ticket ≠ none → (s.point i).mark = true) (hw : w.wait ≤ 255) :
    PointAct s (s.setPoint i { s.point i with waiting := some w })
  | wait (i : PointNo) (w : Waiting) (n : Nat) (hsome : (s.point i).waiting = some w) (hn : n ≤ 255) :
    PointAct s (s.setPoint i { s.point i with waiting := some { w with wait := n } })
  | unmark (q : PointNo) : PointAct s (s.setPoint q (s.point q).unmark)
  | configure (i : PointNo) (x : Point) (hsome : x.waiting.isSome = (s.point i).waiting.isSome)
    (hw : ∀ w ∈ x.waiting, x.takesPart = true ∧ (w.ticket ≠ none → x.mark = true))
    (hwait : ∀ w ∈ x.waiting, ∃ w' ∈ (s.point i).waiting, w.wait = w'.wait)
    (hmark : x.mark = true → ∀ q, q ≠ i → (s.point q).mark = false) : PointAct s (s.setPoint i x)
  | lapse (k : Nat) : PointAct s (s.setCarrier k { s.carrier k with reservation := none })
  | reserve (i : PointNo) (k : Nat) (hmode : s.mode = .run) (hw : (s.point i).waiting.isSome = true)
    (hnone : s.holdsReservation i = false) : PointAct s (s.setCarrier k { s.carrier k with reservation := some i })
  | limits (load starve : Nat)
    (hl : 1 ≤ s.induction.loadLimit ∧ s.induction.loadLimit ≤ s.loop.count ∧ 64 ≤ s.loop.count →
      1 ≤ load ∧ load ≤ s.loop.count)
    (hs : 8 ≤ s.induction.starveLimit ∧ s.induction.starveLimit ≤ 255 → 8 ≤ starve ∧ starve ≤ 255) :
    PointAct s (s.setInduction { s.induction with loadLimit := load, starveLimit := starve })

/-- The configuration and the heads of a station are in range (R35, R36, R38). -/
structure Station.Reads (x : Station) : Prop where
  heads : 1 ≤ x.heads ∧ x.heads ≤ 8
  priority : x.priority.length ≤ 4 ∧ x.priority.Nodup ∧ ∀ h ∈ x.priority, h < x.heads
  polls : 1 ≤ x.polls ∧ x.polls ≤ 16
  votes : 1 ≤ x.votes ∧ x.votes ≤ 8 ∧ x.votes ≤ x.polls
  pollNumber : x.pollNumber < 256
  polled : x.polled ≠ []

/-- Every head's score is in its range (R36). -/
def Station.ScoresFit (x : Station) : Prop := ∀ h, (x.head h).score ≤ 255

/-- Stations (R35 to R51). -/
inductive StationAct (s : State) : State → Prop
  | station (n : StationNo) (x : Station) (hr : (s.station n).Reads → x.Reads)
    (hs : (s.station n).ScoresFit → x.ScoresFit) : StationAct s (s.setStation n x)

/-- The Route Selector's limits and its list (R81, R86). -/
structure Router.Updates (r r' : Router) : Prop where
  lapLimit : 1 ≤ r.lapLimit ∧ r.lapLimit ≤ 15 → 1 ≤ r'.lapLimit ∧ r'.lapLimit ≤ 15
  waitLimit : r.waitLimit ≤ 7 → r'.waitLimit ≤ 7
  pendingTags : r.pendingTags.length ≤ 32 → r'.pendingTags.length ≤ 32

/-- The Loop Tracker's position and counts (R1, R2). -/
structure Loop.Updates (l l' : Loop) : Prop where
  count : l'.count = l.count
  commit : l'.commit = l.commit
  position : l.position < l.count → l'.position < l.count
  revolutions : l.revolutions < 65536 → l'.revolutions < 65536
  slips : l.slips ≤ 255 → l'.slips ≤ 255
  homeMissed : l.homeMissed ≤ 255 → l'.homeMissed ≤ 255

/-- A link record changed with its permissions kept, and no principal attached that was not. -/
structure Link.Updates (x x' : Link) : Prop where
  allowed : x'.allowed = x.allowed
  state : x'.state = x.state ∨ x'.state = .idle ∨ x'.state = .muted
  errorCount : x.errorCount ≤ 255 → x'.errorCount ≤ 255
  checkCount : x.checkCount ≤ 16 → x'.checkCount ≤ 16
  unchecked : (x.state ≠ .muted → x.checkCount = 0) → x'.state ≠ .muted → x'.checkCount = 0
  muted : (x.state = .muted → x.queue = []) → x'.state = .muted → x'.queue = []
  queue : x.queue.length ≤ 4 → x'.queue.length ≤ 4

/-- Links (R163 to R174). -/
inductive LinkAct (s : State) : State → Prop
  | served (l : LinkNo) : LinkAct s (s.setLastServed l)
  | update (l : LinkNo) (x : Link) (h : (s.link l).Updates x) : LinkAct s (s.setLink l x)
  | attach (l : LinkNo) (p : Principal) (hl : (s.link l).state = .idle) (hp : ∀ m, (s.link m).state ≠ .attached p) :
    LinkAct s (s.setLink l { s.link l with state := .attached p })
  | takeOver (l m : LinkNo) (p : Principal) (hl : (s.link l).state = .idle) (hm : (s.link m).state = .attached p) :
    LinkAct s ((s.displace m p l).setLink l { (s.displace m p l).link l with state := .attached p })
  | permit (l : LinkNo) (q : Principal) (flag : Bool) (h : flag = false → q = .hall → s.hallOnlyOn l = false) :
    LinkAct s (s.setLink l { s.link l with allowed := (s.link l).allowed.store q flag })

/-- The mode changes, reservations ending when it leaves RUN (R154). -/
def State.enterMode (s : State) (m : Mode) : State :=
  (if s.mode == .run then s.endReservations else s).setMode m

/-- The carrier table emptied and every inbound with it (R160). -/
def State.vacate (s : State) : State :=
  forEach allLanes (fun s j => s.setLane j { s.lane j with inbound := 0 })
    (s.setCarriers (CarrierTable.allEmpty s.carriers.table.length))

/-- What CONFIGURE LOOP stores (R18, R31). -/
def State.reshape (s : State) (count commit : Nat) : State :=
  let s := s.resize count
  let s := s.setLoop { s.loop with commit := commit }
  s.setInduction { s.induction with loadLimit := min s.induction.loadLimit count }

/-- One action of the part. -/
inductive Act (s : State) : State → Prop
  | quiet {t : State} (h : Quiet s t) : Act s t
  | carrier {t : State} (h : CarrierAct s t) : Act s t
  | lane {t : State} (h : LaneAct s t) : Act s t
  | point {t : State} (h : PointAct s t) : Act s t
  | station {t : State} (h : StationAct s t) : Act s t
  | router (r : Router) (h : s.router.Updates r) : Act s (s.setRouter r)
  | loop (l : Loop) (h : s.loop.Updates l) : Act s (s.setLoop l)
  | wires (w : Wires) : Act s (s.setWires w)
  | mode (m : Mode) (h : m = .setup → s.carriers.loaded = 0 ∨ ∀ c ∈ s.carriers.table, c.target = none) :
    Act s (s.enterMode m)
  | vacate : Act s s.vacate
  | reshape (count commit : Nat) (hmode : s.mode = .setup) (hc : 64 ≤ count ∧ count ≤ 1024)
    (hk : 2 ≤ commit ∧ commit ≤ 15) : Act s (s.reshape count commit)
  /-- A bag lands: its units pass to the fill, its arrival is recorded, and its carrier is emptied (R128). -/
  | land {t : State} (k : Nat) (j : LaneNo) (hk : (s.carrier k).isFiredAt j = true)
    (h : Quiets (s.setLane j ((s.lane j).landed (s.carrier k).units)) t) : Act s (t.setCarrier k Carrier.empty)

/-- What one command or event is made of: actions of the blocks, changes of links, and power-on. -/
inductive Deed (s : State) : State → Prop
  | act {t : State} (h : Act s t) : Deed s t
  | link {t : State} (h : LinkAct s t) : Deed s t
  | powerOn : Deed s (State.reset.setPending s.pending)

/-- A chain of actions, which leaves the links alone. -/
def Acts : State → State → Prop := Relation.ReflTransGen Act

/-- A chain of deeds. -/
def Deeds : State → State → Prop := Relation.ReflTransGen Deed

theorem Quiets.refl (s : State) : Quiets s s := Relation.ReflTransGen.refl
theorem Quiets.trans {s t u : State} (h : Quiets s t) (h' : Quiets t u) : Quiets s u := Relation.ReflTransGen.trans h h'
theorem Quiet.single {s t : State} (h : Quiet s t) : Quiets s t := Relation.ReflTransGen.single h

theorem Acts.refl (s : State) : Acts s s := Relation.ReflTransGen.refl
theorem Acts.trans {s t u : State} (h : Acts s t) (h' : Acts t u) : Acts s u := Relation.ReflTransGen.trans h h'
theorem Act.single {s t : State} (h : Act s t) : Acts s t := Relation.ReflTransGen.single h

theorem Deeds.refl (s : State) : Deeds s s := Relation.ReflTransGen.refl
theorem Deeds.trans {s t u : State} (h : Deeds s t) (h' : Deeds t u) : Deeds s u := Relation.ReflTransGen.trans h h'
theorem Deed.single {s t : State} (h : Deed s t) : Deeds s t := Relation.ReflTransGen.single h

theorem Acts.deeds {s t : State} (h : Acts s t) : Deeds s t := by
  induction h with
  | refl => exact .refl s
  | tail _ h ih => exact ih.trans (Deed.act h).single

theorem Quiets.acts {s t : State} (h : Quiets s t) : Acts s t := by
  induction h with
  | refl => exact .refl s
  | tail _ h ih => exact ih.trans (Act.quiet h).single

/-- What every action keeps, every chain keeps. -/
theorem Acts.keeps {P : State → Prop} (hP : ∀ s t, Act s t → P s → P t) {s t : State} (h : Acts s t) (hs : P s) : P t := by
  induction h with
  | refl => exact hs
  | tail _ h ih => exact hP _ _ h ih

theorem Deeds.keeps {P : State → Prop} (hP : ∀ s t, Deed s t → P s → P t) {s t : State} (h : Deeds s t) (hs : P s) :
    P t := by
  induction h with
  | refl => exact hs
  | tail _ h ih => exact hP _ _ h ih

theorem Quiets.keeps {P : State → Prop} (hP : ∀ s t, Quiet s t → P s → P t) {s t : State} (h : Quiets s t) (hs : P s) :
    P t := by
  induction h with
  | refl => exact hs
  | tail _ h ih => exact hP _ _ h ih

theorem forEach_quiets {α : Type} {f : State → α → State} (hf : ∀ s a, Quiets s (f s a)) (xs : List α) (s : State) :
    Quiets s (forEach xs f s) :=
  forEach_keeps (Quiets s) f xs s (.refl s) fun t a _ h => h.trans (hf t a)

theorem forEach_acts {α : Type} {f : State → α → State} (hf : ∀ s a, Acts s (f s a)) (xs : List α) (s : State) :
    Acts s (forEach xs f s) :=
  forEach_keeps (Acts s) f xs s (.refl s) fun t a _ h => h.trans (hf t a)

end Sys2Proof.Machine

/-! SUPPORT. The shared operations of the blocks as chains of actions. -/

namespace Sys2Proof.Machine

/-! ## Notices and orders -/

theorem State.quiets_post (s : State) (p : Principal) (body : NoticeBody) : Quiets s (s.post p body) :=
  (Quiet.notice (.post p body)).single

theorem State.quiets_postAll (s : State) (body : NoticeBody) : Quiets s (s.postAll body) :=
  ((s.quiets_post _ _).trans (State.quiets_post _ _ _)).trans (State.quiets_post _ _ _)

theorem State.quiets_postHallAnd (s : State) (b : BerthId) (body : NoticeBody) : Quiets s (s.postHallAnd b body) :=
  (s.quiets_post _ _).trans (State.quiets_post _ _ _)

theorem State.quiets_postOwner (s : State) (p : Principal) (body : NoticeBody) : Quiets s (s.postOwner p body) := by
  cases p with
  | hall => exact s.quiets_post _ _
  | berth b => exact s.quiets_postHallAnd _ _

theorem State.quiets_postStray (s : State) (b : Option BerthId) (body : NoticeBody) : Quiets s (s.postStray b body) := by
  cases b with
  | none => exact s.quiets_post _ _
  | some b => exact s.quiets_postHallAnd _ _

theorem State.quiets_postResolved (s : State) (bs : List BerthId) (body : NoticeBody) :
    Quiets s (s.postResolved bs body) :=
  (s.quiets_post _ _).trans (forEach_quiets (fun s b => s.quiets_post (.berth b) body) _ _)

theorem State.quiets_handOver (s : State) {o : Order} (h : o.endsExchange = false) : Quiets s (s.handOver o) :=
  (Quiet.field (.order o h)).single

/-! ## Carriers -/

theorem State.quiets_relabel (s : State) (k : Nat) {c : Carrier} (h : (s.carrier k).Relabels c) :
    Quiets s (s.setCarrier k c) :=
  (Quiet.relabel k c h).single

theorem State.acts_dropTarget (s : State) (k : Nat) : Acts s (s.dropTarget k) :=
  (Act.carrier (.dropTarget k)).single

theorem State.quiets_setEntryState (s : State) (b : BerthId) (i : Nat) (st : EntryState) (t : Option Nat) :
    Quiets s (s.setEntryState b i st t) :=
  (Quiet.berth (.entryState b i st t)).single

theorem State.quiets_dropIdentity (s : State) (k : Nat) (st : EntryState) : Quiets s (s.dropIdentity k st) := by
  unfold State.dropIdentity
  split
  · exact .refl s
  · refine .trans (s.quiets_relabel k ?_) (State.quiets_setEntryState _ _ _ _ _)
    exact ⟨rfl, rfl, rfl, id, id, id⟩

theorem State.quiets_perBerthClear (s : State) (b : BerthId) : Quiets s (s.perBerthClear b) := (Quiet.clear b).single

theorem State.quiets_testClosing (s : State) (b : BerthId) : Quiets s (s.testClosing b) := by
  unfold State.testClosing
  split
  · exact (s.quiets_perBerthClear b).trans (State.quiets_postHallAnd _ _ _)
  · exact .refl s

theorem State.quiets_testAllClosing (s : State) : Quiets s s.testAllClosing :=
  (s.quiets_testClosing _).trans (State.quiets_testClosing _ _)

/-! ## Choices (R91) -/

/-- A lane that a search among the lanes gives satisfies the search's test. -/
theorem State.ok_of_nearest {s : State} {k : Nat} {ok : Lane → Bool} {j : LaneNo} (h : s.nearest k ok = some j) :
    ok (s.lane j) = true := by
  have keep : ∀ (ls : List LaneNo) (best : Option LaneNo), (∀ i, best = some i → ok (s.lane i) = true) →
      ∀ i, ls.foldl (fun b j => s.nearer k ok b j) best = some i → ok (s.lane i) = true := by
    intro ls
    induction ls with
    | nil => exact fun best hb => hb
    | cons l ls ih =>
      intro best hb
      refine ih _ fun i hi => ?_
      simp only [State.nearer] at hi
      split at hi
      · exact hb i hi
      · split at hi
        · rename_i hok
          split at hi
          · exact Option.some.inj hi ▸ hok
          · split at hi
            · exact Option.some.inj hi ▸ hok
            · exact hb i hi
        · exact hb i hi
  exact keep allLanes none (fun _ h => absurd h (by simp)) j h

theorem State.laneAdmits_of_bestLane {s : State} {k : Nat} {j : LaneNo} (h : s.bestLane k = some j) :
    s.laneAdmits (s.carrier k) (s.lane j) = true := by
  unfold State.bestLane at h
  dsimp only at h
  split at h
  next hn =>
    obtain rfl := Option.some.inj h
    have := State.ok_of_nearest hn
    simp only [Bool.and_eq_true] at this
    exact this.2
  next =>
    have := State.ok_of_nearest h
    simp only [Bool.and_eq_true] at this
    exact this.2

theorem State.acts_chooseTarget (s : State) (k : Nat) : Acts s (s.chooseTarget k) := by
  unfold State.chooseTarget
  split
  next hc =>
    rw [Bool.and_eq_true] at hc
    split
    next => exact .refl s
    next j hj =>
      have hroom := State.laneAdmits_of_bestLane hj
      simp only [State.laneAdmits, Bool.and_eq_true, decide_eq_true_eq] at hroom
      exact (Act.carrier (.choose k j hc.1 hc.2 hroom.1.2)).single
  next => exact .refl s

theorem State.acts_chooseAll (s : State) (ks : List Nat) : Acts s (s.chooseAll ks) :=
  forEach_acts State.acts_chooseTarget ks s

theorem State.acts_dropTargets (s : State) (ks : List Nat) : Acts s (s.dropTargets ks) :=
  forEach_acts State.acts_dropTarget ks s

theorem State.acts_rechoose (s : State) (k : Nat) : Acts s (s.rechoose k) := by
  unfold State.rechoose
  split
  · exact (s.acts_dropTarget k).trans (State.acts_chooseTarget _ k)
  · exact .refl s

theorem State.acts_rechooseAll (s : State) (ks : List Nat) : Acts s (s.rechooseAll ks) :=
  forEach_acts State.acts_rechoose ks s

theorem State.acts_rechooseLane (s : State) (j : LaneNo) : Acts s (s.rechooseLane j) :=
  (s.acts_dropTargets _).trans (State.acts_chooseAll _ _)

/-! ## Dispositions (R82 to R87, R101) -/

theorem State.acts_enterDisposition (s : State) (k : Nat) (d : Disposition) : Acts s (s.enterDisposition k d) :=
  (s.acts_dropTarget k).trans
    (State.quiets_relabel _ k (by exact ⟨rfl, rfl, rfl, (fun h => nomatch h), fun _ => Nat.zero_le _, id⟩)).acts

theorem State.acts_giveDisposition (s : State) (k : Nat) (d : Disposition) : Acts s (s.giveDisposition k d) :=
  (s.acts_enterDisposition k d).trans (State.acts_chooseTarget _ k)

theorem State.acts_giveAll (s : State) (ks : List Nat) (d : Disposition) : Acts s (s.giveAll ks d) :=
  forEach_acts (fun s k => s.acts_giveDisposition k d) ks s

/-- A pending-tag list no longer than before. -/
theorem State.acts_filterPending (s : State) (p : PendingTag → Bool) :
    Acts s (s.setRouter { s.router with pendingTags := s.router.pendingTags.filter p }) :=
  (Act.router _ (by exact ⟨id, id, fun h => (List.length_filter_le _ _).trans h⟩)).single

theorem State.acts_removePending (s : State) (k : Nat) : Acts s (s.removePending k) := s.acts_filterPending _

theorem State.acts_becomeStray (s : State) (k : Nat) (r : StrayReason) : Acts s (s.becomeStray k r) := by
  unfold State.becomeStray
  split
  · exact s.acts_enterDisposition k _
  next d _ =>
    refine Acts.trans (Quiets.trans ?_ (State.quiets_testClosing _ _)).acts (State.acts_enterDisposition _ k _)
    split
    · exact s.quiets_dropIdentity k _
    · exact (s.quiets_dropIdentity k _).trans (State.quiets_post _ _ _)

theorem State.acts_matchEntry (s : State) (k : Nat) (d : Identity) : Acts s (s.matchEntry k d) :=
  ((s.quiets_setEntryState _ _ _ _).trans (State.quiets_relabel _ k (by exact ⟨rfl, rfl, rfl, id, id, id⟩))).acts.trans
    (State.acts_enterDisposition _ k _)

theorem State.acts_joinPending (s : State) (k : Nat) (b : BerthId) (serial : Nat)
    (h : s.router.pendingTags.length < 32) : Acts s (s.joinPending k b serial) :=
  (Act.router _ (by exact ⟨id, id, fun _ => by simpa using h⟩)).single.trans
    ((State.quiets_relabel _ k (by exact ⟨rfl, rfl, rfl, (fun h => nomatch h), fun _ => Nat.zero_le _, id⟩)).trans
      (State.quiets_post _ _ _)).acts

theorem State.acts_takeUnlisted (s : State) (k : Nat) (b : BerthId) (serial : Nat) :
    Acts s (s.takeUnlisted k b serial) := by
  unfold State.takeUnlisted
  split
  · exact s.acts_enterDisposition k _
  · split
    next h => exact s.acts_joinPending k b serial h.2
    next => exact s.acts_enterDisposition k _

theorem State.acts_takeListed (s : State) (k : Nat) (b : BerthId) (e : Entry) : Acts s (s.takeListed k b e) := by
  unfold State.takeListed
  split
  · exact s.acts_matchEntry k _
  all_goals exact s.acts_enterDisposition k _

theorem State.acts_takeAccepted (s : State) (k : Nat) (t : Tag) : Acts s (s.takeAccepted k t) := by
  refine (s.quiets_relabel k (c := { s.carrier k with candidate := some t }) (by exact ⟨rfl, rfl, rfl, id, id, id⟩)).acts.trans ?_
  unfold State.takeAccepted
  dsimp only
  split
  · exact State.acts_enterDisposition _ k _
  · split
    · exact State.acts_enterDisposition _ k _
    · split
      · exact State.acts_takeListed _ k _ _
      · exact State.acts_takeUnlisted _ k _ _

theorem State.acts_takeOutcome (s : State) (k : Nat) (o : ReadOutcome) : Acts s (s.takeOutcome k o) := by
  unfold State.takeOutcome
  split
  · cases o with
    | accepted t => exact s.acts_takeAccepted k t
    | noRead | weak | ambiguous => exact s.acts_enterDisposition k _
  · exact .refl s

/-! ## Laps (R97, R98) -/

theorem State.acts_countLap (s : State) (k : Nat) : Acts s (s.countLap k) :=
  (s.quiets_relabel k (by exact ⟨rfl, rfl, rfl, id, fun _ => Nat.min_le_left _ _, id⟩)).acts

theorem State.acts_expireWait (s : State) (k : Nat) : Acts s (s.expireWait k) := by
  unfold State.expireWait
  split
  · exact (s.acts_removePending k).trans (State.acts_enterDisposition _ k _)
  · exact .refl s

theorem State.acts_strayAtLimit (s : State) (k : Nat) : Acts s (s.strayAtLimit k) := by
  unfold State.strayAtLimit
  split
  · split
    · exact s.acts_becomeStray k _
    · exact s.acts_becomeStray k _
    · exact .refl s
  · exact .refl s

theorem State.acts_countLaps (s : State) (ks : List Nat) : Acts s (s.countLaps ks) := by
  unfold State.countLaps
  split
  · exact (forEach_acts State.acts_countLap ks s).trans
      (forEach_acts (fun s k => (s.acts_expireWait k).trans (State.acts_strayAtLimit _ k)) ks _)
  · exact .refl s

/-! ## Lanes and diverters -/

theorem State.acts_setDiverter (s : State) (j : LaneNo) {v : Diverter} (h : (s.diverter j).score ≤ 31 → v.score ≤ 31) :
    Acts s (s.setDiverter j v) :=
  (Act.lane (.diverter j v h)).single

theorem State.acts_setLane (s : State) (j : LaneNo) {x : Lane}
    (h : (s.lane j).Updates x fun b => (s.berth b).state.isOpen = true) : Acts s (s.setLane j x) :=
  (Act.lane (.lane j x h)).single

/-- A change of lane state alone. -/
theorem State.acts_setLaneState (s : State) (j : LaneNo) (st : LaneState) :
    Acts s (s.setLane j { s.lane j with state := st }) :=
  s.acts_setLane j ⟨rfl, id, fun _ => .inl, id, id⟩

/-- A lane returned to the hall. -/
theorem State.acts_setLane_returned (s : State) (j : LaneNo) : Acts s (s.setLane j (s.lane j).returned) :=
  s.acts_setLane j ⟨rfl, id, (fun _ h => nomatch h), fun _ => rfl, fun _ h => absurd rfl h⟩

/-! ## Modes, drains and slips -/

theorem State.changeMode_eq (s : State) (new : Mode) (cause : ModeCause) :
    s.changeMode new cause
      = (s.enterMode new).postAll (.modeChanged s.mode new cause s.carriers.loaded s.carriers.unverified) := rfl

theorem State.acts_changeMode (s : State) {new : Mode} (cause : ModeCause)
    (h : new = .setup → s.carriers.loaded = 0 ∨ ∀ c ∈ s.carriers.table, c.target = none) :
    Acts s (s.changeMode new cause) := by
  rw [State.changeMode_eq]
  exact (Act.mode new h).single.trans (State.quiets_postAll _ _).acts

theorem State.acts_testDrain (s : State) : Acts s s.testDrain := by
  unfold State.testDrain
  split
  next h =>
    simp only [Bool.and_eq_true, beq_iff_eq] at h
    exact s.acts_changeMode _ fun _ => .inl h.2
  next => exact .refl s

theorem State.acts_emptyQueues (s : State) : Acts s s.emptyQueues :=
  forEach_acts (f := fun s j => s.setDiverter j { s.diverter j with queue := [] })
    (fun s j => s.acts_setDiverter j (by exact id)) allLanes s

theorem State.acts_abandonWindows (s : State) : Acts s s.abandonWindows :=
  forEach_acts (fun s n => (Act.station (.station n _ (by exact fun h => ⟨h.1, h.2, h.3, h.4, h.5, h.6⟩) (by exact id))).single) _ s

theorem State.acts_emptyPendingTags (s : State) : Acts s s.emptyPendingTags :=
  (Act.router _ (by exact ⟨id, id, fun _ => Nat.zero_le _⟩)).single

theorem State.acts_unverify (s : State) (k : Nat) : Acts s (s.unverify k) :=
  (s.acts_dropTarget k).trans
    ((State.quiets_dropIdentity _ k _).trans
      (State.quiets_relabel _ k
        (by exact ⟨rfl, rfl, rfl, (fun h => nomatch h), fun _ => Nat.zero_le _, fun _ => Nat.zero_le _⟩))).acts

theorem State.acts_unverifyAll (s : State) : Acts s s.unverifyAll := forEach_acts State.acts_unverify _ s

theorem State.acts_exitHalted (s : State) : Acts s s.exitHalted :=
  (s.acts_unverifyAll.trans ((State.acts_emptyPendingTags _).trans (State.quiets_testAllClosing _).acts)).trans
    (State.acts_changeMode _ _ fun h => nomatch h)

theorem State.acts_loseTrack (s : State) : Acts s s.loseTrack :=
  ((s.acts_unverifyAll.trans (State.acts_emptyQueues _)).trans (State.acts_emptyPendingTags _)).trans
    ((State.acts_abandonWindows _).trans (State.quiets_testAllClosing _).acts)

theorem State.acts_halt (s : State) : Acts s s.halt := by
  unfold State.halt
  split
  · exact s.acts_changeMode _ fun h => nomatch h
  · exact .refl s

theorem nextRevolution_lt (n : Nat) : nextRevolution n < 65536 := Nat.mod_lt _ (by decide)

theorem State.acts_missHome (s : State) : Acts s s.missHome :=
  (Act.loop _ (by exact ⟨rfl, rfl, fun h => Nat.zero_lt_of_lt h, fun _ => nextRevolution_lt _, id,
    fun _ => Nat.min_le_left _ _⟩)).single.trans (State.quiets_post _ _ _).acts

theorem State.acts_slip (s : State) : Acts s s.slip := by
  have track : Acts s _ := (Act.loop { s.loop.atHome with slips := raiseTo 255 s.loop.slips 1 }
    (by exact ⟨rfl, rfl, fun h => Nat.zero_lt_of_lt h, fun _ => nextRevolution_lt _, fun _ => Nat.min_le_left _ _, id⟩)).single
  have lost := track.trans ((State.acts_loseTrack _).trans (State.quiets_post _ .hall s.slipNotice).acts)
  unfold State.slip
  dsimp only
  split
  · exact lost.trans (State.acts_halt _)
  · exact lost

theorem State.acts_track (s : State) (mark : Bool) : Acts s (s.track mark).1 := by
  unfold State.track
  split
  · exact (Act.loop _ (by exact ⟨rfl, rfl, fun h => Nat.zero_lt_of_lt h, fun _ => nextRevolution_lt _, id, id⟩)).single
  · exact s.acts_missHome
  next n hn =>
    exact (Act.loop _ (by exact ⟨rfl, rfl, fun h => hn.symm.trans_lt (Nat.mod_lt _ (Nat.zero_lt_of_lt h)), id, id, id⟩)).single
  · exact s.acts_slip

end Sys2Proof.Machine

/-! SUPPORT. Strays, diversion, induction and reading as chains of actions. -/

namespace Sys2Proof.Machine

/-! ## The Stray Controller (R137 to R147) -/

theorem State.quiets_dropEntryTicket (s : State) (b : BerthId) (i : Nat) : Quiets s (s.dropEntryTicket b i) :=
  (Quiet.berth (.dropTicket b i)).single

theorem nextTicket_range (t : Nat) : 1 ≤ nextTicket t ∧ nextTicket t ≤ 4095 := by
  unfold nextTicket Config.lastTicket
  split <;> omega

theorem State.quiets_setCoding (s : State) {x : Coding} (h : s.coding.Updates x) : Quiets s (s.setCoding x) :=
  (Quiet.coding x h).single

@[simp] theorem State.coding_setEntryState (s : State) (b : BerthId) (i : Nat) (st : EntryState) (t : Option Nat) :
    (s.setEntryState b i st t).coding = s.coding := by
  simp [State.setEntryState]

theorem State.quiets_recordStray (s : State) (k : Nat) (j : LaneNo) (h : s.coding.strays.length < 64) :
    Quiets s (s.recordStray k j) := by
  unfold State.recordStray
  refine .trans (.trans (.trans ?_ (State.quiets_setCoding _ ?_)) (State.quiets_handOver _ (by rfl)))
    (State.quiets_postStray _ _ _)
  · split
    · exact s.quiets_setEntryState _ _ _ _
    · exact .refl s
  · refine ⟨rfl, fun _ => ?_, id, fun _ => nextTicket_range _, id⟩
    split <;> simp <;> omega

theorem State.quiets_countUnlisted (s : State) (k : Nat) (j : LaneNo) : Quiets s (s.countUnlisted k j) :=
  ((s.quiets_setCoding (x := { s.coding with unlisted := raiseTo 255 s.coding.unlisted 1 })
    ⟨rfl, id, id, id, fun _ => Nat.min_le_left _ _⟩).trans (State.quiets_handOver _ (by rfl))).trans
    (State.quiets_post _ _ _)

theorem State.quiets_takeStray (s : State) (k : Nat) (j : LaneNo) : Quiets s (s.takeStray k j) := by
  unfold State.takeStray
  split
  next h => exact s.quiets_recordStray k j h
  next => exact s.quiets_countUnlisted k j

theorem State.quiets_leaveEntry (s : State) (r : StrayRecord) (d : Option Identity) : Quiets s (s.leaveEntry r d) := by
  unfold State.leaveEntry
  split
  · exact .refl s
  · split
    · exact .refl s
    · exact s.quiets_dropEntryTicket _ _

/-- A stray record leaves its list. -/
theorem Coding.updates_dropStray (c : Coding) (p : StrayRecord → Bool) :
    c.Updates { c with strays := c.strays.filter p } :=
  ⟨rfl, fun h => (List.length_filter_le _ _).trans h, id, id, id⟩

theorem State.quiets_moveRecord (s : State) (r : StrayRecord) (how : Resolution) (b : Option BerthId) (e : Option Nat)
    (h : s.coding.reinject.length < 16) : Quiets s (s.moveRecord r how b e) :=
  s.quiets_setCoding ⟨rfl, fun h => (List.length_filter_le _ _).trans h, fun _ => by simpa using h, id, id⟩

theorem State.quiets_codeTo (s : State) (q : CodingRequest) (r : StrayRecord) (d : Identity)
    (h : s.coding.reinject.length < 16) : Quiets s (s.codeTo q r d) :=
  (s.quiets_moveRecord r _ _ _ h).trans (State.quiets_postResolved _ _ _)

@[simp] theorem State.coding_dropEntryTicket (s : State) (b : BerthId) (i : Nat) :
    (s.dropEntryTicket b i).coding = s.coding := by
  simp [State.dropEntryTicket]

@[simp] theorem State.coding_leaveEntry (s : State) (r : StrayRecord) (d : Option Identity) :
    (s.leaveEntry r d).coding = s.coding := by
  unfold State.leaveEntry
  split
  · rfl
  · split
    · rfl
    · simp

@[simp] theorem State.coding_post (s : State) (p : Principal) (body : NoticeBody) : (s.post p body).coding = s.coding := by
  simp [State.post]

@[simp] theorem State.coding_postResolved (s : State) (bs : List BerthId) (body : NoticeBody) :
    (s.postResolved bs body).coding = s.coding :=
  (forEach_same State.coding _ _ _ fun _ _ _ => State.coding_post _ _ _).trans (State.coding_post _ _ _)

/-- A coding request that is done keeps the exchange as it was and goes by quiet actions. -/
def State.DoneQuietly (s : State) (c : Coded) : Prop :=
  match c with
  | .error _ => True
  | .done t _ => Quiets s t ∧ t.coding.exchange = s.coding.exchange

theorem State.doneQuietly_codeTag (s : State) (ship serial : Nat) (r : StrayRecord) :
    s.DoneQuietly (s.codeTag ship serial r) := by
  unfold State.codeTag
  split
  · trivial
  · split
    · trivial
    · split
      · trivial
      · split
        · trivial
        next hfull =>
          have hroom : s.coding.reinject.length < 16 := Nat.lt_of_not_le hfull
          exact ⟨((s.quiets_leaveEntry r _).trans (State.quiets_setEntryState _ _ _ _ _)).trans
            (State.quiets_codeTo _ _ _ _ (by simpa using hroom)), by simp [State.codeTo, State.moveRecord]⟩

/-- Leaving an entry takes a ticket away and touches no cabin. -/
theorem State.berth_leaveEntry (s : State) (r : StrayRecord) (d : Option Identity) (b : BerthId) :
    ((s.leaveEntry r d).berth b).cabins = (s.berth b).cabins ∧ ((s.leaveEntry r d).berth b).state = (s.berth b).state
      ∧ ((s.leaveEntry r d).berth b).tags.length = (s.berth b).tags.length := by
  unfold State.leaveEntry
  split
  · exact ⟨rfl, rfl, rfl⟩
  next old _ =>
    split
    · exact ⟨rfl, rfl, rfl⟩
    · unfold State.dropEntryTicket
      by_cases h : b = old.berth
      · subst h; simp [Berth.modifyEntry]
      · simp [State.berth_setBerth_ne _ _ h]

theorem BerthState.isOpen_of_isBound {x : BerthState} (h : x.isBound = true) : x.isOpen = true := by
  cases x <;> simp_all [BerthState.isBound, BerthState.isOpen]

theorem State.doneQuietly_codeCabin (s : State) (berth cabin : Nat) (r : StrayRecord) :
    s.DoneQuietly (s.codeCabin berth cabin r) := by
  unfold State.codeCabin
  split
  · trivial
  next b _ =>
    split
    · trivial
    next hbound =>
      split
      · trivial
      next c hc =>
        split
        · trivial
        next hlist =>
          split
          · trivial
          next htags =>
            split
            · trivial
            next hfull =>
              obtain ⟨hcabins, hstate, hlen⟩ := s.berth_leaveEntry r none b
              have hopen := BerthState.isOpen_of_isBound (by simpa using hbound)
              have hroom : s.coding.reinject.length < 16 := Nat.lt_of_not_le hfull
              have made := (Quiet.berth (.makeEntry (s := s.leaveEntry r none) b none cabin .strayed (some r.ticket) c
                (by rw [hstate]; exact hopen) (by rw [Berth.findCabin, hcabins]; exact hc) (Nat.lt_of_not_le hlist)
                (by rw [hlen]; exact Nat.lt_of_not_le htags) fun _ h => nomatch h)).single
              exact ⟨((s.quiets_leaveEntry r none).trans made).trans
                (State.quiets_codeTo _ _ _ _ (by simpa using hroom)), by simp [State.codeTo, State.moveRecord]⟩

theorem State.doneQuietly_removeStray (s : State) (r : StrayRecord) : s.DoneQuietly (.done (s.removeStray r) []) := by
  have dropped := s.quiets_setCoding (s.coding.updates_dropStray (·.ticket != r.ticket))
  unfold State.removeStray
  refine ⟨dropped.trans (.trans ?_ (State.quiets_postResolved _ _ _)), ?_⟩ <;> dsimp only <;> split
  · exact .refl _
  · exact State.quiets_setEntryState _ _ _ _ _
  · simp
  · simp

theorem State.doneQuietly_retryStray (s : State) (r : StrayRecord) : s.DoneQuietly (s.retryStray r) := by
  unfold State.retryStray
  split
  · trivial
  next hfull =>
    exact ⟨(s.quiets_moveRecord r _ _ _ (Nat.lt_of_not_le hfull)).trans (State.quiets_postResolved _ _ _),
      by simp [State.moveRecord]⟩

theorem State.quiets_answer (s : State) (q : CodingRequest) (t : Nat) {records : List Order}
    (hx : s.coding.exchange = none) (hr : records.countP (·.endsExchange) = 1) : Quiets s (s.answer q t records) :=
  (Quiet.field (.answer q t records hx hr)).single

/-- One record of a DONE answer ends its exchange: the last (R182). -/
theorem countP_doneRecords (q : CodingRequest) (t : Nat) (data : List Byte) :
    (doneRecords q t data).countP (·.endsExchange) = 1 := by
  have parts_ne : ∀ n d, cutFives n d ≠ [] := by
    intro n d
    cases n <;> simp [cutFives]
    split <;> simp
  have count : ∀ (ps : List (List Byte)) (i m : Nat), m = i + ps.length → ps ≠ [] →
      (ps.zipIdx i).countP (fun x => x.2 + 1 == m) = 1 := by
    intro ps
    induction ps with
    | nil => exact fun _ _ _ h => absurd rfl h
    | cons p ps ih =>
      intro i m hm _
      cases ps with
      | nil => simp [hm]
      | cons p' ps =>
        rw [List.zipIdx_cons, List.countP_cons, ih (i + 1) m (by rw [hm]; simp; omega) (by simp)]
        simp at hm ⊢
        omega
  unfold doneRecords
  rw [List.countP_map]
  exact count _ 0 _ (by simp) (parts_ne _ _)

theorem State.quiets_codingRequest (s : State) (q : CodingRequest) (t : Nat) {body : StrayRecord → Coded}
    (h : ∀ r, s.DoneQuietly (body r)) : Quiets s (s.codingRequest q t body) := by
  unfold State.codingRequest
  split
  · exact s.quiets_handOver (by rfl)
  next hx =>
    have hx : s.coding.exchange = none := by simpa using hx
    split
    · exact s.quiets_answer q t hx (by rfl)
    · split
      · exact s.quiets_answer q t hx (by rfl)
      · split
        · exact s.quiets_answer q t hx (by rfl)
        next r _ =>
          have hb := h r
          split
          · exact s.quiets_answer q t hx (by rfl)
          next u data heq =>
            rw [heq] at hb
            exact hb.1.trans (State.quiets_answer _ q t (hb.2.trans hx) (countP_doneRecords _ _ _))

theorem State.quiets_consume (s : State) (r : ReinjectRecord) : Quiets s (s.consume r) := by
  have dropped := s.quiets_setCoding
    (x := { s.coding with reinject := s.coding.reinject.filter (·.ticket != r.ticket) })
    ⟨rfl, id, fun h => (List.length_filter_le _ _).trans h, id, id⟩
  unfold State.consume
  dsimp only
  split
  · exact dropped.trans (State.quiets_dropEntryTicket _ _ _)
  · exact dropped

/-! ## Arrivals (R76 to R78, R129) -/

theorem State.quiets_postLaneArrival (s : State) (k : Nat) (c : Carrier) (j : LaneNo) (owner : Principal) :
    Quiets s (s.postLaneArrival k c j owner) :=
  s.quiets_post _ _

theorem State.quiets_postCabin (s : State) (b : BerthId) (c : Cabin) : Quiets s (s.postCabin b c) := by
  unfold State.postCabin
  split
  · exact s.quiets_post _ _
  · split
    · exact s.quiets_post _ _
    · exact .refl s

theorem State.quiets_postArrival (s : State) (d : Identity) (j : LaneNo) (st : EntryState) :
    Quiets s (s.postArrival d j st) := by
  unfold State.postArrival
  split
  · split
    · exact s.quiets_post _ _
    · exact (s.quiets_post _ _).trans (State.quiets_postCabin _ _ _)
  · exact .refl s

theorem State.quiets_recordArrival (s : State) (k : Nat) (d : Identity) (j : LaneNo) (x : Lane) :
    Quiets s (s.recordArrival k d j x) := by
  have recorded := (s.quiets_dropIdentity k (arrivalState x.function (s.carrier k).disposition)).trans
    (State.quiets_postArrival _ d j (arrivalState x.function (s.carrier k).disposition))
  unfold State.recordArrival
  refine recorded.trans (.trans ?_ (State.quiets_testClosing _ _))
  split
  · exact .refl _
  · exact State.quiets_postLaneArrival _ _ _ _ _

theorem State.quiets_handArrival (s : State) (k : Nat) (j : LaneNo) (x : Lane) : Quiets s (s.handArrival k j x) := by
  unfold State.handArrival
  split
  · exact s.quiets_recordArrival k _ j x
  · split
    · exact s.quiets_takeStray k j
    · exact s.quiets_postLaneArrival _ _ _ _

/-! ## Diverts (R125 to R133) -/

theorem State.acts_divertDone (s : State) (k : Nat) (j : LaneNo) (hk : (s.carrier k).isFiredAt j = true) :
    Acts s (s.divertDone k j) := by
  have lowered : Acts s (s.setDiverter j (s.diverter j).lowered) :=
    s.acts_setDiverter j fun h => (Nat.sub_le _ _).trans h
  refine lowered.trans (Acts.trans (Act.land k j (by simpa using hk) ?_).single (State.acts_testDrain _))
  exact State.quiets_handArrival _ k j _

theorem State.acts_takeBack (s : State) (k : Nat) : Acts s (s.takeBack k) :=
  (s.acts_dropTarget k).trans
    (State.quiets_relabel _ k
      (by exact ⟨rfl, rfl, rfl, (fun h => nomatch h), id, fun _ => Nat.min_le_left _ _⟩)).acts

theorem State.acts_settleFailed (s : State) (k : Nat) : Acts s (s.settleFailed k) := by
  unfold State.settleFailed
  split
  · exact .refl s
  · split
    · exact s.acts_becomeStray k _
    · exact s.acts_becomeStray k _
    · exact .refl s

@[simp] theorem State.diverters_dropTargets (s : State) (ks : List Nat) : (s.dropTargets ks).diverters = s.diverters :=
  (s.retargets_dropTargets ks).1 .diverters (by simp)

@[simp] theorem State.diverter_dropTargets (s : State) (ks : List Nat) (j : LaneNo) :
    (s.dropTargets ks).diverter j = s.diverter j := by
  simp [State.diverter]

theorem State.acts_faultLane (s : State) (j : LaneNo) : Acts s (s.faultLane j) :=
  (((s.acts_setLaneState j .faulted).trans (State.acts_dropTargets _ _)).trans
    (State.acts_setDiverter _ j (by simp))).trans (State.acts_dropTargets _ _)

theorem State.acts_failDivert (s : State) (k : Nat) (j : LaneNo) (cause : DivertCause) :
    Acts s (s.failDivert k j cause).state := by
  have back := (s.acts_takeBack k).trans
    (State.acts_setDiverter _ j (v := ((s.takeBack k).diverter j).raised) fun _ => Nat.min_le_left _ _)
  unfold State.failDivert
  dsimp only
  split
  · exact back.trans ((State.acts_faultLane _ j).trans (State.acts_settleFailed _ k))
  · exact back.trans (State.acts_settleFailed _ k)

theorem State.quiets_postFault (s : State) (r : FaultReport) : Quiets s (s.postFault r) := s.quiets_postOwner _ _

theorem Failure.acts_finish (f : Failure) : Acts f.state f.finish :=
  (State.acts_chooseAll _ _).trans (forEach_quiets State.quiets_postFault _ _).acts

theorem State.acts_timeouts (s : State) : Acts s s.timeouts.1.state := by
  have keep : ∀ (ks : List Nat) (acc : Failure × List FaultReport), Acts s acc.1.state →
      Acts s (ks.foldl (fun acc k =>
        match acc.1.state.timedOutAt k with
        | none => acc
        | some j =>
          let f := acc.1.state.failDivert k j .noReport
          (⟨f.state, acc.1.wants ++ f.wants, none⟩, acc.2 ++ f.report.toList)) acc).1.state := by
    intro ks
    induction ks with
    | nil => exact fun _ h => h
    | cons k ks ih =>
      intro acc h
      refine ih _ ?_
      dsimp only
      split
      · exact h
      · exact h.trans (State.acts_failDivert _ _ _ _)
  exact keep _ _ (.refl s)

@[simp] theorem State.diverter_handOver (s : State) (o : Order) (j : LaneNo) :
    (s.handOver o).diverter j = s.diverter j := by
  unfold State.handOver
  split <;> rfl

theorem State.acts_fireAt (s : State) (j : LaneNo) : Acts s (s.fireAt j) := by
  unfold State.fireAt
  split
  · exact .refl s
  · split
    · exact ((s.quiets_handOver (by rfl)).acts.trans (State.acts_setDiverter _ j (by simp))).trans
        (State.quiets_relabel _ _ (by exact ⟨rfl, rfl, rfl, (fun h => nomatch h), id, id⟩)).acts
    · exact .refl s

theorem State.acts_fireAll (s : State) : Acts s s.fireAll := forEach_acts State.acts_fireAt _ s

theorem State.acts_armOne (s : State) (k : Nat) : Acts s (s.armOne k) := by
  unfold State.armOne
  split
  · exact .refl s
  · split
    · exact (s.quiets_relabel k (c := { s.carrier k with armed := true }) ⟨rfl, rfl, rfl, id, id, id⟩).acts.trans
        (State.acts_setDiverter _ _ (by exact id))
    · exact .refl s

theorem State.acts_armAll (s : State) : Acts s s.armAll := by
  unfold State.armAll
  split
  · exact forEach_acts State.acts_armOne _ s
  · exact .refl s

/-! ## Induction (R23 to R30) -/

theorem PointAct.acts {s t : State} (h : PointAct s t) : Acts s t := (Act.point h).single

theorem State.acts_present (s : State) (i : PointNo) (size : SizeClass) (ticket : Nat) :
    Acts s (s.present i size ticket) := by
  unfold State.present
  split
  · exact (s.quiets_handOver (by rfl)).acts
  next hpart =>
    split
    · exact (s.quiets_handOver (by rfl)).acts
    · split
      · exact (s.quiets_handOver (by rfl)).acts
      next hnone =>
        refine PointAct.acts (.present i _ (by simpa using hpart) (by simpa using hnone) ?_ (Nat.zero_le _))
        dsimp only
        split
        next hmark => exact fun _ => hmark
        next => exact fun h => absurd rfl h

theorem State.acts_withdrawBag (s : State) (i : PointNo) : Acts s (s.withdrawBag i) := by
  unfold State.withdrawBag
  split
  · exact PointAct.acts (.clearWaiting i)
  · exact .refl s

theorem State.acts_load (s : State) (i : PointNo) (k : Nat) (w : Waiting) (t : Option Nat) (st : CarrierState)
    (hk : (s.carrier k).state = .empty) : Acts s (s.setCarrier k { loadedCarrier i w t with state := st }) :=
  (Act.carrier (.load k _ hk rfl rfl rfl rfl)).single

@[simp] theorem State.carriers_consume (s : State) (r : ReinjectRecord) : (s.consume r).carriers = s.carriers := by
  unfold State.consume
  split <;> simp [State.dropEntryTicket]

theorem State.acts_loadBag (s : State) (i : PointNo) (k : Nat) (w : Waiting) (hk : (s.carrier k).state = .empty) :
    Acts s (s.loadBag i k w).1 := by
  unfold State.loadBag
  split
  · unfold State.grantTicketed
    split
    · exact s.acts_load i k w none .unread hk
    next r _ =>
      have consumed := (s.quiets_consume r).acts
      have hk' : ((s.consume r).carrier k).state = .empty := by simpa [State.carrier] using hk
      split
      · exact consumed.trans (State.acts_load _ i k w _ .unread hk')
      · exact consumed.trans ((State.acts_load _ i k w none .carrying hk').trans (State.acts_matchEntry _ k _))
  · exact s.acts_load i k w none .unread hk

@[simp] theorem State.carriers_handOver (s : State) (o : Order) : (s.handOver o).carriers = s.carriers := by
  unfold State.handOver
  split <;> rfl

@[simp] theorem State.carrier_handOver (s : State) (o : Order) (k : Nat) : (s.handOver o).carrier k = s.carrier k := by
  simp [State.carrier]

/-- The end of a reservation changes of a record its reservation alone. -/
theorem State.carrier_endReservation (s : State) (i : PointNo) (k : Nat) :
    (s.endReservation i).carrier k = (s.carrier k).unreserve i := by
  simp only [State.carrier, State.endReservation, State.setCarriers_carriers, List.getD_eq_getElem?_getD,
    List.getElem?_map]
  cases s.carriers.table[k]? <;> rfl

@[simp] theorem State.carrier_removeWaiting (s : State) (i : PointNo) (k : Nat) :
    (s.removeWaiting i).carrier k = s.carrier k := rfl

theorem State.acts_grant (s : State) (i : PointNo) (k : Nat) (w : Waiting) (hk : (s.carrier k).state = .empty) :
    Acts s (s.grant i k w).1 := by
  refine ((s.quiets_handOver (o := .grant i k) rfl).acts.trans (PointAct.acts (.clearWaiting i))).trans ?_
  refine State.acts_loadBag _ i k w ?_
  rw [State.carrier_removeWaiting, State.carrier_endReservation, State.carrier_handOver]
  exact hk

@[simp] theorem State.mode_setPoint (s : State) (i : PointNo) (x : Point) : (s.setPoint i x).mode = s.mode := rfl

theorem State.acts_waitOn (s : State) (i : PointNo) (d k : Nat) (w : Waiting) (hw : (s.point i).waiting = some w) :
    Acts s (s.waitOn i d k w) := by
  have lapsed : ∃ u, u = (if (s.carrier k).reservation = some i then
      s.setCarrier k { s.carrier k with reservation := none } else s) ∧ Acts s u ∧ u.point i = s.point i := by
    refine ⟨_, rfl, ?_⟩
    split
    · exact ⟨PointAct.acts (.lapse k), by simp⟩
    · exact ⟨.refl s, rfl⟩
  obtain ⟨u, hu, hs, hp⟩ := lapsed
  have hwait : (u.point i).waiting = some w := hp ▸ hw
  have waited := hs.trans (PointAct.acts (.wait i w (raiseTo 255 w.wait 1) hwait (Nat.min_le_left _ _)))
  unfold State.waitOn
  rw [← hu]
  dsimp only
  split
  next hres =>
    simp only [Bool.and_eq_true, beq_iff_eq, Bool.not_eq_true'] at hres
    refine waited.trans ?_
    unfold State.reserve
    split
    · exact .refl _
    · exact PointAct.acts (.reserve i _ hres.1.1 (by simp) hres.2)
  next => exact waited

theorem State.acts_induct (s : State) : Acts s s.induct.state := by
  have keep : ∀ (is : List PointNo) (g : Granting), Acts s g.state → Acts s (is.foldl Granting.pointStep g).state := by
    intro is
    induction is with
    | nil => exact fun _ h => h
    | cons i is ih =>
      intro g h
      refine ih _ (h.trans ?_)
      unfold Granting.pointStep
      dsimp only
      split
      next d w _ _ hw =>
        split
        next hg =>
          simp only [State.grants, Bool.and_eq_true, beq_iff_eq] at hg
          exact State.acts_grant _ i _ w hg.1.2
        next => exact State.acts_waitOn _ i d _ w hw
      next => exact .refl _
  exact keep _ _ (.refl s)

/-! ## Reading (R39 to R50) -/

theorem State.acts_setStation (s : State) (n : StationNo) {x : Station} (hr : (s.station n).Reads → x.Reads)
    (hs : (s.station n).ScoresFit → x.ScoresFit) : Acts s (s.setStation n x) :=
  (Act.station (.station n x hr hs)).single

theorem State.acts_sendPoll (s : State) (n : StationNo) (w : Window) : Acts s (s.sendPoll n w) :=
  (s.acts_setStation n (by exact fun h => ⟨h.1, h.2, h.3, h.4, Nat.mod_lt _ (by decide), h.6⟩) (by exact id)).trans
    (State.quiets_handOver _ (by rfl)).acts

theorem Station.head_setHead (x : Station) (h g : Nat) (r : HeadRecord) :
    (x.setHead h r).head g = if g = h ∧ h < 8 then r else x.head g := by
  unfold Station.head Station.setHead
  by_cases hh : h < 8
  · by_cases hg : g = h
    · subst hg; simp [hh]
    · simp [Ne.symm hg, hg]
  · have : x.headRecords.setIfInBounds h r = x.headRecords := by
      ext i hi
      simp [Vector.getElem_setIfInBounds]
      omega
    simp [this, hh]

theorem Station.scoresFit_setHead {x : Station} (hx : x.ScoresFit) (h : Nat) {r : HeadRecord} (hr : r.score ≤ 255) :
    (x.setHead h r).ScoresFit := by
  intro g
  rw [x.head_setHead]
  split
  · exact hr
  · exact hx g

/-- A head's record changed without suspending it leaves the polled heads as they were. -/
theorem Station.polled_setHead (x : Station) (h : Nat) {r : HeadRecord} (hr : r.suspended = (x.head h).suspended) :
    (x.setHead h r).polled = x.polled := by
  unfold Station.polled
  refine List.filter_congr fun g _ => ?_
  rw [x.head_setHead]
  split
  next hg => rw [hr, hg.1]
  next => rfl

theorem Station.reads_setHead {x : Station} (hx : x.Reads) (h : Nat) {r : HeadRecord}
    (hr : (x.setHead h r).polled ≠ []) : (x.setHead h r).Reads :=
  ⟨hx.1, hx.2, hx.3, hx.4, hx.5, hr⟩

theorem HeadRecord.scored_suspended (r : HeadRecord) (t : Tag) (a : Option Tag) :
    (r.scored t a).suspended = r.suspended := by
  cases a with
  | none => rfl
  | some u => simp only [HeadRecord.scored]; split <;> rfl

theorem HeadRecord.scored_score {r : HeadRecord} (h : r.score ≤ 255) (t : Tag) (a : Option Tag) :
    (r.scored t a).score ≤ 255 := by
  cases a with
  | none => exact Nat.min_le_left _ _
  | some u =>
    simp only [HeadRecord.scored]
    split
    · exact (Nat.sub_le _ _).trans h
    · exact Nat.min_le_left _ _

theorem Station.scored_keeps (answers : List Answer) (t : Tag) (x : Station) :
    (x.Reads → (x.scored answers t).Reads) ∧ (x.ScoresFit → (x.scored answers t).ScoresFit) := by
  induction answers generalizing x with
  | nil => exact ⟨id, id⟩
  | cons a answers ih =>
    obtain ⟨hr, hs⟩ := ih (x.setHead a.head ((x.head a.head).scored t a.result))
    refine ⟨fun h => hr (Station.reads_setHead h _ ?_), fun h => hs (Station.scoresFit_setHead h _ ?_)⟩
    · rw [x.polled_setHead _ (HeadRecord.scored_suspended _ _ _)]
      exact h.6
    · exact HeadRecord.scored_score (h _) _ _

theorem State.acts_judgeHead (s : State) (n : StationNo) (h : Nat) : Acts s (s.judgeHead n h) := by
  have same (b : Bool) : Acts s (s.setStation n ((s.station n).setHead h { (s.station n).head h with degraded := b })) :=
    s.acts_setStation n
      (fun hr => Station.reads_setHead hr h (by rw [Station.polled_setHead _ _ (by rfl)]; exact hr.6))
      fun hs => Station.scoresFit_setHead hs h (hs h)
  unfold State.judgeHead
  dsimp only
  split
  · exact .refl s
  next hsusp =>
    split
    · split
      next hother =>
        obtain ⟨g, hg, hne⟩ := List.any_eq_true.1 hother
        refine s.acts_setStation n (fun hr => Station.reads_setHead hr h ?_) fun hs =>
          Station.scoresFit_setHead hs h (hs h)
        refine List.ne_nil_of_mem (a := g) ?_
        simp only [Station.polled, List.mem_filter] at hg ⊢
        refine ⟨hg.1, ?_⟩
        rw [Station.head_setHead, if_neg fun hgh => by simp [hgh.1] at hne]
        exact hg.2
      next =>
        split
        · exact .refl s
        · exact (same true).trans (State.quiets_post _ _ _).acts
    · exact same false

theorem State.acts_scoreHeads (s : State) (n : StationNo) (answers : List Answer) (t : Tag) :
    Acts s (s.scoreHeads n answers t) :=
  (s.acts_setStation n (Station.scored_keeps answers t _).1 (Station.scored_keeps answers t _).2).trans
    (forEach_acts (fun s h => s.acts_judgeHead n h) _ _)

theorem State.acts_closeWindow (s : State) (n : StationNo) (w : Window) : Acts s (s.closeWindow n w) := by
  have closed := (s.acts_setStation n (x := { s.station n with window := none })
    (fun h => ⟨h.1, h.2, h.3, h.4, h.5, h.6⟩) id).trans (State.acts_takeOutcome _ w.carrier (tally w.answers w.votes))
  unfold State.closeWindow
  dsimp only
  split
  · exact closed.trans (State.acts_scoreHeads _ _ _ _)
  all_goals exact closed

theorem State.acts_takeAnswer (s : State) (n : StationNo) (w : Window) (head : Nat) (result : Option Tag) :
    Acts s (s.takeAnswer n w head result) := by
  unfold State.takeAnswer
  dsimp only
  split
  · split
    · exact (s.acts_closeWindow n _).trans (State.acts_chooseTarget _ _)
    · exact s.acts_closeWindow n _
  · exact s.acts_sendPoll n _

theorem State.acts_closeWindows (s : State) : Acts s s.closeWindows.1 := by
  have keep : ∀ (ns : List StationNo) (acc : State × List Nat), Acts s acc.1 →
      Acts s (ns.foldl (fun acc n =>
        match (acc.1.station n).window with
        | none => acc
        | some w =>
          (acc.1.closeWindow n w, acc.2 ++ if (acc.1.carrier w.carrier).awaitsRead then [w.carrier] else [])) acc).1 := by
    intro ns
    induction ns with
    | nil => exact fun _ h => h
    | cons n ns ih =>
      intro acc h
      refine ih _ ?_
      dsimp only
      split
      · exact h
      · exact h.trans (State.acts_closeWindow _ _ _)
  exact keep _ _ (.refl s)

theorem State.acts_openWindows (s : State) (excluded : List Nat) : Acts s (s.openWindows excluded) := by
  refine forEach_acts (fun s n => ?_) _ s
  unfold State.considerWindow
  split
  · dsimp only
    split
    · exact s.acts_sendPoll n _
    · exact .refl s
  · exact .refl s

/-! ## The advance (R3) -/

theorem State.acts_passOn (s : State) (mark : Bool) : Acts s (s.passOn mark).state := by
  have read : Acts s (s.track mark).1.induct.state.closeWindows.1 :=
    (s.acts_track mark).trans ((State.acts_induct _).trans (State.acts_closeWindows _))
  unfold State.passOn
  dsimp only
  refine .trans ?_ ((State.acts_timeouts _).trans ((State.acts_fireAll _).trans (State.acts_armAll _)))
  split
  · exact (read.trans (State.acts_openWindows _ _)).trans (State.acts_countLaps _ _)
  · exact read.trans (State.acts_openWindows _ _)

theorem Advance.acts_finish (a : Advance) : Acts a.state a.finish :=
  (State.acts_chooseAll _ _).trans (forEach_quiets State.quiets_postFault _ _).acts

end Sys2Proof.Machine

/-! SUPPORT. Every command and event as a chain of actions. -/

namespace Sys2Proof.Machine

/-- What a command's body answers is a chain of actions. -/
def State.TakenBy (s : State) (x : Taken) : Prop :=
  match x with
  | .refused _ => True
  | .ok t _ => Acts s t

theorem State.takenBy_same (s : State) (data : List Byte) : s.TakenBy (.ok s data) := Acts.refl s

/-- What the body of a command on links answers is a chain of deeds. -/
def State.ServedBy (s : State) (x : Taken) : Prop :=
  match x with
  | .refused _ => True
  | .ok t _ => Deeds s t

theorem State.TakenBy.served {s : State} {x : Taken} (h : s.TakenBy x) : s.ServedBy x := by
  cases x with
  | refused r => trivial
  | ok t data => exact Acts.deeds h

/-! ## Replies (R171) -/

theorem LinkAct.deeds {s t : State} (h : LinkAct s t) : Deeds s t := (Deed.link h).single

theorem State.deeds_setLink (s : State) (l : LinkNo) {x : Link} (h : (s.link l).Updates x) : Deeds s (s.setLink l x) :=
  LinkAct.deeds (.update l x h)

theorem State.deeds_addReplies (s : State) (l : LinkNo) (frames : List OutFrame) : Deeds s (s.addReplies l frames) :=
  s.deeds_setLink l ⟨rfl, .inl rfl, id, id, id, id, id⟩

theorem State.deeds_setLastServed (s : State) (l : LinkNo) : Deeds s (s.setLastServed l) := LinkAct.deeds (.served l)

theorem State.deeds_replyRefused (s : State) (l : LinkNo) (tag : Byte) (code : Nat) (r : RefusalCode) :
    Deeds s ((s.setLastServed l).replyRefused l tag code r) :=
  (s.deeds_setLastServed l).trans (State.deeds_addReplies _ _ _)

theorem State.deeds_takeCommand (s : State) (l : LinkNo) (tag : Byte) (code : Nat) {body : Principal → State → Taken}
    (h : ∀ p, (s.setLastServed l).ServedBy (body p (s.setLastServed l))) : Deeds s (s.takeCommand l tag code body) := by
  rcases s.takeCommand_cases l tag code body with ⟨_, ht⟩ | ⟨r, _, ht⟩ | ⟨p, t, data, _, hb, ht⟩ <;> rw [ht]
  · exact .refl s
  · exact s.deeds_replyRefused l tag code r
  · have hp := h p
    rw [hb] at hp
    exact (s.deeds_setLastServed l).trans (Deeds.trans hp (State.deeds_addReplies _ _ _))

/-! ## Modes (R152 to R161) -/

theorem State.takenBy_requestMode (s : State) (m : Mode) : s.TakenBy (s.requestMode m) := by
  have change (new : Mode) (hnew : new ≠ .setup) (data : List Byte) :
      s.TakenBy (.ok (s.changeMode new .setMode) data) :=
    s.acts_changeMode _ fun h => absurd h hnew
  have drain : Acts s (s.changeMode .draining .setMode).testDrain :=
    (s.acts_changeMode (new := .draining) .setMode (by simp)).trans (State.acts_testDrain _)
  unfold State.requestMode
  dsimp only
  split
  · split
    · exact change _ (by decide) _
    · trivial
  · exact s.takenBy_same _
  · exact s.takenBy_same _
  · exact change _ (by decide) _
  · exact drain
  · exact change _ (by decide) _
  · exact s.takenBy_same _
  · exact drain
  · exact change _ (by decide) _
  · exact s.takenBy_same _
  · exact s.acts_exitHalted
  · trivial

theorem State.takenBy_setMode (s : State) (mode : Nat) (p : Principal) : s.TakenBy (setModeBody mode p s) := by
  unfold setModeBody
  split
  · trivial
  · split
    · exact s.takenBy_requestMode _
    · exact s.takenBy_requestMode _
    · exact s.takenBy_requestMode _
    · trivial

theorem State.acts_returnEntries (s : State) : Acts s s.returnEntries :=
  (forEach_quiets (fun s _ => s.quiets_setEntryState _ _ _ _) _ _).acts

theorem State.emptyLoop_eq (s : State) :
    s.emptyLoop = s.abandonWindows.emptyQueues.returnEntries.vacate.emptyPendingTags := rfl

theorem State.acts_emptyLoop (s : State) : Acts s s.emptyLoop := by
  rw [State.emptyLoop_eq]
  exact ((s.acts_abandonWindows.trans (State.acts_emptyQueues _)).trans (State.acts_returnEntries _)).trans
    (Act.vacate.single.trans (State.acts_emptyPendingTags _))

@[simp] theorem State.carriers_vacate (s : State) :
    s.vacate.carriers = CarrierTable.allEmpty s.carriers.table.length := by
  unfold State.vacate
  exact forEach_same State.carriers (fun s j => s.setLane j { s.lane j with inbound := 0 }) allLanes _ fun _ _ _ => rfl

@[simp] theorem State.carriers_emptyLoop (s : State) :
    s.emptyLoop.carriers = CarrierTable.allEmpty s.abandonWindows.emptyQueues.returnEntries.carriers.table.length := by
  rw [State.emptyLoop_eq, State.emptyPendingTags, State.setRouter_carriers, State.carriers_vacate]

theorem State.takenBy_forceSetup (s : State) (p : Principal) : s.TakenBy (forceSetupBody p s) := by
  unfold forceSetupBody
  split
  · trivial
  · have empty := s.acts_emptyLoop
    refine Acts.trans ?_ (State.quiets_testAllClosing _).acts
    split
    · exact empty
    · refine empty.trans (State.acts_changeMode _ _ fun _ => .inl ?_)
      rw [State.carriers_emptyLoop]
      rfl

theorem Lane.updates_cleared (x : Lane) (isOpen : BerthId → Prop) : x.Updates x.cleared isOpen :=
  ⟨rfl, fun h => ⟨by simp [Lane.cleared]; omega, h.2⟩, fun _ => .inl, id, id⟩

theorem State.takenBy_clearSort (s : State) (p : Principal) : s.TakenBy (clearSortBody p s) := by
  unfold clearSortBody
  split
  · trivial
  · split
    · trivial
    · have lanes := forEach_acts
        (f := fun s j => (s.setLane j (s.lane j).cleared).setDiverter j { s.diverter j with score := 0 })
        (fun s j => (s.acts_setLane j (Lane.updates_cleared _ _)).trans
          (State.acts_setDiverter _ j fun _ => Nat.zero_le _)) allLanes s
      refine (lanes.trans (forEach_quiets (fun s d => s.quiets_setEntryState _ _ _ _) _ _).acts).trans
        (Acts.trans (State.quiets_setCoding _ ?_).acts
          (((State.quiets_post _ _ _).trans (State.quiets_post _ _ _)).trans (State.quiets_post _ _ _)).acts)
      refine ⟨?_, fun _ => Nat.zero_le _, fun _ => Nat.zero_le _, fun _ => ⟨Nat.le_refl 1, by simp [Coding.reset]⟩, fun _ => Nat.zero_le _⟩
      exact rfl

/-! ## Settings -/

theorem clampTo_le {low high : Nat} (n : Nat) (h : low ≤ high) : clampTo low high n ≤ high := by
  unfold clampTo; omega

theorem le_clampTo (low high n : Nat) : low ≤ clampTo low high n := Nat.le_max_left _ _

theorem State.takenBy_setLapLimits (s : State) (m w : Nat) (p : Principal) : s.TakenBy (setLapLimitsBody m w p s) := by
  unfold setLapLimitsBody
  split
  · trivial
  · exact (Act.router _ (by exact ⟨fun _ => ⟨le_clampTo _ _ _, clampTo_le _ (by decide)⟩,
      fun _ => clampTo_le _ (by decide), id⟩)).single

theorem State.takenBy_setLoadLimit (s : State) (n : Nat) (p : Principal) : s.TakenBy (setLoadLimitBody n p s) := by
  unfold setLoadLimitBody
  split
  · trivial
  · exact PointAct.acts (.limits _ _ (fun h => ⟨le_clampTo _ _ _, clampTo_le _ (by omega)⟩) (by exact id))

theorem State.takenBy_setStarveLimit (s : State) (n : Nat) (p : Principal) : s.TakenBy (setStarveLimitBody n p s) := by
  unfold setStarveLimitBody
  split
  · trivial
  · exact PointAct.acts (.limits _ _ (by exact fun h => ⟨h.1, h.2.1⟩)
      fun h => ⟨le_clampTo _ _ _, clampTo_le _ (by decide)⟩)

theorem State.takenBy_configureLoop (s : State) (c k : Nat) (p : Principal) : s.TakenBy (configureLoopBody c k p s) := by
  unfold configureLoopBody
  split
  · trivial
  · split
    · trivial
    next hmode =>
      split
      · trivial
      next hc =>
        split
        · trivial
        · exact (Act.reshape c (clampTo 2 15 k) (by simpa using hmode) (by simpa using hc)
            ⟨le_clampTo _ _ _, clampTo_le _ (by decide)⟩).single

/-! ## Points and stations (R33, R37, R38, R51) -/

theorem State.acts_unmarkOthers (s : State) (i : PointNo) : Acts s (s.unmarkOthers i) := by
  refine forEach_acts (fun s q => ?_) _ s
  split
  · exact PointAct.acts (.unmark q)
  · exact .refl s

/-- R33: no other point keeps the mark. -/
theorem State.mark_unmarkOthers (s : State) (i q : PointNo) :
    (s.unmarkOthers i).point q = if q ≠ i ∧ (s.point q).mark then (s.point q).unmark else s.point q := by
  have keep : ∀ (qs : List PointNo) (s : State), qs.Nodup →
      (forEach qs (fun s q => if q ≠ i ∧ (s.point q).mark then s.setPoint q (s.point q).unmark else s) s).point q
        = if q ∈ qs ∧ q ≠ i ∧ (s.point q).mark then (s.point q).unmark else s.point q := by
    intro qs
    induction qs with
    | nil => exact fun s _ => by simp [forEach]
    | cons a qs ih =>
      intro s hd
      obtain ⟨ha, hd⟩ := List.nodup_cons.1 hd
      rw [forEach, List.foldl_cons, ← forEach, ih _ hd]
      by_cases hq : q = a
      · subst hq
        by_cases hm : q ≠ i ∧ (s.point q).mark = true
        · simp [ha, hm]
        · simp [ha, hm]
      · by_cases hm : a ≠ i ∧ (s.point a).mark = true
        · simp [hm, hq, State.point_setPoint_ne _ _ hq]
        · simp [hm, hq]
  rw [State.unmarkOthers, keep allPoints s (List.nodup_finRange 6)]
  simp [allPoints]

/-- R33: a configured point that takes part keeps its bag, one that does not turns it away. -/
theorem State.acts_configurePoint (u : State) (i : PointNo) (o : Option Nat) (e m : Bool)
    (others : m = true → ∀ q, q ≠ i → (u.point q).mark = false) :
    Acts u ((u.setPoint i ((u.point i).configured o e m)).turnAway i) := by
  have hmark : ((u.point i).configured o e m).mark = m := by cases m <;> rfl
  have hticket : ∀ w ∈ ((u.point i).configured o e m).waiting, w.ticket ≠ none → m = true := by
    cases m <;> simp [Point.configured, Point.unmark]
  have hwait : ∀ w ∈ ((u.point i).configured o e m).waiting, ∃ w' ∈ (u.point i).waiting, w.wait = w'.wait := by
    cases m
    · simpa [Point.configured, Point.unmark] using fun w hw => ⟨w, hw, rfl⟩
    · exact fun w hw => ⟨w, hw, rfl⟩
  have hsome : ((u.point i).configured o e m).waiting.isSome = (u.point i).waiting.isSome := by
    cases m <;> simp [Point.configured, Point.unmark]
  generalize (u.point i).configured o e m = y at *
  unfold State.turnAway
  split
  next hturn =>
    have heq : ((u.setPoint i y).removeWaiting i).endReservation i
        = ((u.endReservation i).removeWaiting i).setPoint i { y with waiting := none } := by
      simp [State.removeWaiting, State.endReservation, State.setPoint, State.setInduction, State.setCarriers, State.point]
    rw [heq]
    refine ((PointAct.acts (.clearWaiting i)).trans (PointAct.acts (.configure i _ ?_ ?_ ?_ ?_))).trans
      (State.quiets_handOver _ (by rfl)).acts
    · simp [State.removeWaiting]
    · simp
    · simp
    · intro hm q hq
      rw [State.removeWaiting, State.point_setPoint_ne _ _ hq]
      exact others (hmark ▸ hm) q hq
  next hturn =>
    refine PointAct.acts (.configure i y hsome (fun w hw => ⟨?_, fun ht => ?_⟩) hwait fun hm q hq => others (hmark ▸ hm) q hq)
    · have : y.waiting.isSome = true := by rw [Option.mem_def.1 hw]; rfl
      simpa [this] using hturn
    · rw [hmark]; exact hticket w hw ht

theorem State.takenBy_configureInductionPoint (s : State) (n : Nat) (o : Option Nat) (e m : Bool) (p : Principal) :
    s.TakenBy (configureInductionPointBody n o e m p s) := by
  unfold configureInductionPointBody
  split
  · trivial
  · split
    · trivial
    next i _ =>
      dsimp only
      split
      · trivial
      · split
        · trivial
        · split
          · trivial
          · split
            · trivial
            · refine Acts.trans (t := if m = true then s.unmarkOthers i else s) ?_ ?_
              · split
                · exact s.acts_unmarkOthers i
                · exact .refl s
              · have others : m = true → ∀ q, q ≠ i →
                    ((if m = true then s.unmarkOthers i else s).point q).mark = false := by
                  intro hm q hq
                  rw [if_pos hm, State.mark_unmarkOthers]
                  by_cases hmark : (s.point q).mark = true
                  · simp [hq, hmark, Point.unmark]
                  · simp [hmark]
                generalize (if m = true then s.unmarkOthers i else s) = u at others ⊢
                exact u.acts_configurePoint i o e m others

theorem State.takenBy_setReadVoting (s : State) (n w v : Nat) (p : Principal) :
    s.TakenBy (setReadVotingBody n w v p s) := by
  have h1 := le_clampTo 1 16 w
  have h2 := clampTo_le (low := 1) (high := 16) w (by decide)
  have h3 := le_clampTo 1 8 v
  have h4 := clampTo_le (low := 1) (high := 8) v (by decide)
  unfold setReadVotingBody
  split
  · trivial
  · split
    · trivial
    · refine s.acts_setStation _ (fun h => ⟨h.1, h.2, ⟨h1, h2⟩, ?_, h.5, h.6⟩) id
      simp only; omega

theorem State.takenBy_restoreHead (s : State) (n h : Nat) (p : Principal) : s.TakenBy (restoreHeadBody n h p s) := by
  unfold restoreHeadBody
  split
  · trivial
  · split
    · trivial
    next n _ =>
      dsimp only
      split
      · trivial
      · split
        · trivial
        next hlt =>
          refine s.acts_setStation n (fun hr => Station.reads_setHead hr h ?_) fun hs =>
            Station.scoresFit_setHead hs h (Nat.zero_le _)
          refine List.ne_nil_of_mem (a := h) (List.mem_filter.2 ⟨List.mem_range.2 (Nat.lt_of_not_le hlt), ?_⟩)
          have h8 : h < 8 := (Nat.lt_of_not_le hlt).trans_le hr.heads.2
          simp [Station.head_setHead, h8, HeadRecord.clear]

theorem canonicalSet_nodup (hs : List Nat) : (canonicalSet hs).Nodup := (List.nodup_range).filter _

theorem mem_canonicalSet {hs : List Nat} {h : Nat} (hm : h ∈ canonicalSet hs) : h ∈ hs := by
  simpa using (List.mem_filter.1 hm).2

theorem length_canonicalSet_le (hs : List Nat) : (canonicalSet hs).length ≤ hs.length :=
  (List.subperm_of_subset (canonicalSet_nodup hs) fun _ => mem_canonicalSet).length_le

theorem State.takenBy_configureReadStation (s : State) (n : Nat) (o : Option Nat) (hs : Nat) (ps : List Nat) (e : Bool)
    (p : Principal) : s.TakenBy (configureReadStationBody n o hs ps e p s) := by
  unfold configureReadStationBody
  split
  · trivial
  split
  · trivial
  next n _ =>
    dsimp only
    split
    · trivial
    split
    · trivial
    next hheads =>
      split
      · trivial
      next hprio =>
        split
        · trivial
        split
        · trivial
        split
        · trivial
        split
        · trivial
        have hheads : 1 ≤ hs ∧ hs ≤ 8 := by simpa [Nat.one_le_iff_ne_zero] using hheads
        have hprio : ps.length ≤ 4 ∧ ∀ h ∈ ps, h < hs := by simpa using hprio
        refine s.acts_setStation n (fun hr => ⟨hheads, ⟨(length_canonicalSet_le ps).trans hprio.1,
          canonicalSet_nodup ps, fun h hm => hprio.2 h (mem_canonicalSet hm)⟩, hr.3, hr.4, hr.5, ?_⟩) fun hf h => ?_
        · by_cases hsame : (s.station n).offset = o ∧ (s.station n).heads = hs
          · have := hr.6
            simpa [Station.polled, Station.head, Station.configured, hsame.1, hsame.2] using this
          · refine List.ne_nil_of_mem (a := 0) (List.mem_filter.2 ⟨List.mem_range.2 hheads.1, ?_⟩)
            simp [Station.head, Station.configured, hsame, HeadRecord.clear]
        · by_cases hsame : (s.station n).offset = o ∧ (s.station n).heads = hs
          · simpa [Station.head, Station.configured, hsame.1, hsame.2] using hf h
          · by_cases h8 : h < 8 <;> simp [Station.head, Station.configured, hsame, HeadRecord.clear, h8]

/-! ## Lanes (R105 to R120) -/

theorem State.takenBy_asOwner (s : State) (p : Principal) (lane : Nat) {body : LaneNo → Lane → Taken}
    (h : ∀ j, (s.lane j).owner = p → s.TakenBy (body j (s.lane j))) : s.TakenBy (asOwner p s lane body) := by
  unfold asOwner
  split
  · trivial
  · split
    next howner => exact h _ howner
    next => trivial

theorem State.acts_changeLane (s : State) (j : LaneNo) {x : Lane} (cause : LaneCause)
    (h : (s.lane j).Updates x fun b => (s.berth b).state.isOpen = true) : Acts s (s.changeLane j x cause) :=
  ((s.acts_setLane j h).trans (State.acts_rechooseLane _ j)).trans (State.quiets_postOwner _ _ _).acts

theorem State.acts_postedState (s : State) (j : LaneNo) (st : LaneState) (cause : LaneCause) :
    Acts s ((s.setLane j { s.lane j with state := st }).postLaneState j cause) :=
  (s.acts_setLaneState j st).trans (State.quiets_postOwner _ _ _).acts

theorem State.acts_changeLaneState (s : State) (j : LaneNo) (st : LaneState) (cause : LaneCause) :
    Acts s (s.changeLane j { s.lane j with state := st } cause) :=
  s.acts_changeLane j cause ⟨rfl, id, fun _ => .inl, id, id⟩

theorem Lane.updates_capacity (x : Lane) (o : Option Nat) (c : Nat) (isOpen : BerthId → Prop) :
    x.Updates { x with offset := o, capacity := x.clampCapacity c } isOpen :=
  ⟨rfl, fun h => by simp only [Lane.clampCapacity]; omega, fun _ => .inl, id, id⟩

theorem State.takenBy_configureLane (s : State) (n : Nat) (o : Option Nat) (c : Nat) (p : Principal) :
    s.TakenBy (configureLaneBody n o c p s) := by
  unfold configureLaneBody
  split
  · trivial
  split
  · trivial
  split
  · trivial
  next j _ =>
    dsimp only
    split
    · trivial
    split
    · trivial
    have stored := s.acts_setLane j (Lane.updates_capacity (s.lane j) o c _)
    unfold State.TakenBy
    dsimp only
    split
    · exact stored
    · exact stored.trans (State.acts_setDiverter _ j fun _ => Nat.zero_le _)

theorem State.takenBy_setLaneCapacity (s : State) (n c : Nat) (p : Principal) :
    s.TakenBy (setLaneCapacityBody n c p s) := by
  unfold setLaneCapacityBody
  split
  · trivial
  split
  · trivial
  next j _ => exact s.acts_setLane j (Lane.updates_capacity (s.lane j) (s.lane j).offset c _)

theorem State.takenBy_claimLane (s : State) (n : Nat) (p : Principal) : s.TakenBy (claimLaneBody n p s) := by
  unfold claimLaneBody claimLaneBody.asManifestOwner
  split
  · trivial
  next b =>
    split
    next hopen =>
      dsimp only
      split
      · trivial
      next j _ =>
        split
        · trivial
        · refine .trans (s.acts_setLane j ?_) (State.quiets_postOwner _ _ _).acts
          refine ⟨rfl, id, fun c hc => .inr ?_, fun _ => rfl, fun _ h => absurd rfl h⟩
          obtain rfl := Principal.berth.inj hc
          exact hopen
    next => trivial

theorem State.acts_returnLane (s : State) (j : LaneNo) : Acts s (s.returnLane j) :=
  (s.acts_setLane_returned j).trans (State.acts_rechooseLane _ j)

theorem State.takenBy_releaseLane (s : State) (n : Nat) (p : Principal) : s.TakenBy (releaseLaneBody n p s) := by
  unfold releaseLaneBody
  split
  · trivial
  · exact s.takenBy_asOwner _ n fun j _ => (s.acts_returnLane j).trans (State.quiets_postHallAnd _ _ _).acts

theorem State.takenBy_reclaimLane (s : State) (n : Nat) (p : Principal) : s.TakenBy (reclaimLaneBody n p s) := by
  unfold reclaimLaneBody
  split
  · trivial
  split
  · trivial
  next j _ =>
    split
    · trivial
    · exact (s.acts_returnLane j).trans (State.quiets_postHallAnd _ _ _).acts

theorem State.takenBy_setLaneFunction (s : State) (n f : Nat) (p : Principal) :
    s.TakenBy (setLaneFunctionBody n f p s) := by
  refine s.takenBy_asOwner p n fun j howner => ?_
  split
  · trivial
  next f _ =>
    split
    · trivial
    next hmay =>
      split
      · exact .refl s
      · refine s.acts_changeLane j _ ⟨rfl, id, fun _ => .inl, fun _ => ?_, fun _ h => absurd rfl h⟩
        rw [howner]
        simpa using hmay

theorem State.takenBy_setLaneGroup (s : State) (n : Nat) (g : Option Nat) (p : Principal) :
    s.TakenBy (setLaneGroupBody n g p s) := by
  unfold setLaneGroupBody
  split
  · trivial
  next hp =>
    refine s.takenBy_asOwner p n fun j howner => ?_
    split
    · trivial
    split
    · trivial
    next hfun =>
      split
      · exact .refl s
      · exact s.acts_changeLane j _ ⟨rfl, id, fun _ => .inl, id, fun _ _ => ⟨howner ▸ hp, by simpa using hfun⟩⟩

theorem State.takenBy_openLane (s : State) (n : Nat) (p : Principal) : s.TakenBy (openLaneBody n p s) := by
  refine s.takenBy_asOwner p n fun j _ => ?_
  split
  · trivial
  split
  · exact s.acts_postedState j _ _
  · exact .refl s
  · trivial
  · trivial

theorem State.takenBy_closeLane (s : State) (n : Nat) (p : Principal) : s.TakenBy (closeLaneBody n p s) := by
  refine s.takenBy_asOwner p n fun j _ => ?_
  split
  · exact s.acts_changeLaneState j _ _
  · exact s.acts_postedState j _ _
  · exact .refl s
  · trivial

theorem State.acts_laneFull (s : State) (j : LaneNo) : Acts s (s.laneFull j) := by
  unfold State.laneFull
  split
  · exact s.acts_changeLaneState j _ _
  · exact s.acts_postedState j _ _
  · exact .refl s
  · exact .refl s

theorem State.acts_laneEmptied (s : State) (j : LaneNo) : Acts s (s.laneEmptied j) :=
  (s.acts_setLane j (x := (s.lane j).emptied)
    ⟨rfl, fun h => ⟨(Nat.add_le_add_right (Nat.zero_le _) _).trans h.1, h.2⟩, fun _ => .inl, id, id⟩).trans
    (State.quiets_postOwner _ _ _).acts

theorem State.takenBy_resetLaneFault (s : State) (n : Nat) (p : Principal) : s.TakenBy (resetLaneFaultBody n p s) := by
  unfold resetLaneFaultBody
  split
  · trivial
  split
  · trivial
  next j _ =>
    have cleared : Acts s (s.setDiverter j { s.diverter j with score := 0 }) :=
      s.acts_setDiverter j fun _ => Nat.zero_le _
    unfold State.TakenBy
    dsimp only
    split
    · exact cleared.trans (State.acts_postedState _ j _ _)
    · exact cleared

/-! ## Links (R163 to R178) -/

theorem State.quiets_postLinkState (s : State) (l : LinkNo) (p : Option Principal) (d : Option LinkNo) (c : LinkCause) :
    Quiets s (s.postLinkState l p d c) :=
  s.quiets_post _ _

theorem State.deeds_mute (s : State) (l : LinkNo) : Deeds s (s.mute l) := by
  refine .trans (s.deeds_setLink l ?_) (State.quiets_postLinkState _ _ _ _ _).acts.deeds
  exact ⟨rfl, .inr (.inr rfl), id, fun _ => Nat.zero_le _, fun _ _ => rfl, fun _ _ => rfl, fun _ => Nat.zero_le _⟩

theorem State.deeds_badFrame (s : State) (l : LinkNo) : Deeds s (s.badFrame l) := by
  have counted : Deeds s (s.setLink l { s.link l with errorCount := raiseTo 255 (s.link l).errorCount 8 }) :=
    s.deeds_setLink l ⟨rfl, .inl rfl, fun _ => Nat.min_le_left _ _, id, id, id, id⟩
  unfold State.badFrame
  dsimp only
  split
  · exact counted.trans (State.deeds_mute _ l)
  · exact counted

theorem State.deeds_goodFrame (s : State) (l : LinkNo) (f : CommandFrame) (h : (s.link l).state ≠ .muted) :
    Deeds s (s.goodFrame l f) := by
  unfold State.goodFrame
  dsimp only
  split
  next hroom =>
    exact s.deeds_setLink l ⟨rfl, .inl rfl, fun h => (Nat.sub_le _ _).trans h, id, id, fun _ hm => absurd hm h,
      fun _ => by simpa [Config.commandPlaces] using hroom⟩
  next => exact s.deeds_setLink l ⟨rfl, .inl rfl, fun h => (Nat.sub_le _ _).trans h, id, id, id, id⟩

theorem State.deeds_mutedCheck (s : State) (l : LinkNo) (tag : Byte) (h : (s.link l).state = .muted) :
    Deeds s (s.mutedCheck l tag) := by
  unfold State.mutedCheck
  dsimp only
  split
  next hmore =>
    refine .trans (s.deeds_setLink l ?_) (State.deeds_addReplies _ _ _)
    refine ⟨rfl, .inl rfl, id, fun _ => ?_, fun _ hn => absurd h hn, id, id⟩
    exact Nat.le_of_lt hmore
  next =>
    refine .trans (.trans (s.deeds_setLink l ?_) (State.deeds_addReplies _ _ _)) (State.quiets_postLinkState _ _ _ _ _).acts.deeds
    exact ⟨rfl, .inr (.inl rfl), fun _ => Nat.zero_le _, fun _ => Nat.zero_le _, fun _ _ => rfl,
      (fun _ hm => nomatch hm), id⟩

theorem State.deeds_takeFrame (s : State) (l : LinkNo) (j : FrameJudgement) : Deeds s (s.takeFrame l j) := by
  unfold State.takeFrame
  split
  · exact .refl s
  · exact s.deeds_setLink l ⟨rfl, .inl rfl, fun _ => Nat.min_le_left _ _, fun _ => Nat.zero_le _, fun _ _ => rfl, id, id⟩
  · exact s.deeds_badFrame l
  next h =>
    split
    · exact s.deeds_mutedCheck l _ h
    · exact .refl s
  next h => exact s.deeds_goodFrame l _ fun hm => h hm

theorem State.deeds_breakLine (s : State) (l : LinkNo) : Deeds s (s.breakLine l) := by
  have broken : Deeds s (s.setLink l (s.link l).broken) := by
    refine s.deeds_setLink l ⟨rfl, ?_, id, fun _ => Nat.zero_le _, fun _ _ => rfl, fun _ _ => rfl, fun _ => Nat.zero_le _⟩
    cases h : (s.link l).state <;> simp [Link.broken, h]
  unfold State.breakLine
  dsimp only
  split
  · exact broken.trans (State.quiets_postLinkState _ _ _ _ _).acts.deeds
  · exact broken
  · exact broken

theorem State.acts_putOnWire (s : State) (l : LinkNo) (f : OutFrame) : Acts s (s.putOnWire l f) := (Act.wires _).single

theorem State.acts_sendNotice (s : State) (l : LinkNo) : Acts s (s.sendNotice l) := by
  unfold State.sendNotice
  split
  · split
    · exact .refl s
    next hn =>
      split
      · exact .refl s
      · exact (Quiet.notice (.record _ _ (by rw [hn]; simp))).single.acts.trans (State.acts_putOnWire _ _ _)
  · exact .refl s
  · exact .refl s

theorem State.deeds_sendReply (s : State) (l : LinkNo) (which : SentReply) : Deeds s (s.sendReply l which) := by
  unfold State.sendReply
  dsimp only
  split
  · split
    · exact .refl s
    · exact (s.deeds_setLink l (by exact ⟨rfl, .inl rfl, id, id, id, id, id⟩)).trans (State.acts_putOnWire _ _ _).deeds
  · split
    · exact .refl s
    · split
      · exact .refl s
      · exact (s.deeds_setLink l (by exact ⟨rfl, .inl rfl, id, id, id, id, id⟩)).trans (State.acts_putOnWire _ _ _).deeds

theorem State.deeds_popFrame (s : State) (l : LinkNo) : Deeds s (s.popFrame l) :=
  s.deeds_setLink l ⟨rfl, .inl rfl, id, id, id, fun h hm => by simp [h hm], fun h => by simp; omega⟩

theorem State.deeds_detachLink (s : State) (l : LinkNo) (p : Principal) (cause : LinkCause)
    (h : (s.link l).state ≠ .muted) : Deeds s (s.detachLink l p cause) := by
  refine .trans (s.deeds_setLink l ?_) (State.quiets_postLinkState _ _ _ _ _).acts.deeds
  exact ⟨rfl, .inr (.inl rfl), id, id, fun hc _ => hc h, (fun _ hm => nomatch hm), id⟩

theorem State.linkOfPrincipal_eq_none {s : State} {p : Principal} (h : s.linkOfPrincipal p = none) (m : LinkNo) :
    (s.link m).state ≠ .attached p := by
  have := List.find?_eq_none.1 h m (List.mem_finRange m)
  simpa using this

theorem State.link_displace_ne (s : State) {old l : LinkNo} (p : Principal) (new : LinkNo) (h : l ≠ old) :
    (s.displace old p new).link l = s.link l := by
  simp [State.displace, State.link_setLink_ne _ _ h]

theorem State.deeds_attachLink (s : State) (l : LinkNo) (p : Principal) (h : (s.link l).state = .idle) :
    Deeds s (s.attachLink l p) := by
  unfold State.attachLink
  refine .trans ?_ (State.quiets_postLinkState _ _ _ _ _).acts.deeds
  cases hold : s.linkOfPrincipal p with
  | none => exact LinkAct.deeds (.attach l p h (State.linkOfPrincipal_eq_none hold))
  | some m =>
    have hm : (s.link m).state = .attached p := by simpa using List.find?_some hold
    exact LinkAct.deeds (.takeOver l m p h hm)

theorem State.servedBy_attach (s : State) (l : LinkNo) (n : Nat) : s.ServedBy (s.attach l n) := by
  unfold State.attach
  split
  · trivial
  split
  · trivial
  split
  · split
    · exact .refl s
    · trivial
  next h => exact s.deeds_attachLink l _ h
  · exact .refl s

theorem State.deeds_execAttach (s : State) (l : LinkNo) (tag : Byte) (n : Nat) :
    ∃ t, execAttach l tag n s = .next t ∧ Deeds s t := by
  refine ⟨_, rfl, ?_⟩
  have served := s.deeds_setLastServed l
  have taken := State.servedBy_attach (s.setLastServed l) l n
  split
  · exact .refl s
  · split
    · exact s.deeds_replyRefused _ _ _ _
    next heq =>
      rw [heq] at taken
      exact served.trans (Deeds.trans taken (State.deeds_addReplies _ _ _))

theorem State.deeds_linkCheckReply (s : State) (l : LinkNo) (tag : Byte) : Deeds s (s.linkCheckReply l tag) :=
  (s.deeds_setLastServed l).trans (State.deeds_addReplies _ _ _)

theorem State.deeds_execLinkCheck (s : State) (l : LinkNo) (tag : Byte) :
    ∃ t, execLinkCheck l tag s = .next t ∧ Deeds s t := by
  refine ⟨_, rfl, ?_⟩
  split
  next h => exact s.deeds_mutedCheck l tag h
  · exact s.deeds_linkCheckReply l tag
  · exact s.deeds_linkCheckReply l tag

/-- The link of a command that is taken is attached, so it is not MUTED. -/
theorem State.deeds_execDetach (s : State) (l : LinkNo) (tag : Byte) :
    ∃ t, execDetach l tag s = .next t ∧ Deeds s t := by
  refine ⟨_, rfl, ?_⟩
  rcases s.takeCommand_cases l tag 0x2D fun p s =>
    .ok (s.detachLink l p .detached) (bytesOf 1 l.val ++ bytesOf 1 p.code) with
    ⟨_, ht⟩ | ⟨r, _, ht⟩ | ⟨p, t, data, hp, hb, ht⟩ <;> rw [ht]
  · exact .refl s
  · exact s.deeds_replyRefused l tag _ r
  · obtain ⟨rfl, rfl⟩ := Taken.ok.inj hb
    exact ((s.deeds_setLastServed l).trans (State.deeds_detachLink _ _ _ _ (by simp [hp]))).trans
      (State.deeds_addReplies _ _ _)

theorem State.deeds_restoreLink (s : State) (l : LinkNo) : Deeds s (s.restoreLink l) := by
  unfold State.restoreLink
  split
  · refine .trans (s.deeds_setLink l ?_) (State.quiets_postLinkState _ _ _ _ _).acts.deeds
    exact ⟨rfl, .inr (.inl rfl), fun _ => Nat.zero_le _, fun _ => Nat.zero_le _, fun _ _ => rfl,
      (fun _ hm => nomatch hm), id⟩
  all_goals exact s.deeds_setLink l ⟨rfl, .inl rfl, fun _ => Nat.zero_le _, id, id, id, id⟩

theorem State.servedBy_restoreLink (s : State) (n : Nat) (p : Principal) : s.ServedBy (restoreLinkBody n p s) := by
  unfold restoreLinkBody
  split
  · trivial
  split
  · trivial
  · exact s.deeds_restoreLink _

theorem State.deeds_permit (s : State) (l : LinkNo) (q : Principal) (flag : Bool)
    (h : flag = false → q = .hall → s.hallOnlyOn l = false) : Deeds s (s.permit l q flag) := by
  have stored := LinkAct.deeds (.permit l q flag h)
  unfold State.permit
  dsimp only
  split
  next hd =>
    simp only [Bool.and_eq_true, beq_iff_eq] at hd
    exact stored.trans (State.deeds_detachLink _ _ _ _ (by rw [hd.2]; simp))
  next => exact stored

theorem State.servedBy_setLinkPermission (s : State) (n q : Nat) (flag : Bool) (p : Principal) :
    s.ServedBy (setLinkPermissionBody n q flag p s) := by
  unfold setLinkPermissionBody
  split
  · trivial
  split
  next l q _ _ =>
    split
    · trivial
    next h =>
      refine s.deeds_permit l q flag fun hf hq => ?_
      simpa [hf, hq] using h
  · trivial

theorem State.takenBy_setNoticeClasses (s : State) (c : Byte) (p : Principal) :
    s.TakenBy (setNoticeClassesBody c p s) :=
  (Quiet.notice (.record p { s.principal p with classes := c } (Nat.le_refl _))).single.acts

/-! ## Berths and the manifest (R54 to R74) -/

theorem BerthAct.acts {s t : State} (h : BerthAct s t) : Acts s t := (Quiet.berth h).single.acts

theorem State.takenBy_openBerth (s : State) (n c : Nat) (p : Principal) : s.TakenBy (openBerthBody n c p s) := by
  unfold openBerthBody
  split
  · trivial
  split
  · trivial
  split
  · trivial
  next hship =>
    split
    · trivial
    next hfree =>
      split
      · trivial
      next hnew =>
        exact (BerthAct.acts (.bind _ c (by simpa using hfree) (by simpa using hship) (by simpa using hnew))).trans
          (State.quiets_postHallAnd _ _ _).acts

theorem State.acts_strayPending (s : State) (b : BerthId) (r : StrayReason) : Acts s (s.strayPending b r) :=
  (s.acts_filterPending _).trans (State.acts_giveAll _ _ _)

theorem State.takenBy_closeSailing (s : State) (p : Principal) : s.TakenBy (closeSailingBody p s) := by
  unfold closeSailingBody
  split
  · trivial
  next b =>
    split
    · trivial
    · trivial
    next ship hb =>
      exact ((BerthAct.acts (.close b ship hb)).trans (State.acts_strayPending _ b _)).trans
        ((State.quiets_postHallAnd _ _ _).trans (State.quiets_testClosing _ b)).acts

theorem State.acts_disown (s : State) (k : Nat) (r : StrayReason) : Acts s (s.disown k r) :=
  (s.quiets_relabel k (by exact ⟨rfl, rfl, rfl, id, fun _ => Nat.zero_le _, id⟩)).acts

theorem State.acts_strayUnlisted (s : State) (k : Nat) (r : StrayReason) : Acts s (s.strayUnlisted k r) :=
  (s.quiets_relabel k (c := { s.carrier k with identity := none }) ⟨rfl, rfl, rfl, id, id, id⟩).acts.trans
    (State.acts_giveDisposition _ k _)

theorem State.acts_disownBerth (s : State) (b : BerthId) : Acts s (s.disownBerth b) :=
  ((s.acts_strayPending b _).trans (forEach_acts (fun s k => s.acts_strayUnlisted k _) _ _)).trans
    (forEach_acts (fun s k => s.acts_disown k _) _ _)

theorem State.takenBy_forceClose (s : State) (n : Nat) (p : Principal) : s.TakenBy (forceCloseBody n p s) := by
  unfold forceCloseBody
  split
  · trivial
  split
  · trivial
  split
  · trivial
  · exact (s.acts_disownBerth _).trans
      ((State.quiets_perBerthClear _ _).trans (State.quiets_postHallAnd _ _ _)).acts

theorem State.takenBy_asManifest (s : State) (p : Principal) {body : BerthId → Berth → Taken}
    (h : ∀ b, (s.berth b).state.isOpen = true → s.TakenBy (body b (s.berth b))) : s.TakenBy (asManifest p s body) := by
  unfold asManifest
  split
  · trivial
  · split
    next hopen => exact h _ hopen
    next => trivial

theorem Berth.number_of_findCabin {r : Berth} {n : Nat} {c : Cabin} (h : r.findCabin n = some c) : c.number = n := by
  simpa using List.find?_some h

theorem State.takenBy_loadCabin (s : State) (n d x : Nat) (p : Principal) : s.TakenBy (loadCabinBody n d x p s) := by
  refine s.takenBy_asManifest p fun b hopen => ?_
  split
  · trivial
  split
  next hnone =>
    split
    · trivial
    next hroom =>
      exact BerthAct.acts (.insertCabin b _ hopen hnone (Nat.lt_of_not_le hroom) ⟨rfl, rfl, rfl⟩)
  next old hold =>
    have edited := BerthAct.acts (.editCabin (s := s) b n (fun _ => { old with deck := d, expected := min 15 x }) old hold
      ⟨rfl, rfl, rfl, rfl⟩)
    unfold State.TakenBy
    dsimp only
    split
    · exact edited
    · exact edited.trans (State.acts_rechooseAll _ _)

theorem State.takenBy_setCabinHold (s : State) (n : Nat) (held : Bool) (p : Principal) :
    s.TakenBy (setCabinHoldBody n held p s) := by
  refine s.takenBy_asManifest p fun b hopen => ?_
  split
  · trivial
  split
  · trivial
  next c hc =>
    split
    · exact .refl s
    · exact (BerthAct.acts (.editCabin b n (fun c => { c with held := held }) c hc ⟨rfl, rfl, rfl, rfl⟩)).trans
        (State.acts_giveAll _ _ _)

theorem State.acts_matchPending (s : State) (k : Nat) (d : Identity) : Acts s (s.matchPending k d) :=
  ((s.acts_removePending k).trans (State.acts_matchEntry _ k d)).trans (State.acts_chooseTarget _ k)

theorem State.takenBy_loadTag (s : State) (n c : Nat) (p : Principal) : s.TakenBy (loadTagBody n c p s) := by
  refine s.takenBy_asManifest p fun b hopen => ?_
  split
  · trivial
  split
  · trivial
  next cabin hc =>
    split
    · trivial
    next hserial =>
      split
      · trivial
      next hroom =>
        have hserial : (s.berth b).findSerial n = none := by simpa using hserial
        have made := BerthAct.acts (.makeEntry (s := s) b (some n) c .expected none cabin hopen hc
          (Nat.lt_of_not_le fun h => hroom (.inl h)) (Nat.lt_of_not_le fun h => hroom (.inr h))
          fun m hm => Option.some.inj hm ▸ hserial)
        dsimp only
        split
        · exact made
        · exact made.trans (State.acts_matchPending _ _ _)

theorem Berth.mem_of_findRef {r : Berth} {ref : EntryRef} {e : Entry} (h : r.findRef ref = some e) : e ∈ r.tags := by
  cases ref <;> exact List.mem_of_find?_eq_some h

theorem State.acts_followMove (s : State) (b : BerthId) (i : Nat) (held : Bool) : Acts s (s.followMove b i held) := by
  refine forEach_acts (fun s k => ?_) _ s
  split
  · exact s.acts_rechoose k
  · exact s.acts_giveDisposition k _

theorem State.takenBy_moveTag (s : State) (ref : EntryRef) (n : Nat) (p : Principal) :
    s.TakenBy (moveTagBody ref n p s) := by
  refine s.takenBy_asManifest p fun b hopen => ?_
  split
  · trivial
  split
  next e c he hc =>
    split
    · exact .refl s
    next hne =>
      split
      · trivial
      next hroom =>
        exact (BerthAct.acts (.moveEntry b e n c (Berth.mem_of_findRef he) hc (Nat.lt_of_not_le hroom) hne)).trans
          (State.acts_followMove _ _ _ _)
  · trivial

theorem State.acts_withdrawFrom (s : State) (k : Nat) : Acts s (s.withdrawFrom k) := by
  unfold State.withdrawFrom
  split
  · exact s.acts_strayUnlisted k _
  · exact s.acts_disown k _

/-- An entry's removal takes its references from the lists, which stay as long (R71). -/
theorem Coding.updates_forgetEntry (c : Coding) (b : BerthId) (i : Nat) : c.Updates (c.forgetEntry b i) :=
  ⟨rfl, fun h => by simpa [Coding.forgetEntry] using h, fun h => by simpa [Coding.forgetEntry] using h, id, id⟩

theorem State.takenBy_withdrawTag (s : State) (ref : EntryRef) (p : Principal) :
    s.TakenBy (withdrawTagBody ref p s) := by
  refine s.takenBy_asManifest p fun b hopen => ?_
  split
  · trivial
  split
  · trivial
  next e he =>
    have removed := BerthAct.acts (.removeEntry b e (Berth.mem_of_findRef he))
    dsimp only
    split
    · refine Acts.trans ?_ (State.quiets_testClosing _ b).acts
      split
      · exact removed
      · exact removed.trans (State.acts_withdrawFrom _ _)
    · exact removed.trans (State.quiets_setCoding _ (Coding.updates_forgetEntry _ _ _)).acts
    all_goals exact removed

theorem State.takenBy_releaseHoldBag (s : State) (ref : EntryRef) (p : Principal) :
    s.TakenBy (releaseHoldBagBody ref p s) := by
  refine s.takenBy_asManifest p fun b hopen => ?_
  split
  · trivial
  split
  · trivial
  split
  · trivial
  · exact (s.quiets_setEntryState _ _ _ _).acts

theorem State.takenBy_setDeckGroup (s : State) (d : Nat) (g : Option Nat) (p : Principal) :
    s.TakenBy (setDeckGroupBody d g p s) := by
  refine s.takenBy_asManifest p fun b hopen => ?_
  split
  · trivial
  dsimp only
  split
  · exact .refl s
  · exact (BerthAct.acts (.mapDeck b d g)).trans (State.acts_rechooseAll _ _)

/-! ## Queries -/

/-- A query's body refuses or gives the state as it is. -/
theorem State.takenBy_asViewer (s : State) (p : Principal) (n : Option Nat) {body : BerthId → Berth → Taken}
    (h : ∀ b r, s.TakenBy (body b r)) : s.TakenBy (asViewer p n s body) := by
  unfold asViewer
  dsimp only
  split
  · trivial
  · split
    · exact h _ _
    · trivial

theorem State.takenBy_queryTag (s : State) (n : Option Nat) (e : EntryRef) (p : Principal) :
    s.TakenBy (queryTagBody n e p s) := by
  refine s.takenBy_asViewer p n fun b r => ?_
  split
  · trivial
  split
  · trivial
  · exact s.takenBy_same _

theorem State.takenBy_queryCabin (s : State) (n : Option Nat) (c : Nat) (p : Principal) :
    s.TakenBy (queryCabinBody n c p s) := by
  refine s.takenBy_asViewer p n fun b r => ?_
  split
  · trivial
  split
  · trivial
  · exact s.takenBy_same _

theorem State.takenBy_queryBerth (s : State) (n : Nat) (p : Principal) : s.TakenBy (queryBerthBody n p s) := by
  unfold queryBerthBody
  split
  · trivial
  · exact s.takenBy_same _

theorem State.takenBy_queryReadStation (s : State) (n : Nat) (p : Principal) :
    s.TakenBy (queryReadStationBody n p s) := by
  unfold queryReadStationBody
  split
  · trivial
  · exact s.takenBy_same _

theorem State.takenBy_queryCarrier (s : State) (k : Nat) (p : Principal) : s.TakenBy (queryCarrierBody k p s) := by
  unfold queryCarrierBody
  split
  · trivial
  · exact s.takenBy_same _

theorem State.takenBy_queryLane (s : State) (n : Option Nat) (p : Principal) : s.TakenBy (queryLaneBody n p s) := by
  unfold queryLaneBody
  split
  · exact s.takenBy_same _
  · split
    · trivial
    · exact s.takenBy_same _

theorem State.takenBy_queryDiversion (s : State) (n : Option Nat) (p : Principal) :
    s.TakenBy (queryDiversionBody n p s) := by
  unfold queryDiversionBody
  split
  · exact s.takenBy_same _
  · split
    · trivial
    · exact s.takenBy_same _

/-! ## Events -/

theorem State.acts_sendOrder (s : State) : Acts s s.sendOrder := (Quiet.field .sent).single.acts

theorem State.acts_execPollAnswer (s : State) (a h n c r : Nat) :
    ∃ t, execPollAnswer a h n c r s = .next t ∧ Acts s t := by
  unfold execPollAnswer
  split
  · exact ⟨s, rfl, .refl s⟩
  split
  · exact ⟨s, rfl, .refl s⟩
  split
  · exact ⟨_, rfl, s.acts_takeAnswer _ _ _ _⟩
  · exact ⟨s, rfl, .refl s⟩

theorem State.acts_execWaitExpiry (s : State) (k : Nat) : ∃ t, execWaitExpiry k s = .next t ∧ Acts s t := by
  refine ⟨_, rfl, ?_⟩
  split
  · exact (s.acts_expireWait k).trans (State.acts_chooseTarget _ k)
  · exact .refl s

theorem State.acts_execLapLimit (s : State) (k : Nat) : ∃ t, execLapLimit k s = .next t ∧ Acts s t := by
  refine ⟨_, rfl, ?_⟩
  split
  · exact (s.acts_strayAtLimit k).trans (State.acts_chooseTarget _ k)
  · exact .refl s

theorem State.acts_failDivert_finish (s : State) (k : Nat) (j : LaneNo) (cause : DivertCause) :
    Acts s (s.failDivert k j cause).finish :=
  (s.acts_failDivert k j cause).trans (Failure.acts_finish _)

theorem State.acts_execNoReportTimeout (s : State) (k : Nat) : ∃ t, execNoReportTimeout k s = .next t ∧ Acts s t := by
  unfold execNoReportTimeout
  split
  · exact ⟨s, rfl, .refl s⟩
  · exact ⟨_, rfl, s.acts_failDivert_finish k _ _⟩

theorem State.acts_execBagPresented (s : State) (p : Nat) (z : SizeClass) (t : Nat) :
    ∃ u, execBagPresented p z t s = .next u ∧ Acts s u := by
  unfold execBagPresented
  split
  · exact ⟨s, rfl, .refl s⟩
  · exact ⟨_, rfl, s.acts_present _ _ _⟩

theorem State.acts_execBagWithdrawn (s : State) (p : Nat) : ∃ t, execBagWithdrawn p s = .next t ∧ Acts s t := by
  unfold execBagWithdrawn
  split
  · exact ⟨s, rfl, .refl s⟩
  · exact ⟨_, rfl, s.acts_withdrawBag _⟩

theorem State.acts_execDivertDone (s : State) (j k : Nat) : ∃ t, execDivertDone j k s = .next t ∧ Acts s t := by
  unfold execDivertDone
  split
  · exact ⟨s, rfl, .refl s⟩
  · refine ⟨_, rfl, ?_⟩
    split
    next h => exact s.acts_divertDone k _ h
    next => exact .refl s

theorem State.acts_execDivertFailed (s : State) (j k : Nat) : ∃ t, execDivertFailed j k s = .next t ∧ Acts s t := by
  unfold execDivertFailed
  split
  · exact ⟨s, rfl, .refl s⟩
  · refine ⟨_, rfl, ?_⟩
    split
    · exact s.acts_failDivert_finish k _ _
    · exact .refl s

theorem State.acts_execLaneFull (s : State) (j : Nat) : ∃ t, execLaneFull j s = .next t ∧ Acts s t := by
  unfold execLaneFull
  split
  · exact ⟨s, rfl, .refl s⟩
  · exact ⟨_, rfl, s.acts_laneFull _⟩

theorem State.acts_execLaneEmptied (s : State) (j : Nat) : ∃ t, execLaneEmptied j s = .next t ∧ Acts s t := by
  unfold execLaneEmptied
  split
  · exact ⟨s, rfl, .refl s⟩
  · exact ⟨_, rfl, s.acts_laneEmptied _⟩

theorem State.acts_execClosingComplete (s : State) (b : Nat) : ∃ t, execClosingComplete b s = .next t ∧ Acts s t := by
  unfold execClosingComplete
  split
  · exact ⟨s, rfl, .refl s⟩
  · exact ⟨_, rfl, (s.quiets_testClosing _).acts⟩

theorem State.acts_execAdvance (s : State) (m : Byte) : ∃ t, execAdvance m s = .next t ∧ Acts s t :=
  ⟨_, rfl, (s.acts_passOn _).trans (Advance.acts_finish _)⟩

theorem State.acts_execFetch (s : State) (n : Nat) : ∃ t, execFetch n s = .next t ∧ Acts s t :=
  ⟨_, rfl, (s.quiets_codingRequest .fetch n (body := fun r => .done s (s.fetchData r)) fun _ => ⟨.refl s, rfl⟩).acts⟩

theorem State.acts_execCodeTag (s : State) (n c r : Nat) : ∃ t, execCodeTag n c r s = .next t ∧ Acts s t :=
  ⟨_, rfl, (s.quiets_codingRequest _ _ (s.doneQuietly_codeTag c r)).acts⟩

theorem State.acts_execCodeCabin (s : State) (n b c : Nat) : ∃ t, execCodeCabin n b c s = .next t ∧ Acts s t :=
  ⟨_, rfl, (s.quiets_codingRequest _ _ (s.doneQuietly_codeCabin b c)).acts⟩

theorem State.acts_execRemove (s : State) (n : Nat) : ∃ t, execRemove n s = .next t ∧ Acts s t :=
  ⟨_, rfl, (s.quiets_codingRequest _ _ s.doneQuietly_removeStray).acts⟩

theorem State.acts_execRetry (s : State) (n : Nat) : ∃ t, execRetry n s = .next t ∧ Acts s t :=
  ⟨_, rfl, (s.quiets_codingRequest _ _ s.doneQuietly_retryStray).acts⟩

theorem acts_handEvent (e : Instr) (s : State) : ∃ t, handEvent e s = .next t ∧ Acts s t := by
  unfold handEvent
  split
  · exact s.acts_execAdvance _
  · exact s.acts_execBagPresented _ _ _
  · exact s.acts_execBagWithdrawn _
  · exact s.acts_execPollAnswer _ _ _ _ _
  · exact s.acts_execDivertDone _ _
  · exact s.acts_execDivertFailed _ _
  · exact s.acts_execLaneFull _
  · exact s.acts_execLaneEmptied _
  · exact s.acts_execFetch _
  · exact s.acts_execCodeTag _ _ _
  · exact s.acts_execCodeCabin _ _ _
  · exact s.acts_execRemove _
  · exact s.acts_execRetry _
  · exact ⟨s, rfl, .refl s⟩

theorem State.acts_execFieldRecordBad (s : State) (r : List RxChar) :
    ∃ t, execFieldRecordBad r s = .next t ∧ Acts s t := by
  unfold execFieldRecordBad
  split
  · exact ⟨s, rfl, .refl s⟩
  · exact ⟨s, rfl, .refl s⟩
  · exact acts_handEvent _ s

/-! ## Every command -/

/-- A command taken from a link (R171), by what its body answers. -/
theorem State.deeds_command (s : State) (l : LinkNo) (tag : Byte) (code : Nat) {body : Principal → State → Taken}
    (h : ∀ (s : State) p, s.TakenBy (body p s)) :
    ∃ t, (.next (s.takeCommand l tag code body) : Host.Outcome State Fault Refusal) = .next t ∧ Deeds s t :=
  ⟨_, rfl, s.deeds_takeCommand l tag code fun p => (h _ p).served⟩

theorem State.deeds_linkCommand (s : State) (l : LinkNo) (tag : Byte) (code : Nat) {body : Principal → State → Taken}
    (h : ∀ (s : State) p, s.ServedBy (body p s)) :
    ∃ t, (.next (s.takeCommand l tag code body) : Host.Outcome State Fault Refusal) = .next t ∧ Deeds s t :=
  ⟨_, rfl, s.deeds_takeCommand l tag code fun p => h _ p⟩

theorem deeds_of_acts {x : Host.Outcome State Fault Refusal} {s : State} (h : ∃ t, x = .next t ∧ Acts s t) :
    ∃ t, x = .next t ∧ Deeds s t := by
  obtain ⟨t, ht, h⟩ := h
  exact ⟨t, ht, h.deeds⟩

/-- Every command and event answers a next state, by a chain of actions. -/
theorem deeds_exec (c : Instr) (s : State) : ∃ t, exec c s = .next t ∧ Deeds s t := by
  cases c with
  | powerOn => exact ⟨_, rfl, Deed.powerOn.single⟩
  | advance m => exact deeds_of_acts (s.acts_execAdvance m)
  | pollAnswer a h n c r => exact deeds_of_acts (s.acts_execPollAnswer a h n c r)
  | waitExpiry k => exact deeds_of_acts (s.acts_execWaitExpiry k)
  | lapLimit k => exact deeds_of_acts (s.acts_execLapLimit k)
  | noReportTimeout k => exact deeds_of_acts (s.acts_execNoReportTimeout k)
  | bagPresented p z t => exact deeds_of_acts (s.acts_execBagPresented p z t)
  | bagWithdrawn p => exact deeds_of_acts (s.acts_execBagWithdrawn p)
  | divertDone j k => exact deeds_of_acts (s.acts_execDivertDone j k)
  | divertFailed j k => exact deeds_of_acts (s.acts_execDivertFailed j k)
  | laneFull j => exact deeds_of_acts (s.acts_execLaneFull j)
  | laneEmptied j => exact deeds_of_acts (s.acts_execLaneEmptied j)
  | fetch t => exact deeds_of_acts (s.acts_execFetch t)
  | codeTag t c r => exact deeds_of_acts (s.acts_execCodeTag t c r)
  | codeCabin t b c => exact deeds_of_acts (s.acts_execCodeCabin t b c)
  | remove t => exact deeds_of_acts (s.acts_execRemove t)
  | retry t => exact deeds_of_acts (s.acts_execRetry t)
  | fieldRecordBad r => exact deeds_of_acts (s.acts_execFieldRecordBad r)
  | orderSent => exact ⟨_, rfl, s.acts_sendOrder.deeds⟩
  | drainComplete => exact ⟨_, rfl, s.acts_testDrain.deeds⟩
  | closingComplete b => exact deeds_of_acts (s.acts_execClosingComplete b)
  | frameReceived l cs => exact ⟨_, rfl, s.deeds_takeFrame l _⟩
  | lineBreak l => exact ⟨_, rfl, s.deeds_breakLine l⟩
  | noticeSent l => exact ⟨_, rfl, (s.acts_sendNotice l).deeds⟩
  | replySent l w => exact ⟨_, rfl, s.deeds_sendReply l w⟩
  | configureLoop l t c k => exact s.deeds_command l t _ fun s p => s.takenBy_configureLoop c k p
  | queryPosition l t => exact s.deeds_command l t _ fun s _ => s.takenBy_same _
  | queryCarrier l t k => exact s.deeds_command l t _ fun s p => s.takenBy_queryCarrier k p
  | configureInductionPoint l t i o e m =>
    exact s.deeds_command l t _ fun s p => s.takenBy_configureInductionPoint i o e m p
  | setLoadLimit l t n => exact s.deeds_command l t _ fun s p => s.takenBy_setLoadLimit n p
  | setStarveLimit l t n => exact s.deeds_command l t _ fun s p => s.takenBy_setStarveLimit n p
  | queryInduction l t => exact s.deeds_command l t _ fun s _ => s.takenBy_same _
  | configureReadStation l t n o h ps e =>
    exact s.deeds_command l t _ fun s p => s.takenBy_configureReadStation n o h ps e p
  | setReadVoting l t n w v => exact s.deeds_command l t _ fun s p => s.takenBy_setReadVoting n w v p
  | restoreHead l t n h => exact s.deeds_command l t _ fun s p => s.takenBy_restoreHead n h p
  | queryReadStation l t n => exact s.deeds_command l t _ fun s p => s.takenBy_queryReadStation n p
  | openBerth l t b c => exact s.deeds_command l t _ fun s p => s.takenBy_openBerth b c p
  | closeSailing l t => exact s.deeds_command l t _ fun s p => s.takenBy_closeSailing p
  | forceClose l t b => exact s.deeds_command l t _ fun s p => s.takenBy_forceClose b p
  | loadCabin l t c d x => exact s.deeds_command l t _ fun s p => s.takenBy_loadCabin c d x p
  | setCabinHold l t c h => exact s.deeds_command l t _ fun s p => s.takenBy_setCabinHold c h p
  | loadTag l t n c => exact s.deeds_command l t _ fun s p => s.takenBy_loadTag n c p
  | moveTag l t e c => exact s.deeds_command l t _ fun s p => s.takenBy_moveTag e c p
  | withdrawTag l t e => exact s.deeds_command l t _ fun s p => s.takenBy_withdrawTag e p
  | releaseHoldBag l t e => exact s.deeds_command l t _ fun s p => s.takenBy_releaseHoldBag e p
  | setDeckGroup l t d g => exact s.deeds_command l t _ fun s p => s.takenBy_setDeckGroup d g p
  | queryTag l t b e => exact s.deeds_command l t _ fun s p => s.takenBy_queryTag b e p
  | queryCabin l t b c => exact s.deeds_command l t _ fun s p => s.takenBy_queryCabin b c p
  | queryBerth l t b => exact s.deeds_command l t _ fun s p => s.takenBy_queryBerth b p
  | setLapLimits l t m w => exact s.deeds_command l t _ fun s p => s.takenBy_setLapLimits m w p
  | queryPending l t => exact s.deeds_command l t _ fun s _ => s.takenBy_same _
  | configureLane l t j o c => exact s.deeds_command l t _ fun s p => s.takenBy_configureLane j o c p
  | setLaneCapacity l t j c => exact s.deeds_command l t _ fun s p => s.takenBy_setLaneCapacity j c p
  | claimLane l t j => exact s.deeds_command l t _ fun s p => s.takenBy_claimLane j p
  | releaseLane l t j => exact s.deeds_command l t _ fun s p => s.takenBy_releaseLane j p
  | reclaimLane l t j => exact s.deeds_command l t _ fun s p => s.takenBy_reclaimLane j p
  | openLane l t j => exact s.deeds_command l t _ fun s p => s.takenBy_openLane j p
  | closeLane l t j => exact s.deeds_command l t _ fun s p => s.takenBy_closeLane j p
  | setLaneFunction l t j f => exact s.deeds_command l t _ fun s p => s.takenBy_setLaneFunction j f p
  | setLaneGroup l t j g => exact s.deeds_command l t _ fun s p => s.takenBy_setLaneGroup j g p
  | resetLaneFault l t j => exact s.deeds_command l t _ fun s p => s.takenBy_resetLaneFault j p
  | queryLane l t j => exact s.deeds_command l t _ fun s p => s.takenBy_queryLane j p
  | queryDiversion l t j => exact s.deeds_command l t _ fun s p => s.takenBy_queryDiversion j p
  | queryStrays l t => exact s.deeds_command l t _ fun s _ => s.takenBy_same _
  | setMode l t m => exact s.deeds_command l t _ fun s p => s.takenBy_setMode m p
  | forceSetup l t => exact s.deeds_command l t _ fun s p => s.takenBy_forceSetup p
  | clearSort l t => exact s.deeds_command l t _ fun s p => s.takenBy_clearSort p
  | queryMode l t => exact s.deeds_command l t _ fun s _ => s.takenBy_same _
  | attach l t p => exact s.deeds_execAttach l t p
  | detach l t => exact s.deeds_execDetach l t
  | linkCheck l t => exact s.deeds_execLinkCheck l t
  | restoreLink l t n => exact s.deeds_linkCommand l t _ fun s p => s.servedBy_restoreLink n p
  | setLinkPermission l t n q f => exact s.deeds_linkCommand l t _ fun s p => s.servedBy_setLinkPermission n q f p
  | setNoticeClasses l t c => exact s.deeds_command l t _ fun s p => s.takenBy_setNoticeClasses c p
  | queryLinks l t => exact s.deeds_command l t _ fun s _ => s.takenBy_same _

theorem State.deeds_refuseFrame (s : State) (l : LinkNo) (f : CommandFrame) : Deeds s (s.refuseFrame l f) :=
  s.deeds_replyRefused _ _ _ _

theorem deeds_serve (s : State) : ∃ t, serve s = .next t ∧ Deeds s t := by
  unfold serve
  cases s.nextFrame with
  | none => exact ⟨s, rfl, .refl s⟩
  | some lf =>
    obtain ⟨l, f⟩ := lf
    have popped := s.deeds_popFrame l
    dsimp only
    cases decodeCommand l f with
    | none => exact ⟨_, rfl, popped.trans (State.deeds_refuseFrame _ l f)⟩
    | some c =>
      obtain ⟨t, ht, h⟩ := deeds_exec c (s.popFrame l)
      exact ⟨t, ht, popped.trans h⟩

/-- A step takes the front of the queue off it, or leaves the queue empty; the rest is a chain of actions. -/
theorem deeds_step (s : State) : ∃ t, step s = .next t ∧ Deeds (s.setPending s.pending.tail) t := by
  unfold step
  split
  next c rest h =>
    rw [h]
    exact deeds_exec c (s.setPending rest)
  next h =>
    have he : s.setPending [] = s := by rw [← h]; rfl
    rw [h, List.tail_nil, he]
    exact deeds_serve s

/-- What every action keeps, and what does not see the model's queue, every step keeps. -/
theorem step_keeps {P : State → Prop} (hP : ∀ s t, Deed s t → P s → P t) (hq : ∀ (s : State) q, P s → P (s.setPending q))
    {s t : State} (hs : P s) (h : step s = .next t) : P t := by
  obtain ⟨u, hu, hdeeds⟩ := deeds_step s
  obtain rfl : u = t := Host.Outcome.next.inj (hu.symm.trans h)
  exact hdeeds.keeps hP (hq s _ hs)

end Sys2Proof.Machine

/-! SUPPORT. What the actions of each block leave of the other blocks. -/

namespace Sys2Proof.Machine

theorem State.changesOnly_mono {s t : State} {ps qs : List Part} (h : s.changesOnly t ps) (hs : ∀ p ∈ ps, p ∈ qs) :
    s.changesOnly t qs :=
  fun p hp => h p fun hm => hp (hs p hm)

theorem State.changesOnly_setPrincipal (s : State) (p : Principal) (x : PrincipalRecord) :
    s.changesOnly (s.setPrincipal p x) [.principals] := by
  intro q hq; cases q <;> simp [Part.same] at hq ⊢

theorem State.changesOnly_setBerth (s : State) (b : BerthId) (x : Berth) : s.changesOnly (s.setBerth b x) [.berths] := by
  intro q hq; cases q <;> simp [Part.same] at hq ⊢

theorem State.changesOnly_setLink (s : State) (l : LinkNo) (x : Link) : s.changesOnly (s.setLink l x) [.links] := by
  intro q hq; cases q <;> simp [Part.same] at hq ⊢

theorem State.changesOnly_setPoint (s : State) (i : PointNo) (x : Point) :
    s.changesOnly (s.setPoint i x) [.induction] := by
  intro q hq; cases q <;> simp [Part.same] at hq ⊢

theorem State.changesOnly_setStation (s : State) (n : StationNo) (x : Station) :
    s.changesOnly (s.setStation n x) [.stations] := by
  intro q hq; cases q <;> simp [Part.same] at hq ⊢

theorem State.changesOnly_setDiverter (s : State) (j : LaneNo) (v : Diverter) :
    s.changesOnly (s.setDiverter j v) [.diverters] := by
  intro q hq; cases q <;> simp [Part.same] at hq ⊢

theorem State.changesOnly_storeLane (s : State) (j : LaneNo) (x : Lane) : s.changesOnly (s.setLane j x) [.lanes] := by
  intro q hq; cases q <;> simp [Part.same] at hq ⊢

theorem State.changesOnly_storeCarrier (s : State) (k : Nat) (c : Carrier) :
    s.changesOnly (s.setCarrier k c) [.carriers] := by
  intro q hq; cases q <;> simp [Part.same] at hq ⊢

theorem State.changesOnly_setCarriers (s : State) (x : CarrierTable) : s.changesOnly (s.setCarriers x) [.carriers] := by
  intro q hq; cases q <;> simp [Part.same] at hq ⊢

theorem State.changesOnly_setCoding (s : State) (x : Coding) : s.changesOnly (s.setCoding x) [.coding] := by
  intro q hq; cases q <;> simp [Part.same] at hq ⊢

theorem State.changesOnly_setRouter (s : State) (x : Router) : s.changesOnly (s.setRouter x) [.router] := by
  intro q hq; cases q <;> simp [Part.same] at hq ⊢

theorem State.changesOnly_setLoop (s : State) (x : Loop) : s.changesOnly (s.setLoop x) [.loop] := by
  intro q hq; cases q <;> simp [Part.same] at hq ⊢

theorem State.changesOnly_setWires (s : State) (x : Wires) : s.changesOnly (s.setWires x) [.wires] := by
  intro q hq; cases q <;> simp [Part.same] at hq ⊢

theorem State.changesOnly_setOrders (s : State) (x : List Order) : s.changesOnly (s.setOrders x) [.orders] := by
  intro q hq; cases q <;> simp [Part.same] at hq ⊢

theorem State.changesOnly_setMode (s : State) (x : Mode) : s.changesOnly (s.setMode x) [.mode] := by
  intro q hq; cases q <;> simp [Part.same] at hq ⊢

theorem State.changesOnly_setInduction (s : State) (x : Induction) : s.changesOnly (s.setInduction x) [.induction] := by
  intro q hq; cases q <;> simp [Part.same] at hq ⊢

theorem State.changesOnly_setLastServed (s : State) (l : LinkNo) : s.changesOnly (s.setLastServed l) [.lastServed] := by
  intro q hq; cases q <;> simp [Part.same] at hq ⊢

/-- Changes in two steps, each within its own list. -/
theorem State.changesOnly_comp {s t u : State} {ps qs rs : List Part} (h : s.changesOnly t ps) (h' : t.changesOnly u qs)
    (hp : ∀ p ∈ ps, p ∈ rs) (hq : ∀ p ∈ qs, p ∈ rs) : s.changesOnly u rs :=
  State.changesOnly_trans (State.changesOnly_mono h hp) (State.changesOnly_mono h' hq)

theorem forEach_changesOnly {α : Type} {f : State → α → State} {ps : List Part}
    (hf : ∀ (s : State) a, s.changesOnly (f s a) ps) (xs : List α) (s : State) : s.changesOnly (forEach xs f s) ps :=
  forEach_keeps (fun t => s.changesOnly t ps) f xs s (s.changesOnly_refl _) fun t a _ h =>
    State.changesOnly_trans h (hf t a)

theorem State.changesOnly_post (s : State) (p : Principal) (body : NoticeBody) :
    s.changesOnly (s.post p body) [.principals] :=
  s.changesOnly_setPrincipal _ _

theorem NoticeAct.changesOnly {s t : State} (h : NoticeAct s t) : s.changesOnly t [.principals] := by
  cases h with
  | post p body => exact s.changesOnly_post p body
  | record p x _ => exact s.changesOnly_setPrincipal p x

theorem State.changesOnly_handOver (s : State) (o : Order) : s.changesOnly (s.handOver o) [.orders] := by
  unfold State.handOver
  split
  · exact s.changesOnly_setOrders _
  · exact s.changesOnly_refl _

theorem State.changesOnly_answer (s : State) (q : CodingRequest) (t : Nat) (rs : List Order) :
    s.changesOnly (s.answer q t rs) [.orders, .coding] := by
  unfold State.answer
  split
  · exact State.changesOnly_comp (s.changesOnly_setOrders _) (State.changesOnly_setCoding _ _) (by simp) (by simp)
  · exact s.changesOnly_refl _

theorem State.changesOnly_sendOrder (s : State) : s.changesOnly s.sendOrder [.orders, .coding, .wires] := by
  unfold State.sendOrder
  split
  · exact s.changesOnly_refl _
  next o rest _ =>
    have sent : s.changesOnly ((s.setOrders rest).setWires { s.wires with field := o.record })
        [.orders, .coding, .wires] :=
      State.changesOnly_comp (s.changesOnly_setOrders _) (State.changesOnly_setWires _ _) (by simp) (by simp)
    dsimp only
    split
    · exact State.changesOnly_comp sent (State.changesOnly_setCoding _ _) (by simp) (by simp)
    · exact sent

theorem FieldAct.changesOnly {s t : State} (h : FieldAct s t) : s.changesOnly t [.orders, .coding, .wires] := by
  cases h with
  | order o _ => exact State.changesOnly_mono (s.changesOnly_handOver o) (by simp)
  | answer q n rs _ _ => exact State.changesOnly_mono (s.changesOnly_answer q n rs) (by simp)
  | sent => exact s.changesOnly_sendOrder

theorem BerthAct.changesOnly {s t : State} (h : BerthAct s t) : s.changesOnly t [.berths] := by
  cases h <;> exact s.changesOnly_setBerth _ _

theorem State.changesOnly_takeBackLane (s : State) (b : BerthId) (j : LaneNo) :
    s.changesOnly (s.takeBackLane b j) [.lanes] := by
  unfold State.takeBackLane
  split
  · exact s.changesOnly_storeLane _ _
  · exact s.changesOnly_refl _

theorem State.changesOnly_perBerthClear (s : State) (b : BerthId) :
    s.changesOnly (s.perBerthClear b) [.berths, .coding, .lanes] :=
  State.changesOnly_comp (ps := [.berths, .coding]) (qs := [.lanes])
    (State.changesOnly_comp (s.changesOnly_setBerth b _) (State.changesOnly_setCoding _ _) (by simp) (by simp))
    (forEach_changesOnly (fun s j => s.changesOnly_takeBackLane b j) allLanes _) (by simp) (by simp)

theorem Quiet.changesOnly {s t : State} (h : Quiet s t) :
    s.changesOnly t [.carriers, .principals, .orders, .coding, .wires, .berths, .lanes] := by
  cases h with
  | relabel k c _ => exact State.changesOnly_mono (s.changesOnly_storeCarrier k c) (by simp)
  | notice h => exact State.changesOnly_mono h.changesOnly (by simp)
  | field h => exact State.changesOnly_mono h.changesOnly (by simp)
  | coding x _ => exact State.changesOnly_mono (s.changesOnly_setCoding x) (by simp)
  | berth h => exact State.changesOnly_mono h.changesOnly (by simp)
  | clear b => exact State.changesOnly_mono (s.changesOnly_perBerthClear b) (by simp)

theorem Quiets.changesOnly {s t : State} (h : Quiets s t) :
    s.changesOnly t [.carriers, .principals, .orders, .coding, .wires, .berths, .lanes] :=
  h.keeps (P := fun u => s.changesOnly u _) (fun _ _ h hs => State.changesOnly_trans hs h.changesOnly)
    (s.changesOnly_refl _)

theorem CarrierAct.changesOnly {s t : State} (h : CarrierAct s t) : s.changesOnly t [.carriers, .lanes] := by
  cases h with
  | dropTarget k => exact (s.retargets_dropTarget k).1
  | choose k j _ _ _ => exact State.changesOnly_trans (s.changesOnly_setCarrier _ _) (State.changesOnly_setLane _ _ _)
  | load k c _ _ _ _ _ => exact s.changesOnly_setCarrier _ _

theorem LaneAct.changesOnly {s t : State} (h : LaneAct s t) : s.changesOnly t [.lanes, .diverters] := by
  cases h with
  | lane j x _ => exact State.changesOnly_mono (s.changesOnly_storeLane j x) (by simp)
  | diverter j v _ => exact State.changesOnly_mono (s.changesOnly_setDiverter j v) (by simp)

theorem State.changesOnly_endReservation (s : State) (i : PointNo) : s.changesOnly (s.endReservation i) [.carriers] :=
  s.changesOnly_setCarriers _

theorem PointAct.changesOnly {s t : State} (h : PointAct s t) : s.changesOnly t [.induction, .carriers] := by
  cases h with
  | endReservation i => exact State.changesOnly_mono (s.changesOnly_endReservation i) (by simp)
  | clearWaiting i =>
    exact State.changesOnly_comp (s.changesOnly_endReservation i) (State.changesOnly_setPoint _ _ _) (by simp) (by simp)
  | present | wait | unmark | configure => exact State.changesOnly_mono (s.changesOnly_setPoint _ _) (by simp)
  | lapse | reserve => exact State.changesOnly_mono (s.changesOnly_storeCarrier _ _) (by simp)
  | limits => exact State.changesOnly_mono (s.changesOnly_setInduction _) (by simp)

theorem StationAct.changesOnly {s t : State} (h : StationAct s t) : s.changesOnly t [.stations] := by
  cases h with
  | station n x _ _ => exact s.changesOnly_setStation n x

theorem LinkAct.changesOnly {s t : State} (h : LinkAct s t) : s.changesOnly t [.links, .lastServed] := by
  cases h with
  | served l => exact State.changesOnly_mono (s.changesOnly_setLastServed l) (by simp)
  | update | attach | permit => exact State.changesOnly_mono (s.changesOnly_setLink _ _) (by simp)
  | takeOver l m p _ _ =>
    exact State.changesOnly_comp (s.changesOnly_setLink m _) (State.changesOnly_setLink _ _ _) (by simp) (by simp)

theorem State.changesOnly_endReservations (s : State) : s.changesOnly s.endReservations [.carriers] :=
  s.changesOnly_setCarriers _

theorem State.changesOnly_enterMode (s : State) (m : Mode) : s.changesOnly (s.enterMode m) [.carriers, .mode] := by
  unfold State.enterMode
  split
  · exact State.changesOnly_comp s.changesOnly_endReservations (State.changesOnly_setMode _ _) (by simp) (by simp)
  · exact State.changesOnly_mono (s.changesOnly_setMode m) (by simp)

theorem State.changesOnly_vacate (s : State) : s.changesOnly s.vacate [.carriers, .lanes] :=
  State.changesOnly_comp (qs := [.lanes]) (s.changesOnly_setCarriers _)
    (forEach_changesOnly (fun s j => s.changesOnly_storeLane j _) allLanes _) (by simp) (by simp)

theorem State.changesOnly_resize (s : State) (n : Nat) : s.changesOnly (s.resize n) [.loop, .carriers] := by
  unfold State.resize
  split
  · exact s.changesOnly_refl _
  · exact State.changesOnly_comp (s.changesOnly_setLoop _) (State.changesOnly_setCarriers _ _) (by simp) (by simp)

theorem State.changesOnly_reshape (s : State) (count commit : Nat) :
    s.changesOnly (s.reshape count commit) [.loop, .carriers, .induction] :=
  State.changesOnly_comp (ps := [.loop, .carriers])
    (State.changesOnly_comp (s.changesOnly_resize count) (State.changesOnly_setLoop _ _) (by simp) (by simp))
    (State.changesOnly_setInduction _ _) (by simp) (by simp)

/-- No action touches the model's queue (log 32). -/
theorem Act.pending_eq {s t : State} (h : Act s t) : t.pending = s.pending := by
  cases h with
  | quiet h => exact h.changesOnly .pending (by simp)
  | carrier h => exact h.changesOnly .pending (by simp)
  | lane h => exact h.changesOnly .pending (by simp)
  | point h => exact h.changesOnly .pending (by simp)
  | station h => exact h.changesOnly .pending (by simp)
  | router | loop | wires => rfl
  | mode m _ => exact s.changesOnly_enterMode m .pending (by simp)
  | vacate => exact s.changesOnly_vacate .pending (by simp)
  | reshape c k _ _ _ => exact s.changesOnly_reshape c k .pending (by simp)
  | land k j _ h => exact h.changesOnly .pending (by simp)

theorem Deed.pending_eq {s t : State} (h : Deed s t) : t.pending = s.pending := by
  cases h with
  | act h => exact h.pending_eq
  | link h => exact h.changesOnly .pending (by simp)
  | powerOn => rfl

/-- No action touches the links, nor which was last served. -/
theorem Act.links_eq {s t : State} (h : Act s t) : t.links = s.links ∧ t.lastServed = s.lastServed := by
  have same {t : State} {ps : List Part} (hc : s.changesOnly t ps) (hps : Part.links ∉ ps ∧ Part.lastServed ∉ ps) :
      t.links = s.links ∧ t.lastServed = s.lastServed := ⟨hc .links hps.1, hc .lastServed hps.2⟩
  cases h with
  | quiet h => exact same h.changesOnly (by simp)
  | carrier h => exact same h.changesOnly (by simp)
  | lane h => exact same h.changesOnly (by simp)
  | point h => exact same h.changesOnly (by simp)
  | station h => exact same h.changesOnly (by simp)
  | router | loop | wires => exact ⟨rfl, rfl⟩
  | mode m _ => exact same (s.changesOnly_enterMode m) (by simp)
  | vacate => exact same s.changesOnly_vacate (by simp)
  | reshape c k _ _ _ => exact same (s.changesOnly_reshape c k) (by simp)
  | land k j _ h => exact ⟨h.changesOnly .links (by simp), h.changesOnly .lastServed (by simp)⟩

theorem Acts.links_eq {s t : State} (h : Acts s t) : t.links = s.links ∧ t.lastServed = s.lastServed :=
  h.keeps (P := fun u => u.links = s.links ∧ u.lastServed = s.lastServed)
    (fun _ _ h hs => ⟨h.links_eq.1.trans hs.1, h.links_eq.2.trans hs.2⟩) ⟨rfl, rfl⟩

/-- Settles O3: every command is a chain of actions, and none touches the queue. -/
theorem everyCommandCompletes : Obligations.EveryCommandCompletes := by
  refine ⟨fun c s => ?_, fun s => ?_⟩
  · obtain ⟨t, ht, h⟩ := deeds_exec c s
    exact ⟨t, ht, h.keeps (P := fun t => t.pending = s.pending) (fun _ _ h hs => h.pending_eq.trans hs) rfl⟩
  · obtain ⟨t, ht, _⟩ := deeds_step s
    exact ⟨t, ht⟩

/-- Settles O1. -/
theorem stepTakesTheFront : Obligations.StepTakesTheFront := by
  intro s c rest h
  simp only [step, h]
  rfl

end Sys2Proof.Machine

/-! SUPPORT. R106: each lane's inbound is what is promised at it, and fill plus inbound within the capacity. -/

namespace Sys2Proof.Machine

/-! ## Promises -/

/-- What one carrier record promises lane `j`. -/
def Carrier.promise (c : Carrier) (j : LaneNo) : Nat := if c.target = some j then c.units else 0

theorem State.promised_eq (s : State) (j : LaneNo) : s.promised j = (s.carriers.table.map (·.promise j)).sum := rfl

theorem sum_set_add {α : Type} (f : α → Nat) (l : List α) (k : Nat) (a b : α) (h : l[k]? = some a) :
    ((l.set k b).map f).sum + f a = (l.map f).sum + f b := by
  induction l generalizing k with
  | nil => simp at h
  | cons x xs ih =>
    cases k with
    | zero => simp at h; subst h; simp; omega
    | succ n =>
      have := ih n (by simpa using h)
      simp only [List.set_cons_succ, List.map_cons, List.sum_cons]; omega

theorem State.setCarrier_of_none {s : State} {k : Nat} (c : Carrier) (h : s.carriers.table[k]? = none) :
    s.setCarrier k c = s := by
  simp [State.setCarrier, State.setCarriers, CarrierTable.store, h]

theorem State.table_setCarrier (s : State) (k : Nat) (c : Carrier) :
    (s.setCarrier k c).carriers.table = s.carriers.table.set k c := by
  simp only [State.setCarrier, State.setCarriers_carriers, CarrierTable.store]
  split
  next h => rw [List.set_eq_of_length_le (List.getElem?_eq_none_iff.1 h)]
  next => rfl

theorem State.carrier_eq_of_getElem? {s : State} {k : Nat} {c : Carrier} (h : s.carriers.table[k]? = some c) :
    s.carrier k = c := by
  simp [State.carrier, List.getD, h]

/-- Storing a carrier record changes what is promised by the record's own promise. -/
theorem State.promised_setCarrier (s : State) (k : Nat) (c : Carrier) (j : LaneNo) (hk : k < s.carriers.table.length) :
    (s.setCarrier k c).promised j + (s.carrier k).promise j = s.promised j + c.promise j := by
  have h : s.carriers.table[k]? = some (s.carrier k) := by
    simp [State.carrier, List.getD, List.getElem?_eq_getElem hk]
  rw [State.promised_eq, State.promised_eq, State.table_setCarrier]
  exact sum_set_add _ _ _ _ _ h

/-- The same, with the record's own promise kept. -/
theorem State.promised_setCarrier_same (s : State) (k : Nat) {c : Carrier} (j : LaneNo)
    (h : c.promise j = (s.carrier k).promise j) : (s.setCarrier k c).promised j = s.promised j := by
  rcases Nat.lt_or_ge k s.carriers.table.length with hk | hk
  · have := s.promised_setCarrier k c j hk
    omega
  · rw [State.setCarrier_of_none c (List.getElem?_eq_none hk)]

theorem Carrier.promise_of_none {c : Carrier} (h : c.target = none) (j : LaneNo) : c.promise j = 0 := by
  simp [Carrier.promise, h]

/-! ## The invariant, up to a bag that is landing -/

/-- R106 with lane `j` short of `units` load units of inbound: those of a bag that has landed in it while its carrier still
names the lane as its target. With 0 units it is `State.roomKept`. -/
structure State.RoomOff (s : State) (j : LaneNo) (units : Nat) : Prop where
  counted : s.counted
  empty : ∀ c ∈ s.carriers.table, c.state = .empty → c.target = none
  setup : s.mode = .setup → ∀ c ∈ s.carriers.table, c.target = none
  inbound : ∀ i, (s.lane i).inbound + (if i = j then units else 0) = s.promised i
  room : ∀ i, (s.lane i).fill + (s.lane i).inbound ≤ (s.lane i).capacity ∧ (s.lane i).capacity ≤ 255

theorem State.roomKept_iff (s : State) (j : LaneNo) : s.roomKept ↔ s.RoomOff j 0 := by
  constructor
  · rintro ⟨h1, h2, h3, h4⟩
    exact ⟨h1, h2, h3, fun i => by simpa using (h4 i).1, fun i => (h4 i).2⟩
  · rintro ⟨h1, h2, h3, h4, h5⟩
    exact ⟨h1, h2, h3, fun i => ⟨by simpa using h4 i, h5 i⟩⟩

/-- The invariant sees the loop, the carriers, the mode and of each lane three fields. -/
theorem State.RoomOff.congr {s t : State} {j : LaneNo} {u : Nat} (h : s.RoomOff j u) (hl : t.loop = s.loop)
    (hc : t.carriers = s.carriers) (hm : t.mode = s.mode)
    (hn : ∀ i, (t.lane i).inbound = (s.lane i).inbound ∧ (t.lane i).fill = (s.lane i).fill
      ∧ (t.lane i).capacity = (s.lane i).capacity) : t.RoomOff j u := by
  obtain ⟨h1, h2, h3, h4, h5⟩ := h
  refine ⟨by rwa [State.counted, hl, hc], by rwa [hc], by rwa [hc, hm], fun i => ?_, fun i => ?_⟩
  · rw [(hn i).1, State.promised_eq, hc]; exact h4 i
  · rw [(hn i).1, (hn i).2.1, (hn i).2.2]; exact h5 i

theorem State.lane_eq_of_lanes {s t : State} (h : t.lanes = s.lanes) (i : LaneNo) : t.lane i = s.lane i := by
  simp [State.lane, h]

theorem State.RoomOff.of_changesOnly {s t : State} {j : LaneNo} {u : Nat} {ps : List Part} (h : s.RoomOff j u)
    (hc : s.changesOnly t ps) (hps : Part.loop ∉ ps ∧ Part.carriers ∉ ps ∧ Part.mode ∉ ps ∧ Part.lanes ∉ ps) :
    t.RoomOff j u :=
  h.congr (hc .loop hps.1) (hc .carriers hps.2.1) (hc .mode hps.2.2.1) fun i => by
    rw [State.lane_eq_of_lanes (hc .lanes hps.2.2.2)]
    exact ⟨rfl, rfl, rfl⟩

theorem mem_set_iff_or {α : Type} {l : List α} {k : Nat} {a b : α} (h : b ∈ l.set k a) : b = a ∨ b ∈ l :=
  (List.mem_or_eq_of_mem_set h).symm

theorem State.mem_table_or_empty (s : State) (k : Nat) : s.carrier k ∈ s.carriers.table ∨ s.carriers.table[k]? = none := by
  cases h : s.carriers.table[k]? with
  | none => exact .inr rfl
  | some c =>
    rw [State.carrier_eq_of_getElem? h]
    exact .inl (List.mem_of_getElem? h)

/-- A carrier record replaced by one that makes the same promises. -/
theorem State.RoomOff.setCarrier {s : State} {j : LaneNo} {u : Nat} (h : s.RoomOff j u) (k : Nat) {c : Carrier}
    (ht : c.target = (s.carrier k).target) (hu : c.target ≠ none → c.units = (s.carrier k).units)
    (he : c.state = .empty → (s.carrier k).state = .empty ∨ c.target = none) : (s.setCarrier k c).RoomOff j u := by
  rcases s.mem_table_or_empty k with hk | hk
  · obtain ⟨h1, h2, h3, h4, h5⟩ := h
    refine ⟨s.counted_setCarrier k c h1, fun d hd => ?_, fun hm d hd => ?_, fun i => ?_, h5⟩
    · rw [State.table_setCarrier] at hd
      rcases mem_set_iff_or hd with rfl | hd
      · exact fun hs => (he hs).elim (fun hs => ht.trans (h2 _ hk hs)) id
      · exact h2 d hd
    · rw [State.table_setCarrier] at hd
      rcases mem_set_iff_or hd with rfl | hd
      · exact ht.trans (h3 hm _ hk)
      · exact h3 hm d hd
    · rw [State.promised_setCarrier_same s k i ?_]
      · exact h4 i
      · unfold Carrier.promise
        by_cases hn : c.target = none
        · rw [← ht, hn]; simp
        · rw [hu hn, ht]
  · rwa [State.setCarrier_of_none c hk]

theorem Carrier.Relabels.units {c c' : Carrier} (h : c.Relabels c') : c'.units = c.units := by
  simp [Carrier.units, h.size]

theorem Carrier.units_of_size {c c' : Carrier} (h : c'.size = c.size) : c'.units = c.units := by
  simp [Carrier.units, h]

/-- Lanes rewritten one by one, each keeping the fields that the invariant sees. -/
theorem State.lane_perBerthClear (s : State) (b : BerthId) (i : LaneNo) :
    ((s.perBerthClear b).lane i) = if (s.lane i).owner == .berth b then (s.lane i).returned else s.lane i := by
  have keep : ∀ (js : List LaneNo) (s : State), js.Nodup →
      (forEach js (fun s j => s.takeBackLane b j) s).lane i
        = if i ∈ js ∧ (s.lane i).owner = .berth b then (s.lane i).returned else s.lane i := by
    intro js
    induction js with
    | nil => exact fun s _ => by simp [forEach]
    | cons a js ih =>
      intro s hd
      obtain ⟨ha, hd⟩ := List.nodup_cons.1 hd
      rw [forEach, List.foldl_cons, ← forEach, ih _ hd, State.takeBackLane]
      by_cases hi : i = a
      · subst hi
        by_cases ho : (s.lane i).owner = .berth b <;> simp [ha, ho]
      · by_cases ho : (s.lane a).owner = .berth b <;> simp [ho, hi, State.lane_setLane_ne _ _ hi]
  unfold State.perBerthClear
  dsimp only
  rw [keep allLanes _ (List.nodup_finRange 40)]
  simp [allLanes, State.lane]

theorem Quiet.roomOff {s t : State} {j : LaneNo} {u : Nat} (h : Quiet s t) (hs : s.RoomOff j u) : t.RoomOff j u := by
  cases h with
  | relabel k c hc => exact hs.setCarrier k hc.target (fun _ => hc.units) fun he => .inl (hc.loaded he)
  | notice h => exact hs.of_changesOnly h.changesOnly (by simp)
  | field h => exact hs.of_changesOnly h.changesOnly (by simp)
  | coding x _ => exact hs.of_changesOnly (s.changesOnly_setCoding x) (by simp)
  | berth h => exact hs.of_changesOnly h.changesOnly (by simp)
  | clear b =>
    have hc := s.changesOnly_perBerthClear b
    refine hs.congr (hc .loop (by simp)) (hc .carriers (by simp)) (hc .mode (by simp)) fun i => ?_
    rw [s.lane_perBerthClear]
    split <;> exact ⟨rfl, rfl, rfl⟩

/-! ## Targets -/

theorem State.counted_setLane {s : State} (h : s.counted) (j : LaneNo) (x : Lane) : (s.setLane j x).counted := h

/-- An inbound changed along with a carrier's promise. -/
theorem State.roomKept_retarget {s : State} (h : s.roomKept) (k : Nat) (j : LaneNo) (c : Carrier) (n : Nat)
    (hk : k < s.carriers.table.length) (hne : c.state = .empty → c.target = none)
    (hsetup : s.mode = .setup → c.target = none)
    (hj : n + (s.carrier k).promise j = (s.lane j).inbound + c.promise j)
    (hother : ∀ i, i ≠ j → c.promise i = (s.carrier k).promise i) (hroom : (s.lane j).fill + n ≤ (s.lane j).capacity) :
    ((s.setCarrier k c).setLane j { s.lane j with inbound := n }).roomKept := by
  obtain ⟨h1, h2, h3, h4⟩ := h
  refine ⟨State.counted_setLane (s.counted_setCarrier k c h1) _ _, fun d hd => ?_, fun hm d hd => ?_, fun i => ?_⟩
  · rw [State.setLane_carriers, State.table_setCarrier] at hd
    rcases mem_set_iff_or hd with rfl | hd
    · exact hne
    · exact h2 d hd
  · rw [State.setLane_carriers, State.table_setCarrier] at hd
    rcases mem_set_iff_or hd with rfl | hd
    · exact hsetup hm
    · exact h3 hm d hd
  · have hp := s.promised_setCarrier k c i hk
    have hpl : ((s.setCarrier k c).setLane j { s.lane j with inbound := n }).promised i = (s.setCarrier k c).promised i :=
      rfl
    rw [hpl]
    by_cases hi : i = j
    · subst hi
      have := (h4 i).1
      simp only [State.lane_setLane]
      exact ⟨by omega, hroom, (h4 i).2.2⟩
    · rw [State.lane_setLane_ne _ _ hi, State.lane_setCarrier]
      have := hother i hi
      exact ⟨by have := (h4 i).1; omega, (h4 i).2⟩

theorem State.promise_le_inbound {s : State} (h : s.roomKept) (k : Nat) (j : LaneNo) :
    (s.carrier k).promise j ≤ (s.lane j).inbound := by
  obtain ⟨_, _, _, h4⟩ := h
  rw [(h4 j).1, State.promised_eq]
  rcases s.mem_table_or_empty k with hk | hk
  · exact List.single_le_sum (by simp) _ (List.mem_map_of_mem hk)
  · simp [State.carrier, List.getD, hk, Carrier.promise, Carrier.empty]

theorem State.roomKept_dropTarget {s : State} (h : s.roomKept) (k : Nat) : (s.dropTarget k).roomKept := by
  unfold State.dropTarget
  split
  · exact h
  next j hj =>
    have hle := State.promise_le_inbound h k j
    have hpj : (s.carrier k).promise j = (s.carrier k).units := by simp [Carrier.promise, hj]
    have hroom := (h.2.2.2 j).2.1
    refine State.roomKept_retarget h k j _ _ (s.lt_of_carrier_ne ?_) (fun _ => rfl) (fun _ => rfl) ?_ (fun i hi => ?_) ?_
    · intro he; rw [he] at hj; simp [Carrier.empty] at hj
    · simp [Carrier.promise, State.lane_setCarrier, hj]
      omega
    · simp [Carrier.promise, hj, Ne.symm hi]
    · simp [State.lane_setCarrier]; omega

theorem CarrierAct.roomKept {s t : State} (h : CarrierAct s t) (hs : s.roomKept) : t.roomKept := by
  cases h with
  | dropTarget k => exact State.roomKept_dropTarget hs k
  | choose k j hmode hk hroom =>
    simp only [Carrier.isUntargeted, Bool.and_eq_true, beq_iff_eq] at hk
    refine State.roomKept_retarget hs k j _ _ (s.lt_of_carrier_ne ?_) (fun he => ?_) (fun hm => ?_) ?_ (fun i hi => ?_) ?_
    · intro he; rw [he] at hk; simp [Carrier.empty] at hk
    · rw [show (s.carrier k).state = .empty from he] at hk; simp at hk
    · rw [hm] at hmode; simp [Mode.sorts] at hmode
    · simp [Carrier.promise, hk.2, Carrier.units]
    · simp [Carrier.promise, hk.2, Ne.symm hi]
    · simp; omega
  | load k c hk ht hr _ _ =>
    refine (State.roomKept_iff _ 0).2 (((State.roomKept_iff s 0).1 hs).setCarrier k ?_ (fun h => absurd ht h) fun _ => .inr ht)
    rcases s.mem_table_or_empty k with hm | hm
    · rw [ht, hs.2.1 _ hm hk]
    · simp [ht, State.carrier, List.getD, hm, Carrier.empty]

/-! ## Lanes -/

theorem LaneAct.roomKept {s t : State} (h : LaneAct s t) (hs : s.roomKept) : t.roomKept := by
  cases h with
  | lane j x hx =>
    obtain ⟨h1, h2, h3, h4⟩ := hs
    refine ⟨h1, h2, h3, fun i => ?_⟩
    by_cases hi : i = j
    · subst hi
      rw [State.lane_setLane]
      have := hx.room (h4 i).2
      exact ⟨hx.inbound.trans (h4 i).1, by rw [hx.inbound]; exact this⟩
    · rw [State.lane_setLane_ne _ _ hi]; exact h4 i
  | diverter j v _ =>
    exact (State.roomKept_iff _ 0).2 (((State.roomKept_iff s 0).1 hs).of_changesOnly (s.changesOnly_setDiverter j v)
      (by simp))

/-! ## Reservations, modes and the table as a whole -/

/-- The table rewritten record by record with the promises and the states kept. -/
theorem State.roomKept_map {s : State} (h : s.roomKept) {f : Carrier → Carrier}
    (hf : ∀ c, (f c).target = c.target ∧ (f c).size = c.size ∧ (f c).state = c.state) :
    (s.setCarriers { s.carriers with table := s.carriers.table.map f }).roomKept := by
  obtain ⟨⟨hl, ha, hb⟩, h2, h3, h4⟩ := h
  have hcount (p : CarrierState → Bool) : (s.carriers.table.map f).countP (fun c => p c.state)
      = s.carriers.table.countP fun c => p c.state := by
    rw [List.countP_map]
    exact List.countP_congr fun c _ => by simp [(hf c).2.2]
  refine ⟨⟨by simpa using hl, ha.trans (hcount (· != .empty)).symm, hb.trans (hcount (· == .unverified)).symm⟩,
    fun c hc => ?_, fun hm c hc => ?_, fun j => ?_⟩
  · obtain ⟨d, hd, rfl⟩ := List.mem_map.1 hc
    rw [(hf d).1, (hf d).2.2]; exact h2 d hd
  · obtain ⟨d, hd, rfl⟩ := List.mem_map.1 hc
    rw [(hf d).1]; exact h3 hm d hd
  · have hp : (s.setCarriers { s.carriers with table := s.carriers.table.map f }).promised j = s.promised j := by
      rw [State.promised_eq, State.promised_eq, State.setCarriers_carriers, List.map_map]
      congr 1
      refine List.map_congr_left fun c _ => ?_
      simp [Carrier.promise, (hf c).1, Carrier.units_of_size (hf c).2.1]
    rw [hp]
    exact h4 j

theorem PointAct.roomKept {s t : State} (h : PointAct s t) (hs : s.roomKept) : t.roomKept := by
  have point {s : State} (hs : s.roomKept) (i : PointNo) (x : Point) : (s.setPoint i x).roomKept := hs
  have reserved (k : Nat) (r : Option PointNo) : (s.setCarrier k { s.carrier k with reservation := r }).roomKept :=
    (State.roomKept_iff _ 0).2 (((State.roomKept_iff s 0).1 hs).setCarrier k rfl (fun _ => rfl) .inl)
  have ended (i : PointNo) : (s.endReservation i).roomKept := State.roomKept_map hs fun _ => ⟨rfl, rfl, rfl⟩
  cases h with
  | endReservation i => exact ended i
  | clearWaiting i => exact point (ended i) i _
  | present | wait | unmark | configure => exact point hs _ _
  | lapse k => exact reserved k _
  | reserve i k _ _ _ => exact reserved k _
  | limits => exact hs

theorem State.roomKept_enterMode {s : State} (h : s.roomKept) (m : Mode)
    (hm : m = .setup → s.carriers.loaded = 0 ∨ ∀ c ∈ s.carriers.table, c.target = none) : (s.enterMode m).roomKept := by
  have untargeted : m = .setup → ∀ c ∈ s.carriers.table, c.target = none := fun he =>
    (hm he).elim (fun h0 c hc => by
      obtain ⟨⟨_, ha, _⟩, h2, _, _⟩ := h
      have hz : s.carriers.table.countP Carrier.isLoaded = 0 := ha.symm.trans h0
      have := List.countP_eq_zero.1 hz c hc
      exact h2 c hc (by simpa [Carrier.isLoaded] using this)) id
  have set {u : State} (hu : u.roomKept) (hs : m = .setup → ∀ c ∈ u.carriers.table, c.target = none) :
      (u.setMode m).roomKept := ⟨hu.1, hu.2.1, hs, hu.2.2.2⟩
  unfold State.enterMode
  split
  · refine set (State.roomKept_map h fun _ => ⟨rfl, rfl, rfl⟩) fun he c hc => ?_
    obtain ⟨d, hd, rfl⟩ := List.mem_map.1 hc
    exact untargeted he d hd
  · exact set h untargeted

theorem CarrierTable.allEmpty_facts (n : Nat) : (CarrierTable.allEmpty n).table.length = n
    ∧ (∀ c ∈ (CarrierTable.allEmpty n).table, c = Carrier.empty) := by
  simp [CarrierTable.allEmpty]

/-- A table of EMPTY records counts no bag and promises nothing. -/
theorem State.roomKept_allEmpty {s : State} {n : Nat} (hc : s.carriers = CarrierTable.allEmpty n) (hn : n = s.loop.count)
    (hl : ∀ j, (s.lane j).inbound = 0 ∧ (s.lane j).fill ≤ (s.lane j).capacity ∧ (s.lane j).capacity ≤ 255) :
    s.roomKept := by
  obtain ⟨hlen, hall⟩ := CarrierTable.allEmpty_facts n
  rw [State.roomKept, State.counted, hc]
  refine ⟨⟨hlen.trans hn, ?_, ?_⟩, fun c hm _ => by rw [hall c hm]; rfl, fun _ c hm => by rw [hall c hm]; rfl, fun j => ?_⟩
  · exact (List.countP_eq_zero.2 fun c hm => by rw [hall c hm]; decide).symm
  · exact (List.countP_eq_zero.2 fun c hm => by rw [hall c hm]; decide).symm
  · obtain ⟨h1, h2, h3⟩ := hl j
    have hp : s.promised j = 0 := by
      rw [State.promised_eq, hc]
      refine List.sum_eq_zero fun x hx => ?_
      obtain ⟨c, hm, rfl⟩ := List.mem_map.1 hx
      rw [hall c hm]; rfl
    exact ⟨h1.trans hp.symm, by omega, h3⟩

theorem State.lane_vacate (s : State) (i : LaneNo) : s.vacate.lane i = { s.lane i with inbound := 0 } := by
  have keep : ∀ (js : List LaneNo) (s : State),
      (forEach js (fun s j => s.setLane j { s.lane j with inbound := 0 }) s).lane i
        = if i ∈ js then { s.lane i with inbound := 0 } else s.lane i := by
    intro js
    induction js with
    | nil => exact fun s => by simp [forEach]
    | cons a js ih =>
      intro s
      rw [forEach, List.foldl_cons, ← forEach, ih]
      by_cases hi : i = a
      · subst hi; simp
      · simp [hi, State.lane_setLane_ne _ _ hi]
  unfold State.vacate
  rw [keep]
  simp [allLanes, State.lane]

theorem State.roomKept_vacate {s : State} (h : s.roomKept) : s.vacate.roomKept := by
  refine State.roomKept_allEmpty s.carriers_vacate ?_ fun j => ?_
  · rw [s.changesOnly_vacate .loop (by simp)]; exact h.1.1
  · rw [s.lane_vacate]
    obtain ⟨_, h5, h6⟩ := h.2.2.2 j
    exact ⟨rfl, by simp only; omega, h6⟩

theorem State.roomKept_reshape {s : State} (h : s.roomKept) (count commit : Nat) (hmode : s.mode = .setup) :
    (s.reshape count commit).roomKept := by
  unfold State.reshape State.resize
  by_cases hc : count = s.loop.count
  · rw [if_pos hc]; exact h
  · rw [if_neg hc]
    refine State.roomKept_allEmpty (n := count) rfl rfl fun j => ?_
    obtain ⟨h4, h5, h6⟩ := h.2.2.2 j
    have hp : s.promised j = 0 := by
      rw [State.promised_eq]
      refine List.sum_eq_zero fun x hx => ?_
      obtain ⟨c, hm, rfl⟩ := List.mem_map.1 hx
      exact Carrier.promise_of_none (h.2.2.1 hmode c hm) j
    change (s.lane j).inbound = 0 ∧ (s.lane j).fill ≤ (s.lane j).capacity ∧ (s.lane j).capacity ≤ 255
    omega

/-! ## Landing -/

theorem State.roomKept_land {s t : State} {k : Nat} {j : LaneNo} (hs : s.roomKept) (hk : (s.carrier k).isFiredAt j = true)
    (h : Quiets (s.setLane j ((s.lane j).landed (s.carrier k).units)) t) : (t.setCarrier k Carrier.empty).roomKept := by
  simp only [Carrier.isFiredAt, Bool.and_eq_true, beq_iff_eq] at hk
  have hpj : (s.carrier k).promise j = (s.carrier k).units := by simp [Carrier.promise, hk.2]
  have hle := State.promise_le_inbound hs k j
  have landed : (s.setLane j ((s.lane j).landed (s.carrier k).units)).RoomOff j (s.carrier k).units := by
    obtain ⟨h1, h2, h3, h4⟩ := hs
    refine ⟨h1, h2, h3, fun i => ?_, fun i => ?_⟩ <;> by_cases hi : i = j
    · subst hi
      have := (h4 i).1
      simp only [State.lane_setLane, Lane.landed, if_pos]
      change _ = s.promised i
      omega
    · rw [State.lane_setLane_ne _ _ hi, if_neg hi]; exact (h4 i).1
    · subst hi
      have := (h4 i).2
      simp only [State.lane_setLane, Lane.landed]
      omega
    · rw [State.lane_setLane_ne _ _ hi]; exact (h4 i).2
  have promise : ∀ u, Quiets (s.setLane j ((s.lane j).landed (s.carrier k).units)) u →
      (u.carrier k).target = some j ∧ (u.carrier k).units = (s.carrier k).units := by
    intro u hu
    refine hu.keeps (P := fun u => (u.carrier k).target = some j ∧ (u.carrier k).units = (s.carrier k).units)
      (fun u v hq hu => ?_) ⟨hk.2, rfl⟩
    cases hq with
    | relabel i c hc =>
      rw [State.carrier_setCarrier]
      split
      next hki =>
        rw [← hki.1] at hc
        exact ⟨hc.target.trans hu.1, hc.units.trans hu.2⟩
      next => exact hu
    | notice h => simpa [State.carrier, show _ = _ from h.changesOnly .carriers (by simp)] using hu
    | field h => simpa [State.carrier, show _ = _ from h.changesOnly .carriers (by simp)] using hu
    | coding x _ => exact hu
    | berth h => simpa [State.carrier, show _ = _ from h.changesOnly .carriers (by simp)] using hu
    | clear b => simpa [State.carrier, show _ = _ from (u.changesOnly_perBerthClear b) .carriers (by simp)] using hu
  obtain ⟨htarget, hunits⟩ := promise t h
  have ht : t.RoomOff j (s.carrier k).units := h.keeps (P := fun t => t.RoomOff j _) (fun _ _ hq => hq.roomOff) landed
  have hlt : k < t.carriers.table.length := t.lt_of_carrier_ne fun he => by rw [he] at htarget; simp [Carrier.empty] at htarget
  obtain ⟨h1, h2, h3, h4, h5⟩ := ht
  refine ⟨t.counted_setCarrier k _ h1, fun c hc => ?_, fun hm c hc => ?_, fun i => ⟨?_, h5 i⟩⟩
  · rw [State.table_setCarrier] at hc
    rcases mem_set_iff_or hc with rfl | hc
    · exact fun _ => rfl
    · exact h2 c hc
  · rw [State.table_setCarrier] at hc
    rcases mem_set_iff_or hc with rfl | hc
    · rfl
    · exact h3 hm c hc
  · have hp := t.promised_setCarrier k Carrier.empty i hlt
    have hi := h4 i
    have he : Carrier.empty.promise i = 0 := rfl
    have hpi : (t.carrier k).promise i = if i = j then (s.carrier k).units else 0 := by
      simp only [Carrier.promise, htarget, hunits, Option.some.injEq, eq_comm]
    rw [State.lane_setCarrier]
    omega

/-! ## Every step -/

theorem State.roomKept_reset : State.reset.roomKept :=
  State.roomKept_allEmpty rfl rfl fun j => by
    have : State.reset.lane j = Lane.reset := by simp [State.lane, State.reset]
    rw [this]
    exact ⟨rfl, Nat.le_refl _, Nat.zero_le _⟩

theorem Act.roomKept {s t : State} (h : Act s t) (hs : s.roomKept) : t.roomKept := by
  have same {t : State} {ps : List Part} (hc : s.changesOnly t ps)
      (hps : Part.loop ∉ ps ∧ Part.carriers ∉ ps ∧ Part.mode ∉ ps ∧ Part.lanes ∉ ps) : t.roomKept :=
    (State.roomKept_iff _ 0).2 (((State.roomKept_iff s 0).1 hs).of_changesOnly hc hps)
  cases h with
  | quiet h => exact (State.roomKept_iff _ 0).2 (h.roomOff ((State.roomKept_iff s 0).1 hs))
  | carrier h => exact h.roomKept hs
  | lane h => exact h.roomKept hs
  | point h => exact h.roomKept hs
  | station h => exact same h.changesOnly (by simp)
  | router r _ => exact hs
  | loop l h => exact ⟨⟨hs.1.1.trans h.count.symm, hs.1.2⟩, hs.2⟩
  | wires w => exact hs
  | mode m h => exact State.roomKept_enterMode hs m h
  | vacate => exact State.roomKept_vacate hs
  | reshape c k hm _ _ => exact State.roomKept_reshape hs c k hm
  | land k j hk h => exact State.roomKept_land hs hk h

theorem Deed.roomKept {s t : State} (h : Deed s t) (hs : s.roomKept) : t.roomKept := by
  have same {t : State} {ps : List Part} (hc : s.changesOnly t ps)
      (hps : Part.loop ∉ ps ∧ Part.carriers ∉ ps ∧ Part.mode ∉ ps ∧ Part.lanes ∉ ps) : t.roomKept :=
    (State.roomKept_iff _ 0).2 (((State.roomKept_iff s 0).1 hs).of_changesOnly hc hps)
  cases h with
  | act h => exact h.roomKept hs
  | link h => exact same h.changesOnly (by simp)
  | powerOn => exact State.roomKept_reset

/-- Settles O5: every action keeps the room promised. -/
theorem stepKeepsRoom : Obligations.StepKeepsRoom :=
  fun _ _ hs h => step_keeps (fun _ _ => Deed.roomKept) (fun _ _ => id) hs h

end Sys2Proof.Machine

/-! SUPPORT. The ranges of settings, counts and scores, and the stations' configurations (Tables 1-1 to 8-1). -/

namespace Sys2Proof.Machine

theorem State.stationsRead_iff (s : State) : s.stationsRead ↔ ∀ n, (s.station n).Reads := by
  refine forall_congr' fun n => ⟨?_, fun h => ?_⟩
  · rintro ⟨h1, h2, h3, h4, h5, h6, h7, h8, h9, h10, h11, h12⟩
    exact ⟨⟨h1, h2⟩, ⟨h3, h4, h5⟩, ⟨h6, h7⟩, ⟨h8, h9, h10⟩, h11, h12⟩
  · exact ⟨h.heads.1, h.heads.2, h.priority.1, h.priority.2.1, h.priority.2.2, h.polls.1, h.polls.2, h.votes.1,
      h.votes.2.1, h.votes.2.2, h.pollNumber, h.polled⟩

/-- The ranges block by block: what the actions of one block see of them. -/
structure State.InRange (s : State) : Prop where
  loop : 64 ≤ s.loop.count ∧ s.loop.count ≤ 1024 ∧ s.loop.position < s.loop.count ∧ 2 ≤ s.loop.commit
    ∧ s.loop.commit ≤ 15 ∧ s.loop.revolutions < 65536 ∧ s.loop.slips ≤ 255 ∧ s.loop.homeMissed ≤ 255
  limits : 1 ≤ s.induction.loadLimit ∧ s.induction.loadLimit ≤ s.loop.count ∧ 8 ≤ s.induction.starveLimit
    ∧ s.induction.starveLimit ≤ 255
  router : 1 ≤ s.router.lapLimit ∧ s.router.lapLimit ≤ 15 ∧ s.router.waitLimit ≤ 7
  carriers : ∀ c ∈ s.carriers.table, c.laps ≤ 15 ∧ c.tries ≤ 2
  points : ∀ i, ∀ w ∈ (s.point i).waiting, w.wait ≤ 255
  scores : ∀ n, (s.station n).ScoresFit
  diverters : ∀ j, (s.diverter j).score ≤ 31
  coding : 1 ≤ s.coding.ticketCounter ∧ s.coding.ticketCounter ≤ 4095 ∧ s.coding.unlisted ≤ 255
  links : ∀ l, (s.link l).errorCount ≤ 255 ∧ (s.link l).checkCount ≤ 16
  reads : ∀ n, (s.station n).Reads

theorem State.inRange_iff (s : State) : s.InRange ↔ s.settingsInRange ∧ s.scoresInRange ∧ s.stationsRead := by
  rw [State.stationsRead_iff]
  constructor
  · rintro ⟨⟨h1, h2, h3, h4, h5, h6, h7, h8⟩, h9, h10, hc, hp, hs, hd, ⟨hk1, hk2, hk3⟩, hl, hr⟩
    exact ⟨⟨h1, h2, h3, h4, h5, h6, h7, h8, h9.1, h9.2.1, h9.2.2.1, h9.2.2.2, h10⟩,
      ⟨hc, hp, hs, hd, hk1, hk2, hk3, hl⟩, hr⟩
  · rintro ⟨⟨h1, h2, h3, h4, h5, h6, h7, h8, h9, h10, h11, h12, h13⟩, ⟨hc, hp, hs, hd, hk1, hk2, hk3, hl⟩, hr⟩
    exact ⟨⟨h1, h2, h3, h4, h5, h6, h7, h8⟩, ⟨h9, h10, h11, h12⟩, h13, hc, hp, hs, hd, ⟨hk1, hk2, hk3⟩, hl, hr⟩

/-- A state that agrees on every block but some keeps the ranges of those blocks. -/
theorem State.InRange.of_changesOnly {s t : State} (h : s.InRange) {ps : List Part} (hc : s.changesOnly t ps)
    (loop : Part.loop ∉ ps) (router : Part.router ∉ ps)
    (limits : t.induction.loadLimit = s.induction.loadLimit ∧ t.induction.starveLimit = s.induction.starveLimit)
    (points : ∀ i, ∀ w ∈ (t.point i).waiting, w.wait ≤ 255)
    (carriers : ∀ c ∈ t.carriers.table, c.laps ≤ 15 ∧ c.tries ≤ 2)
    (stations : ∀ n, (t.station n).ScoresFit ∧ (t.station n).Reads) (diverters : ∀ j, (t.diverter j).score ≤ 31)
    (coding : 1 ≤ t.coding.ticketCounter ∧ t.coding.ticketCounter ≤ 4095 ∧ t.coding.unlisted ≤ 255)
    (links : ∀ l, (t.link l).errorCount ≤ 255 ∧ (t.link l).checkCount ≤ 16) : t.InRange := by
  have hl : t.loop = s.loop := hc .loop loop
  have hr : t.router = s.router := hc .router router
  exact ⟨by rw [hl]; exact h.loop, by rw [limits.1, limits.2, hl]; exact h.limits, by rw [hr]; exact h.router, carriers, points,
    fun n => (stations n).1, diverters, coding, links, fun n => (stations n).2⟩

theorem State.point_eq_of_induction {s t : State} (h : t.induction = s.induction) (i : PointNo) : t.point i = s.point i := by
  simp [State.point, h]

theorem State.station_eq_of_stations {s t : State} (h : t.stations = s.stations) (n : StationNo) :
    t.station n = s.station n := by
  simp [State.station, h]

theorem State.diverter_eq_of_diverters {s t : State} (h : t.diverters = s.diverters) (j : LaneNo) :
    t.diverter j = s.diverter j := by
  simp [State.diverter, h]

theorem State.link_eq_of_links {s t : State} (h : t.links = s.links) (l : LinkNo) : t.link l = s.link l := by
  simp [State.link, h]

theorem State.berth_eq_of_berths {s t : State} (h : t.berths = s.berths) (b : BerthId) : t.berth b = s.berth b := by
  cases b <;> simp [State.berth, h]

theorem State.principal_eq_of_principals {s t : State} (h : t.principals = s.principals) (p : Principal) :
    t.principal p = s.principal p := by
  rcases p with _ | _ | _ <;> simp [State.principal, h]

theorem State.carrier_eq_of_carriers {s t : State} (h : t.carriers = s.carriers) (k : Nat) : t.carrier k = s.carrier k := by
  simp [State.carrier, h]

/-- The ranges see nothing of notices, orders, wires, berths and lanes, and of the carriers and the coding records only
laps, tries and counts. -/
theorem State.InRange.of_records {s t : State} (h : s.InRange) {ps : List Part} (hc : s.changesOnly t ps)
    (hps : ∀ p ∈ ps, p ∈ [Part.carriers, .coding, .principals, .orders, .wires, .berths, .lanes, .mode])
    (carriers : ∀ c ∈ t.carriers.table, c.laps ≤ 15 ∧ c.tries ≤ 2)
    (coding : 1 ≤ t.coding.ticketCounter ∧ t.coding.ticketCounter ≤ 4095 ∧ t.coding.unlisted ≤ 255) : t.InRange := by
  have hi : t.induction = s.induction := hc .induction fun hm => by simpa using hps _ hm
  have hn : t.stations = s.stations := hc .stations fun hm => by simpa using hps _ hm
  have hd : t.diverters = s.diverters := hc .diverters fun hm => by simpa using hps _ hm
  have hl : t.links = s.links := hc .links fun hm => by simpa using hps _ hm
  refine h.of_changesOnly hc (fun hm => by simpa using hps _ hm) (fun hm => by simpa using hps _ hm)
    ⟨by rw [hi], by rw [hi]⟩ (fun i => ?_) carriers (fun n => ?_) (fun j => ?_) coding fun l => ?_
  · rw [State.point_eq_of_induction hi]; exact h.points i
  · rw [State.station_eq_of_stations hn]; exact ⟨h.scores n, h.reads n⟩
  · rw [State.diverter_eq_of_diverters hd]; exact h.diverters j
  · rw [State.link_eq_of_links hl]; exact h.links l

theorem State.InRange.of_others {s t : State} (h : s.InRange) {ps : List Part} (hc : s.changesOnly t ps)
    (hps : ∀ p ∈ ps, p ∈ [Part.principals, .orders, .wires, .berths, .lanes, .mode]) : t.InRange := by
  refine h.of_records hc (fun p hp => ?_) ?_ ?_
  · have := hps p hp
    simp only [List.mem_cons, List.not_mem_nil, or_false] at this ⊢
    tauto
  · rw [show t.carriers = s.carriers from hc .carriers fun hm => by simpa using hps _ hm]; exact h.carriers
  · rw [show t.coding = s.coding from hc .coding fun hm => by simpa using hps _ hm]; exact h.coding

/-- A carrier record stored with its counts in range. -/
theorem State.InRange.setCarrier {s : State} (h : s.InRange) (k : Nat) {c : Carrier}
    (hc : (s.carrier k).laps ≤ 15 ∧ (s.carrier k).tries ≤ 2 → c.laps ≤ 15 ∧ c.tries ≤ 2) : (s.setCarrier k c).InRange := by
  refine h.of_records (s.changesOnly_storeCarrier k c) (by simp) (fun d hd => ?_) h.coding
  rw [State.table_setCarrier] at hd
  rcases mem_set_iff_or hd with rfl | hd
  · refine hc ?_
    rcases s.mem_table_or_empty k with hk | hk
    · exact h.carriers _ hk
    · simp [State.carrier, List.getD, hk, Carrier.empty]
  · exact h.carriers d hd

theorem FieldAct.coding_counts {s t : State} (h : FieldAct s t) :
    t.coding.ticketCounter = s.coding.ticketCounter ∧ t.coding.unlisted = s.coding.unlisted := by
  cases h with
  | order o _ => exact (congrArg (fun c => (c.ticketCounter, c.unlisted)) (s.changesOnly_handOver o .coding (by simp)) |>
      Prod.mk.inj)
  | answer q n rs _ _ => unfold State.answer; split <;> exact ⟨rfl, rfl⟩
  | sent =>
    unfold State.sendOrder
    split
    · exact ⟨rfl, rfl⟩
    · dsimp only; split <;> exact ⟨rfl, rfl⟩

theorem forEach_takeBackLane_coding (s : State) (b : BerthId) (js : List LaneNo) :
    (forEach js (fun s j => s.takeBackLane b j) s).coding = s.coding :=
  (forEach_changesOnly (ps := [.lanes]) (fun s j => s.changesOnly_takeBackLane b j) js s) .coding (by simp)

@[simp] theorem State.coding_perBerthClear (s : State) (b : BerthId) : (s.perBerthClear b).coding = s.coding.forget b := by
  unfold State.perBerthClear
  dsimp only
  rw [forEach_takeBackLane_coding]
  simp

theorem Quiet.inRange {s t : State} (h : Quiet s t) (hs : s.InRange) : t.InRange := by
  cases h with
  | relabel k c hc => exact hs.setCarrier k fun h => ⟨hc.laps h.1, hc.tries h.2⟩
  | notice h => exact hs.of_others h.changesOnly (by simp)
  | field h =>
    have hc := h.changesOnly
    obtain ⟨h1, h2⟩ := h.coding_counts
    refine hs.of_records hc (by simp) ?_ (by rw [h1, h2]; exact hs.coding)
    rw [show t.carriers = s.carriers from hc .carriers (by simp)]; exact hs.carriers
  | coding x hx =>
    have := hx.counter ⟨hs.coding.1, hs.coding.2.1⟩
    exact hs.of_records (s.changesOnly_setCoding x) (by simp) hs.carriers ⟨this.1, this.2, hx.unlisted hs.coding.2.2⟩
  | berth h => exact hs.of_others h.changesOnly (by simp)
  | clear b =>
    have hc := s.changesOnly_perBerthClear b
    refine hs.of_records hc (by simp) ?_ ?_
    · rw [show (s.perBerthClear b).carriers = s.carriers from hc .carriers (by simp)]; exact hs.carriers
    · rw [State.coding_perBerthClear]; exact hs.coding

theorem CarrierAct.inRange {s t : State} (h : CarrierAct s t) (hs : s.InRange) : t.InRange := by
  cases h with
  | dropTarget k =>
    unfold State.dropTarget
    split
    · exact hs
    · refine State.InRange.of_others (s := s.setCarrier k _) (ps := [.lanes]) (hs.setCarrier k ?_)
        (State.changesOnly_storeLane _ _ _) (by simp)
      exact id
  | choose k j _ _ _ =>
    refine State.InRange.of_others (s := s.setCarrier k _) (ps := [.lanes]) (hs.setCarrier k ?_)
      (State.changesOnly_storeLane _ _ _) (by simp)
    exact id
  | load k c _ _ _ hl ht => exact hs.setCarrier k fun _ => by omega

theorem State.InRange.map_carriers {s : State} (h : s.InRange) {f : Carrier → Carrier}
    (hf : ∀ c, (f c).laps = c.laps ∧ (f c).tries = c.tries) :
    (s.setCarriers { s.carriers with table := s.carriers.table.map f }).InRange := by
  refine h.of_records (s.changesOnly_setCarriers _) (by simp) (fun c hc => ?_) h.coding
  obtain ⟨d, hd, rfl⟩ := List.mem_map.1 hc
  rw [(hf d).1, (hf d).2]; exact h.carriers d hd

theorem State.InRange.setPoint {s : State} (h : s.InRange) (i : PointNo) {x : Point}
    (hx : ∀ w ∈ x.waiting, w.wait ≤ 255) : (s.setPoint i x).InRange := by
  refine ⟨h.loop, h.limits, h.router, h.carriers, fun q => ?_, h.scores, h.diverters, h.coding, h.links, h.reads⟩
  by_cases hq : q = i
  · subst hq; rw [State.point_setPoint]; exact hx
  · rw [State.point_setPoint_ne _ _ hq]; exact h.points q

theorem PointAct.inRange {s t : State} (h : PointAct s t) (hs : s.InRange) : t.InRange := by
  cases h with
  | endReservation i => exact hs.map_carriers fun _ => ⟨rfl, rfl⟩
  | clearWaiting i =>
    exact State.InRange.setPoint (s := s.endReservation i) (hs.map_carriers fun _ => ⟨rfl, rfl⟩) i (by simp)
  | present i w _ _ _ hw => exact hs.setPoint i (by simpa using hw)
  | wait i w n _ hn => exact hs.setPoint i (by simpa using hn)
  | unmark q =>
    refine hs.setPoint q ?_
    simpa [Point.unmark] using hs.points q
  | configure i x _ _ hwait _ =>
    refine hs.setPoint i fun w hw => ?_
    obtain ⟨w', hw', he⟩ := hwait w hw
    rw [he]; exact hs.points i w' hw'
  | lapse k => exact hs.setCarrier k id
  | reserve i k _ _ _ => exact hs.setCarrier k id
  | limits a b ha hb =>
    have h1 := ha ⟨hs.limits.1, hs.limits.2.1, hs.loop.1⟩
    have h2 := hb hs.limits.2.2
    exact ⟨hs.loop, ⟨h1.1, h1.2, h2.1, h2.2⟩, hs.router, hs.carriers, hs.points, hs.scores, hs.diverters, hs.coding, hs.links,
      hs.reads⟩

theorem LaneAct.inRange {s t : State} (h : LaneAct s t) (hs : s.InRange) : t.InRange := by
  cases h with
  | lane j x _ => exact hs.of_others (s.changesOnly_storeLane j x) (by simp)
  | diverter j v hv =>
    refine ⟨hs.loop, hs.limits, hs.router, hs.carriers, hs.points, hs.scores, fun i => ?_, hs.coding, hs.links, hs.reads⟩
    by_cases hi : i = j
    · subst hi; rw [State.diverter_setDiverter]; exact hv (hs.diverters i)
    · rw [State.diverter_setDiverter_ne _ _ hi]; exact hs.diverters i

theorem StationAct.inRange {s t : State} (h : StationAct s t) (hs : s.InRange) : t.InRange := by
  cases h with
  | station n x hr hf =>
    refine ⟨hs.loop, hs.limits, hs.router, hs.carriers, hs.points, fun m => ?_, hs.diverters, hs.coding, hs.links, fun m => ?_⟩
    all_goals by_cases hm : m = n
    · subst hm; rw [State.station_setStation]; exact hf (hs.scores m)
    · rw [State.station_setStation_ne _ _ hm]; exact hs.scores m
    · subst hm; rw [State.station_setStation]; exact hr (hs.reads m)
    · rw [State.station_setStation_ne _ _ hm]; exact hs.reads m

theorem State.InRange.setLink {s : State} (h : s.InRange) (l : LinkNo) {x : Link}
    (hx : x.errorCount ≤ 255 ∧ x.checkCount ≤ 16) : (s.setLink l x).InRange := by
  refine ⟨h.loop, h.limits, h.router, h.carriers, h.points, h.scores, h.diverters, h.coding, fun m => ?_, h.reads⟩
  by_cases hm : m = l
  · subst hm; rw [State.link_setLink]; exact hx
  · rw [State.link_setLink_ne _ _ hm]; exact h.links m

theorem LinkAct.inRange {s t : State} (h : LinkAct s t) (hs : s.InRange) : t.InRange := by
  cases h with
  | served l => exact ⟨hs.1, hs.2, hs.3, hs.4, hs.5, hs.6, hs.7, hs.8, hs.9, hs.10⟩
  | update l x hx => exact hs.setLink l ⟨hx.errorCount (hs.links l).1, hx.checkCount (hs.links l).2⟩
  | attach l p _ _ => exact hs.setLink l (hs.links l)
  | takeOver l m p _ _ =>
    have displaced : (s.displace m p l).InRange := hs.setLink m (hs.links m)
    exact displaced.setLink l (displaced.links l)
  | permit l q flag _ => exact hs.setLink l (hs.links l)

theorem State.InRange.enterMode {s : State} (h : s.InRange) (m : Mode) : (s.enterMode m).InRange := by
  have set {u : State} (hu : u.InRange) : (u.setMode m).InRange := hu.of_others (u.changesOnly_setMode m) (by simp)
  unfold State.enterMode
  split
  · exact set (h.map_carriers fun _ => ⟨rfl, rfl⟩)
  · exact set h

theorem State.InRange.vacate {s : State} (h : s.InRange) : s.vacate.InRange := by
  have hc := s.changesOnly_vacate
  refine h.of_records hc (by simp) ?_ (by rw [show s.vacate.coding = s.coding from hc .coding (by simp)]; exact h.coding)
  rw [State.carriers_vacate]
  intro c hm
  rw [(CarrierTable.allEmpty_facts _).2 c hm]
  simp [Carrier.empty]

theorem State.InRange.reshape {s : State} (h : s.InRange) {count commit : Nat} (hc : 64 ≤ count ∧ count ≤ 1024)
    (hk : 2 ≤ commit ∧ commit ≤ 15) : (s.reshape count commit).InRange := by
  obtain ⟨h1, h2, h3, _, _, h6, h7, h8⟩ := h.loop
  obtain ⟨l1, l2, l3, l4⟩ := h.limits
  unfold State.reshape State.resize
  dsimp only
  split
  next he =>
    exact ⟨⟨h1, h2, h3, hk.1, hk.2, h6, h7, h8⟩, ⟨by simp; omega, by simp; omega, l3, l4⟩, h.router, h.carriers, h.points,
      h.scores, h.diverters, h.coding, h.links, h.reads⟩
  next =>
    refine ⟨⟨hc.1, hc.2, Nat.zero_lt_of_lt hc.1, hk.1, hk.2, h6, h7, h8⟩, ⟨by simp; omega, by simp, l3, l4⟩, h.router,
      fun c hm => ?_, h.points, h.scores, h.diverters, h.coding, h.links, h.reads⟩
    rw [(CarrierTable.allEmpty_facts _).2 c hm]
    simp [Carrier.empty]

/-! ## The records at power-on -/

theorem State.reset_lane (j : LaneNo) : State.reset.lane j = Lane.reset := by simp [State.lane, State.reset]
theorem State.reset_diverter (j : LaneNo) : State.reset.diverter j = ⟨[], 0⟩ := by simp [State.diverter, State.reset]
theorem State.reset_point (i : PointNo) : State.reset.point i = Point.reset := by
  simp [State.point, State.reset, Induction.reset]
theorem State.reset_station (n : StationNo) : State.reset.station n = Station.reset := by
  simp [State.station, State.reset]
theorem State.reset_link (l : LinkNo) : State.reset.link l = Link.reset := by simp [State.link, State.reset]
theorem State.reset_berth (b : BerthId) : State.reset.berth b = Berth.clear := by cases b <;> rfl
theorem State.reset_principal (p : Principal) : State.reset.principal p = PrincipalRecord.reset := by
  rcases p with _ | _ | _ <;> rfl

theorem Station.head_reset (h : Nat) : Station.reset.head h = HeadRecord.clear := by
  by_cases h8 : h < 8 <;> simp [Station.head, Station.reset, h8]

theorem State.inRange_reset : State.reset.InRange := by
  refine ⟨by decide, by decide, by decide, fun c hc => ?_, fun i => ?_, fun n h => ?_, fun j => ?_, by decide, fun l => ?_,
    fun n => ?_⟩
  · rw [(CarrierTable.allEmpty_facts 512).2 c hc]; simp [Carrier.empty]
  · rw [State.reset_point]; simp [Point.reset]
  · rw [State.reset_station, Station.head_reset]; exact Nat.zero_le _
  · rw [State.reset_diverter]; exact Nat.zero_le _
  · rw [State.reset_link]; exact ⟨Nat.zero_le _, Nat.zero_le _⟩
  · rw [State.reset_station]
    refine ⟨by decide, by decide, by decide, by decide, by decide, ?_⟩
    exact List.ne_nil_of_mem (a := 0) (List.mem_filter.2 ⟨by simp [Station.reset], by rw [Station.head_reset]; rfl⟩)

/-- An invariant that sees the whole state but the model's queue. -/
theorem State.InRange.setPending {s : State} (h : s.InRange) (q : List Instr) : (s.setPending q).InRange :=
  ⟨h.1, h.2, h.3, h.4, h.5, h.6, h.7, h.8, h.9, h.10⟩

theorem Act.inRange {s t : State} (h : Act s t) (hs : s.InRange) : t.InRange := by
  cases h with
  | quiet h => exact h.inRange hs
  | carrier h => exact h.inRange hs
  | lane h => exact h.inRange hs
  | point h => exact h.inRange hs
  | station h => exact h.inRange hs
  | router r h =>
    have := h.lapLimit ⟨hs.router.1, hs.router.2.1⟩
    exact ⟨hs.1, hs.2, ⟨this.1, this.2, h.waitLimit hs.router.2.2⟩, hs.4, hs.5, hs.6, hs.7, hs.8, hs.9, hs.10⟩
  | loop l h =>
    obtain ⟨h1, h2, h3, h4, h5, h6, h7, h8⟩ := hs.loop
    refine ⟨⟨?_, ?_, ?_, ?_, ?_, h.revolutions h6, h.slips h7, h.homeMissed h8⟩, ?_, hs.3, hs.4, hs.5, hs.6, hs.7, hs.8, hs.9,
      hs.10⟩
    · exact h.count ▸ h1
    · exact h.count ▸ h2
    · exact h.count.symm ▸ h.position h3
    · exact h.commit ▸ h4
    · exact h.commit ▸ h5
    · exact ⟨hs.limits.1, h.count.symm ▸ hs.limits.2.1, hs.limits.2.2⟩
  | wires w => exact hs.of_others (s.changesOnly_setWires w) (by simp)
  | mode m h => exact hs.enterMode m
  | vacate => exact hs.vacate
  | reshape c k _ hc hk => exact hs.reshape hc hk
  | land k j _ h =>
    have landed := h.keeps (P := State.InRange) (fun _ _ hq => hq.inRange)
      (hs.of_others (s.changesOnly_storeLane j _) (by simp))
    exact landed.setCarrier k fun _ => by simp [Carrier.empty]

theorem Deed.inRange {s t : State} (h : Deed s t) (hs : s.InRange) : t.InRange := by
  cases h with
  | act h => exact h.inRange hs
  | link h => exact h.inRange hs
  | powerOn => exact State.inRange_reset.setPending _

/-- Settles O9: every action keeps the ranges. -/
theorem stepKeepsRanges : Obligations.StepKeepsRanges := by
  intro s t h1 h2 h3 hstep
  exact (State.inRange_iff t).1 (step_keeps (fun _ _ => Deed.inRange) (fun _ q h => h.setPending q)
    ((State.inRange_iff s).2 ⟨h1, h2, h3⟩) hstep)

end Sys2Proof.Machine

/-! SUPPORT. The capacities of queues, lists and tables (R59, R60, R86, R136, R163, R175, R184), and the exchange (R141). -/

namespace Sys2Proof.Machine

/-! ## Berth tables -/

/-- A berth whose two tables are within their capacities (R59, R60). -/
def Berth.Fits (r : Berth) : Prop := r.cabins.length ≤ 3072 ∧ r.tags.length ≤ 8192

@[simp] theorem Berth.length_modifyCabin (r : Berth) (n : Nat) (f : Cabin → Cabin) :
    (r.modifyCabin n f).cabins.length = r.cabins.length := by simp [Berth.modifyCabin]

@[simp] theorem Berth.tags_modifyCabin (r : Berth) (n : Nat) (f : Cabin → Cabin) : (r.modifyCabin n f).tags = r.tags := rfl

@[simp] theorem Berth.length_modifyEntry (r : Berth) (i : Nat) (f : Entry → Entry) :
    (r.modifyEntry i f).tags.length = r.tags.length := by simp [Berth.modifyEntry]

@[simp] theorem Berth.cabins_modifyEntry (r : Berth) (i : Nat) (f : Entry → Entry) :
    (r.modifyEntry i f).cabins = r.cabins := rfl

theorem length_takeWhile_cons_dropWhile {α : Type} (p : α → Bool) (l : List α) (a : α) :
    (l.takeWhile p ++ a :: l.dropWhile p).length = l.length + 1 := by
  have := congrArg List.length (List.takeWhile_append_dropWhile (p := p) (l := l))
  simp only [List.length_append, List.length_cons] at this ⊢
  omega

theorem Berth.fits_setEntryState {r : Berth} (h : r.Fits) (i : Nat) (st : EntryState) (t : Option Nat) :
    (r.setEntryState i st t).Fits := by
  unfold Berth.setEntryState
  split
  · exact h
  · exact ⟨by simpa using h.1, by simpa using h.2⟩

theorem State.berth_fits_setBerth {s : State} (h : ∀ b, (s.berth b).Fits) (b : BerthId) {r : Berth} (hr : r.Fits) (a : BerthId) :
    ((s.setBerth b r).berth a).Fits := by
  by_cases ha : a = b
  · subst ha; rw [State.berth_setBerth]; exact hr
  · rw [State.berth_setBerth_ne _ _ ha]; exact h a

theorem BerthAct.fits {s t : State} (h : BerthAct s t) (hs : ∀ b, (s.berth b).Fits) (a : BerthId) : (t.berth a).Fits := by
  cases h with
  | entryState b i st tk => exact State.berth_fits_setBerth hs b (Berth.fits_setEntryState (hs b) i st tk) a
  | dropTicket b i => exact State.berth_fits_setBerth hs b (by exact ⟨(hs b).1, by simpa using (hs b).2⟩) a
  | makeEntry b n c st tk cabin _ _ _ htags _ =>
    refine State.berth_fits_setBerth hs b ⟨by simpa [Berth.makeEntry] using (hs b).1, ?_⟩ a
    simp only [Berth.makeEntry, Berth.tags_modifyCabin, length_takeWhile_cons_dropWhile]
    exact htags
  | removeEntry b e _ =>
    exact State.berth_fits_setBerth hs b
      ⟨by simpa [Berth.removeEntry] using (hs b).1, (List.length_filter_le _ _).trans (hs b).2⟩ a
  | moveEntry b e c cabin _ _ _ _ =>
    exact State.berth_fits_setBerth hs b
      ⟨by simpa [Berth.moveEntry] using (hs b).1, by simpa [Berth.moveEntry] using (hs b).2⟩ a
  | insertCabin b c _ _ hlen _ =>
    refine State.berth_fits_setBerth hs b (r := (s.berth b).insertCabin c) ⟨?_, (hs b).2⟩ a
    simp only [Berth.insertCabin, length_takeWhile_cons_dropWhile]
    exact hlen
  | editCabin b n f c _ _ => exact State.berth_fits_setBerth hs b (by exact ⟨by simpa using (hs b).1, (hs b).2⟩) a
  | mapDeck b d g => exact State.berth_fits_setBerth hs b (by exact hs b) a
  | bind b ship _ _ _ => exact State.berth_fits_setBerth hs b (by exact hs b) a
  | close b ship _ => exact State.berth_fits_setBerth hs b (by exact hs b) a

/-! ## Capacities -/

theorem PrincipalRecord.length_posted {r : PrincipalRecord} (h : r.notices.length ≤ 32) (body : NoticeBody) (v p : Nat) :
    (r.posted body v p).notices.length ≤ 32 := by
  unfold PrincipalRecord.posted
  split
  · exact h
  · split
    next hlt => simpa [Config.noticePlaces] using hlt
    next => exact h

/-- The capacities, block by block. -/
structure State.Capacity (s : State) : Prop where
  orders : s.orders.length ≤ 32
  notices : ∀ p, (s.principal p).notices.length ≤ 32
  queues : ∀ l, (s.link l).queue.length ≤ 4
  pendingTags : s.router.pendingTags.length ≤ 32
  strays : s.coding.strays.length ≤ 64
  reinject : s.coding.reinject.length ≤ 16
  berths : ∀ b, (s.berth b).Fits

theorem State.capacity_iff (s : State) : s.Capacity ↔ s.withinCapacity :=
  ⟨fun ⟨h1, h2, h3, h4, h5, h6, h7⟩ => ⟨h1, h2, h3, h4, h5, h6, h7⟩,
    fun ⟨h1, h2, h3, h4, h5, h6, h7⟩ => ⟨h1, h2, h3, h4, h5, h6, h7⟩⟩

/-- The capacities see the orders, notices, links, router, lists and berths. -/
theorem State.Capacity.of_changesOnly {s t : State} (h : s.Capacity) {ps : List Part} (hc : s.changesOnly t ps)
    (hps : ∀ p ∈ ps, p ∉ [Part.orders, .principals, .links, .router, .coding, .berths]) : t.Capacity := by
  have hp : t.principals = s.principals := hc .principals fun hm => by simpa using hps _ hm
  have hl : t.links = s.links := hc .links fun hm => by simpa using hps _ hm
  have hr : t.router = s.router := hc .router fun hm => by simpa using hps _ hm
  have ho : t.orders = s.orders := hc .orders fun hm => by simpa using hps _ hm
  have hk : t.coding = s.coding := hc .coding fun hm => by simpa using hps _ hm
  have hb : t.berths = s.berths := hc .berths fun hm => by simpa using hps _ hm
  refine ⟨by rw [ho]; exact h.orders, fun p => ?_, fun l => ?_, by rw [hr]; exact h.pendingTags, by rw [hk]; exact h.strays,
    by rw [hk]; exact h.reinject, fun b => ?_⟩
  · rw [State.principal_eq_of_principals hp]; exact h.notices p
  · rw [State.link_eq_of_links hl]; exact h.queues l
  · rw [State.berth_eq_of_berths hb]; exact h.berths b

theorem State.Capacity.setPrincipal {s : State} (h : s.Capacity) (p : Principal) {x : PrincipalRecord}
    (hx : x.notices.length ≤ 32) : (s.setPrincipal p x).Capacity := by
  refine ⟨by simpa using h.orders, fun q => ?_, by simpa using h.queues, by simpa using h.pendingTags, by simpa using h.strays,
    by simpa using h.reinject, by simpa using h.berths⟩
  by_cases hq : q = p
  · subst hq; rw [State.principal_setPrincipal]; exact hx
  · rw [State.principal_setPrincipal_ne _ _ hq]; exact h.notices q

theorem State.Capacity.setLink {s : State} (h : s.Capacity) (l : LinkNo) {x : Link} (hx : x.queue.length ≤ 4) :
    (s.setLink l x).Capacity := by
  refine ⟨h.orders, fun q => ?_, fun m => ?_, h.pendingTags, h.strays, h.reinject, by simpa using h.berths⟩
  · simpa using h.notices q
  · by_cases hm : m = l
    · subst hm; rw [State.link_setLink]; exact hx
    · rw [State.link_setLink_ne _ _ hm]; exact h.queues m

theorem State.orders_handOver_le {s : State} (h : s.orders.length ≤ 32) (o : Order) : (s.handOver o).orders.length ≤ 32 := by
  unfold State.handOver
  split
  next hlt => simpa [Config.orderPlaces] using hlt
  next => exact h

theorem FieldAct.capacity {s t : State} (h : FieldAct s t) (hs : s.Capacity) : t.Capacity := by
  have hc := h.changesOnly
  have hk : t.coding.strays = s.coding.strays ∧ t.coding.reinject = s.coding.reinject ∧ t.orders.length ≤ 32 := by
    cases h with
    | order o _ =>
      have : (s.handOver o).coding = s.coding := s.changesOnly_handOver o .coding (by simp)
      exact ⟨by rw [this], by rw [this], State.orders_handOver_le hs.orders o⟩
    | answer q n rs _ _ =>
      unfold State.answer
      split
      next hlt => exact ⟨rfl, rfl, by simpa [Config.orderPlaces] using hlt⟩
      next => exact ⟨rfl, rfl, hs.orders⟩
    | sent =>
      have := hs.orders
      unfold State.sendOrder
      split
      · exact ⟨rfl, rfl, this⟩
      next ho =>
        rw [ho, List.length_cons] at this
        dsimp only
        split <;> exact ⟨rfl, rfl, Nat.le_of_succ_le this⟩
  have hp : t.principals = s.principals := hc .principals (by simp)
  have hl : t.links = s.links := hc .links (by simp)
  have hr : t.router = s.router := hc .router (by simp)
  have hb : t.berths = s.berths := hc .berths (by simp)
  refine ⟨hk.2.2, fun p => ?_, fun l => ?_, by rw [hr]; exact hs.pendingTags, by rw [hk.1]; exact hs.strays,
    by rw [hk.2.1]; exact hs.reinject, fun b => ?_⟩
  · rw [State.principal_eq_of_principals hp]; exact hs.notices p
  · rw [State.link_eq_of_links hl]; exact hs.queues l
  · rw [State.berth_eq_of_berths hb]; exact hs.berths b

theorem State.Capacity.setCoding {s : State} (h : s.Capacity) {x : Coding} (h1 : x.strays.length ≤ 64)
    (h2 : x.reinject.length ≤ 16) : (s.setCoding x).Capacity :=
  ⟨h.orders, fun p => by simpa [State.principal] using h.notices p, h.queues, h.pendingTags, h1, h2,
    fun b => by simpa [State.berth] using h.berths b⟩

theorem State.Capacity.berths_changed {s t : State} (h : s.Capacity) (hc : s.changesOnly t [.berths])
    (hb : ∀ b, (t.berth b).Fits) : t.Capacity := by
  have hp : t.principals = s.principals := hc .principals (by simp)
  have hl : t.links = s.links := hc .links (by simp)
  refine ⟨?_, fun p => ?_, fun l => ?_, ?_, ?_, ?_, hb⟩
  · rw [show t.orders = s.orders from hc .orders (by simp)]; exact h.orders
  · rw [State.principal_eq_of_principals hp]; exact h.notices p
  · rw [State.link_eq_of_links hl]; exact h.queues l
  · rw [show t.router = s.router from hc .router (by simp)]; exact h.pendingTags
  · rw [show t.coding = s.coding from hc .coding (by simp)]; exact h.strays
  · rw [show t.coding = s.coding from hc .coding (by simp)]; exact h.reinject

theorem State.Capacity.perBerthClear {s : State} (h : s.Capacity) (b : BerthId) : (s.perBerthClear b).Capacity := by
  have cleared : (s.setBerth b Berth.clear).Capacity :=
    h.berths_changed (s.changesOnly_setBerth b _)
      fun a => State.berth_fits_setBerth h.berths b ⟨Nat.zero_le _, Nat.zero_le _⟩ a
  have forgotten := cleared.setCoding (x := (s.setBerth b Berth.clear).coding.forget b)
    (by simpa [Coding.forget] using h.strays) (by simpa [Coding.forget] using h.reinject)
  exact forgotten.of_changesOnly
    (forEach_changesOnly (ps := [.lanes]) (fun s j => s.changesOnly_takeBackLane b j) allLanes _) (by simp)

theorem Quiet.capacity {s t : State} (h : Quiet s t) (hs : s.Capacity) : t.Capacity := by
  cases h with
  | relabel k c _ => exact hs.of_changesOnly (s.changesOnly_storeCarrier k c) (by simp)
  | notice h =>
    cases h with
    | post p body => exact hs.setPrincipal p (PrincipalRecord.length_posted (hs.notices p) _ _ _)
    | record p x hx => exact hs.setPrincipal p (hx.trans (hs.notices p))
  | field h => exact h.capacity hs
  | coding x hx => exact hs.setCoding (hx.strays hs.strays) (hx.reinject hs.reinject)
  | berth h => exact hs.berths_changed h.changesOnly (h.fits hs.berths)
  | clear b => exact hs.perBerthClear b

theorem LinkAct.capacity {s t : State} (h : LinkAct s t) (hs : s.Capacity) : t.Capacity := by
  cases h with
  | served l => exact hs.of_changesOnly (s.changesOnly_setLastServed l) (by simp)
  | update l x hx => exact hs.setLink l (hx.queue (hs.queues l))
  | attach l p _ _ => exact hs.setLink l (hs.queues l)
  | takeOver l m p _ _ =>
    have displaced : (s.displace m p l).Capacity := hs.setLink m (Nat.zero_le _)
    exact displaced.setLink l (displaced.queues l)
  | permit l q flag _ => exact hs.setLink l (hs.queues l)

theorem State.capacity_reset : State.reset.Capacity := by
  refine ⟨by decide, fun p => ?_, fun l => ?_, by decide, by decide, by decide, fun b => ?_⟩
  · rw [State.reset_principal]; exact Nat.zero_le _
  · rw [State.reset_link]; exact Nat.zero_le _
  · rw [State.reset_berth]; exact ⟨Nat.zero_le _, Nat.zero_le _⟩

theorem State.changesOnly_setPending (s : State) (q : List Instr) : s.changesOnly (s.setPending q) [.pending] := by
  intro p hp; cases p <;> simp [Part.same] at hp ⊢

theorem Act.capacity {s t : State} (h : Act s t) (hs : s.Capacity) : t.Capacity := by
  cases h with
  | quiet h => exact h.capacity hs
  | carrier h => exact hs.of_changesOnly h.changesOnly (by simp)
  | lane h => exact hs.of_changesOnly h.changesOnly (by simp)
  | point h => exact hs.of_changesOnly h.changesOnly (by simp)
  | station h => exact hs.of_changesOnly h.changesOnly (by simp)
  | router r h => exact ⟨hs.1, hs.2, hs.3, h.pendingTags hs.pendingTags, hs.5, hs.6, hs.7⟩
  | loop l h => exact hs.of_changesOnly (s.changesOnly_setLoop l) (by simp)
  | wires w => exact hs.of_changesOnly (s.changesOnly_setWires w) (by simp)
  | mode m h => exact hs.of_changesOnly (s.changesOnly_enterMode m) (by simp)
  | vacate => exact hs.of_changesOnly s.changesOnly_vacate (by simp)
  | reshape c k _ hc hk => exact hs.of_changesOnly (s.changesOnly_reshape c k) (by simp)
  | land k j _ h =>
    have landed := h.keeps (P := State.Capacity) (fun _ _ hq => hq.capacity)
      (hs.of_changesOnly (s.changesOnly_storeLane j _) (by simp))
    exact landed.of_changesOnly (State.changesOnly_storeCarrier _ k _) (by simp)

theorem Deed.capacity {s t : State} (h : Deed s t) (hs : s.Capacity) : t.Capacity := by
  cases h with
  | act h => exact h.capacity hs
  | link h => exact h.capacity hs
  | powerOn => exact State.capacity_reset.of_changesOnly (State.changesOnly_setPending _ _) (by simp)

/-! ## The exchange (R141, log 22) -/

theorem State.exchangeAgrees_of_changesOnly {s t : State} (h : s.exchangeAgrees) {ps : List Part} (hc : s.changesOnly t ps)
    (hps : Part.orders ∉ ps ∧ Part.coding ∉ ps) : t.exchangeAgrees := by
  rw [State.exchangeAgrees, show t.orders = s.orders from hc .orders hps.1, show t.coding = s.coding from hc .coding hps.2]
  exact h

theorem FieldAct.exchangeAgrees {s t : State} (h : FieldAct s t) (hs : s.exchangeAgrees) : t.exchangeAgrees := by
  unfold State.exchangeAgrees at hs ⊢
  cases h with
  | order o ho =>
    unfold State.handOver
    split
    · simp only [State.setOrders_orders, State.setOrders_coding, List.countP_append, List.countP_singleton, ho]
      exact hs
    · exact hs
  | answer q n rs hx hr =>
    unfold State.answer
    split
    · rw [hx] at hs
      simp only [Option.isSome_none, Bool.false_eq_true, if_false] at hs
      simp [List.countP_append, hr, hs]
    · exact hs
  | sent =>
    unfold State.sendOrder
    split
    next ho => exact hs
    next o rest ho =>
      rw [ho, List.countP_cons] at hs
      dsimp only
      split
      next hend =>
        rw [if_pos hend] at hs
        simp only [State.setCoding_orders, State.setWires_orders, State.setOrders_orders, State.setCoding_coding]
        simp only [Option.isSome_none, Bool.false_eq_true, if_false]
        split at hs <;> omega
      next hend =>
        rw [if_neg hend] at hs
        exact hs

theorem Quiet.exchangeAgrees {s t : State} (h : Quiet s t) (hs : s.exchangeAgrees) : t.exchangeAgrees := by
  cases h with
  | relabel k c _ => exact State.exchangeAgrees_of_changesOnly hs (s.changesOnly_storeCarrier k c) (by simp)
  | notice h => exact State.exchangeAgrees_of_changesOnly hs h.changesOnly (by simp)
  | field h => exact h.exchangeAgrees hs
  | coding x hx => simpa [State.exchangeAgrees, hx.exchange] using hs
  | berth h => exact State.exchangeAgrees_of_changesOnly hs h.changesOnly (by simp)
  | clear b =>
    have ho : (s.perBerthClear b).orders = s.orders := s.changesOnly_perBerthClear b .orders (by simp)
    rw [State.exchangeAgrees, ho, State.coding_perBerthClear]
    exact hs

theorem State.exchangeAgrees_reset : State.reset.exchangeAgrees := by
  unfold State.exchangeAgrees; decide

theorem Act.exchangeAgrees {s t : State} (h : Act s t) (hs : s.exchangeAgrees) : t.exchangeAgrees := by
  have same {t : State} {ps : List Part} (hc : s.changesOnly t ps) (hps : Part.orders ∉ ps ∧ Part.coding ∉ ps) :
      t.exchangeAgrees := State.exchangeAgrees_of_changesOnly hs hc hps
  cases h with
  | quiet h => exact h.exchangeAgrees hs
  | carrier h => exact same h.changesOnly (by simp)
  | lane h => exact same h.changesOnly (by simp)
  | point h => exact same h.changesOnly (by simp)
  | station h => exact same h.changesOnly (by simp)
  | router r h => exact hs
  | loop l h => exact hs
  | wires w => exact hs
  | mode m h => exact same (s.changesOnly_enterMode m) (by simp)
  | vacate => exact same s.changesOnly_vacate (by simp)
  | reshape c k _ _ _ => exact same (s.changesOnly_reshape c k) (by simp)
  | land k j _ h => exact h.keeps (P := State.exchangeAgrees) (fun _ _ hq => hq.exchangeAgrees) hs

theorem Deed.exchangeAgrees {s t : State} (h : Deed s t) (hs : s.exchangeAgrees) : t.exchangeAgrees := by
  have same {t : State} {ps : List Part} (hc : s.changesOnly t ps) (hps : Part.orders ∉ ps ∧ Part.coding ∉ ps) :
      t.exchangeAgrees := State.exchangeAgrees_of_changesOnly hs hc hps
  cases h with
  | act h => exact h.exchangeAgrees hs
  | link h => exact same h.changesOnly (by simp)
  | powerOn => exact State.exchangeAgrees_reset

/-- Settles O10: every action keeps the capacities, and the exchange in step with the orders. -/
theorem stepKeepsCapacities : Obligations.StepKeepsCapacities :=
  ⟨fun s t hs h => (State.capacity_iff t).1 (step_keeps (fun _ _ => Deed.capacity)
      (fun _ _ h => h.of_changesOnly (State.changesOnly_setPending _ _) (by simp)) ((State.capacity_iff s).2 hs) h),
    fun _ _ hs h => step_keeps (fun _ _ => Deed.exchangeAgrees) (fun _ _ h => h) hs h⟩

end Sys2Proof.Machine

/-! SUPPORT. Ship codes, lane owners, functions and groups (R53, R103, R108), and attachments (R163 to R174). -/

namespace Sys2Proof.Machine

/-! ## Owners -/

/-- A lane's function and group fit its owner, and its owner is open (R103, R108). -/
structure Lane.OwnedBy (x : Lane) (isOpen : BerthId → Prop) : Prop where
  owner : ∀ b, x.owner = .berth b → isOpen b
  function : x.owner.mayChoose x.function = true
  group : x.group ≠ none → x.owner ≠ .hall ∧ x.function = .makeup

/-- R53, R103 and R108, berth by berth and lane by lane. -/
structure State.Owned (s : State) : Prop where
  apart : ∀ a b c, (s.berth a).state.ship = some c → (s.berth b).state.ship = some c → a = b
  ships : ∀ b c, (s.berth b).state.ship = some c → 1 ≤ c ∧ c ≤ 63
  lanes : ∀ j, (s.lane j).OwnedBy fun b => (s.berth b).state.isOpen = true

theorem State.owned_iff (s : State) : s.Owned ↔ s.ownersAgree := by
  constructor
  · rintro ⟨h1, h2, h3⟩
    refine ⟨fun c hc hc' => ?_, h2, fun j => ⟨(h3 j).owner, (h3 j).function, (h3 j).group⟩⟩
    exact absurd (h1 .one .two c hc hc') (by simp)
  · rintro ⟨h1, h2, h3⟩
    refine ⟨fun a b c ha hb => ?_, h2, fun j => ⟨(h3 j).1, (h3 j).2.1, (h3 j).2.2⟩⟩
    cases a <;> cases b
    · rfl
    · exact absurd hb (h1 c ha)
    · exact absurd ha (h1 c hb)
    · rfl

/-- The owners see of a state its berths' states and its lanes' owners, functions and groups. -/
theorem State.Owned.of_same {s t : State} (h : s.Owned) (hb : ∀ b, (t.berth b).state = (s.berth b).state)
    (hl : ∀ j, (t.lane j).owner = (s.lane j).owner ∧ (t.lane j).function = (s.lane j).function
      ∧ (t.lane j).group = (s.lane j).group) : t.Owned := by
  refine ⟨fun a b c => by rw [hb, hb]; exact h.apart a b c, fun b c => by rw [hb]; exact h.ships b c, fun j => ?_⟩
  obtain ⟨h1, h2, h3⟩ := hl j
  have := h.lanes j
  exact ⟨fun b => by rw [h1, hb]; exact this.owner b, by rw [h1, h2]; exact this.function,
    by rw [h1, h2, h3]; exact this.group⟩

theorem State.Owned.of_changesOnly {s t : State} (h : s.Owned) {ps : List Part} (hc : s.changesOnly t ps)
    (hps : Part.berths ∉ ps ∧ Part.lanes ∉ ps) : t.Owned := by
  refine h.of_same (fun b => ?_) fun j => ?_
  · rw [State.berth_eq_of_berths (hc .berths hps.1)]
  · rw [State.lane_eq_of_lanes (hc .lanes hps.2)]; exact ⟨rfl, rfl, rfl⟩

theorem State.Owned.setLane {s : State} (h : s.Owned) (j : LaneNo) {x : Lane}
    (hx : x.OwnedBy fun b => (s.berth b).state.isOpen = true) : (s.setLane j x).Owned := by
  refine ⟨h.apart, h.ships, fun i => ?_⟩
  by_cases hi : i = j
  · subst hi; rw [State.lane_setLane]; exact hx
  · rw [State.lane_setLane_ne _ _ hi]; exact h.lanes i

/-- A berth stored with the ship code it had, or with a new one that no berth had. -/
theorem State.Owned.setBerth {s : State} (h : s.Owned) (b : BerthId) {r : Berth}
    (hopen : (s.berth b).state.isOpen = true → r.state.isOpen = true)
    (hship : ∀ c, r.state.ship = some c →
      (s.berth b).state.ship = some c ∨ (1 ≤ c ∧ c ≤ 63 ∧ ∀ a, (s.berth a).state.ship ≠ some c)) :
    (s.setBerth b r).Owned := by
  have same {a : BerthId} (ha : a ≠ b) : (s.setBerth b r).berth a = s.berth a := State.berth_setBerth_ne _ _ ha
  have one (a : BerthId) (c : Nat) (hab : a ≠ b) (ha : (s.berth a).state.ship = some c) (hb : r.state.ship = some c) :
      False := by
    rcases hship c hb with hold | ⟨_, _, hnew⟩
    · exact hab (h.apart a b c ha hold)
    · exact hnew a ha
  refine ⟨fun a a' c ha ha' => ?_, fun a c ha => ?_, fun j => ⟨fun a ho => ?_, ?_, ?_⟩⟩
  · by_cases hab : a = b <;> by_cases hab' : a' = b
    · rw [hab, hab']
    · subst hab; rw [State.berth_setBerth] at ha; rw [same hab'] at ha'; exact (one _ c hab' ha' ha).elim
    · subst hab'; rw [State.berth_setBerth] at ha'; rw [same hab] at ha; exact (one _ c hab ha ha').elim
    · rw [same hab] at ha; rw [same hab'] at ha'; exact h.apart a a' c ha ha'
  · by_cases hab : a = b
    · subst hab
      rw [State.berth_setBerth] at ha
      rcases hship c ha with hold | ⟨h1, h2, _⟩
      · exact h.ships a c hold
      · exact ⟨h1, h2⟩
    · rw [same hab] at ha; exact h.ships a c ha
  · have hold := (h.lanes j).owner a (by simpa using ho)
    by_cases hab : a = b
    · subst hab; rw [State.berth_setBerth]; exact hopen hold
    · rw [same hab]; exact hold
  · simpa using (h.lanes j).function
  · simpa using (h.lanes j).group

theorem Berth.state_setEntryState (r : Berth) (i : Nat) (st : EntryState) (t : Option Nat) :
    (r.setEntryState i st t).state = r.state := by
  unfold Berth.setEntryState
  split <;> rfl

theorem State.ship_ne_of_berthOfShip {s : State} {ship : Nat} (h : s.berthOfShip ship = none) (a : BerthId) :
    (s.berth a).state.ship ≠ some ship := by
  have := List.find?_eq_none.1 h a (by cases a <;> simp [allBerths])
  simpa using this

theorem State.Owned.setBerth_same {s : State} (h : s.Owned) (b : BerthId) {r : Berth} (hr : r.state = (s.berth b).state) :
    (s.setBerth b r).Owned :=
  h.setBerth b (by rw [hr]; exact id) fun c hc => .inl (by rw [← hr]; exact hc)

theorem BerthAct.owned {s t : State} (h : BerthAct s t) (hs : s.Owned) : t.Owned := by
  cases h with
  | entryState b i st tk => exact hs.setBerth_same b ((s.berth b).state_setEntryState i st tk)
  | dropTicket b i => exact hs.setBerth_same b rfl
  | makeEntry b n c st tk cabin _ _ _ _ _ => exact hs.setBerth_same b rfl
  | removeEntry b e _ => exact hs.setBerth_same b rfl
  | moveEntry b e c cabin _ _ _ _ => exact hs.setBerth_same b rfl
  | insertCabin b c _ _ _ _ => exact hs.setBerth_same b rfl
  | editCabin b n f c _ _ => exact hs.setBerth_same b rfl
  | mapDeck b d g => exact hs.setBerth_same b rfl
  | bind b ship hfree hship hnew =>
    refine hs.setBerth b (r := { s.berth b with state := .bound ship }) (fun _ => rfl) fun c hc => ?_
    obtain rfl : ship = c := by simpa [BerthState.ship] using hc
    rw [isShip, Bool.and_eq_true, decide_eq_true_eq, decide_eq_true_eq] at hship
    obtain ⟨h1, h63⟩ := hship
    exact .inr ⟨h1, h63, State.ship_ne_of_berthOfShip hnew⟩
  | close b ship hbound =>
    refine hs.setBerth b (r := { s.berth b with state := .closing ship }) (fun _ => rfl) fun c hc => .inl ?_
    rw [hbound]; exact hc

theorem State.berth_perBerthClear (s : State) (b a : BerthId) :
    (s.perBerthClear b).berth a = if a = b then Berth.clear else s.berth a := by
  have keep (u : State) : (forEach allLanes (fun s j => s.takeBackLane b j) u).berths = u.berths :=
    forEach_changesOnly (ps := [.lanes]) (fun s j => s.changesOnly_takeBackLane b j) allLanes u .berths (by simp)
  unfold State.perBerthClear
  dsimp only
  rw [State.berth_eq_of_berths (keep _)]
  split
  next h => subst h; exact State.berth_setBerth _ _ _
  next h => exact State.berth_setBerth_ne _ _ h

theorem State.Owned.perBerthClear {s : State} (h : s.Owned) (b : BerthId) : (s.perBerthClear b).Owned := by
  refine ⟨fun a a' c => ?_, fun a c => ?_, fun j => ?_⟩
  · rw [State.berth_perBerthClear, State.berth_perBerthClear]
    split <;> split <;> simp_all [Berth.clear, BerthState.ship]
    exact h.apart a a' c
  · rw [State.berth_perBerthClear]
    split
    · simp [Berth.clear, BerthState.ship]
    · exact h.ships a c
  · rw [State.lane_perBerthClear]
    split
    next ho => exact ⟨by simp [Lane.returned], by simp [Lane.returned, Principal.mayChoose], by simp [Lane.returned]⟩
    next ho =>
      have hj := h.lanes j
      refine ⟨fun a ha => ?_, hj.function, hj.group⟩
      have hab : a ≠ b := by rintro rfl; simp [ha] at ho
      rw [State.berth_perBerthClear, if_neg hab]
      exact hj.owner a ha

theorem Quiet.owned {s t : State} (h : Quiet s t) (hs : s.Owned) : t.Owned := by
  cases h with
  | relabel k c _ => exact hs.of_changesOnly (s.changesOnly_storeCarrier k c) (by simp)
  | notice h => exact hs.of_changesOnly h.changesOnly (by simp)
  | field h => exact hs.of_changesOnly h.changesOnly (by simp)
  | coding x _ => exact hs.of_changesOnly (s.changesOnly_setCoding x) (by simp)
  | berth h => exact h.owned hs
  | clear b => exact hs.perBerthClear b

theorem State.Owned.setLane_same {s : State} (h : s.Owned) (j : LaneNo) {x : Lane} (ho : x.owner = (s.lane j).owner)
    (hf : x.function = (s.lane j).function) (hg : x.group = (s.lane j).group) : (s.setLane j x).Owned := by
  have := h.lanes j
  exact h.setLane j ⟨by rw [ho]; exact this.owner, by rw [ho, hf]; exact this.function, by rw [ho, hf, hg]; exact this.group⟩

theorem CarrierAct.owned {s t : State} (h : CarrierAct s t) (hs : s.Owned) : t.Owned := by
  have stored (k : Nat) (c : Carrier) : (s.setCarrier k c).Owned :=
    hs.of_changesOnly (s.changesOnly_storeCarrier k c) (by simp)
  cases h with
  | dropTarget k =>
    unfold State.dropTarget
    split
    · exact hs
    · exact State.Owned.setLane_same (stored k _) _ rfl rfl rfl
  | choose k j _ _ _ => exact State.Owned.setLane_same (stored k _) _ rfl rfl rfl
  | load k c _ _ _ _ _ => exact stored k c

theorem LaneAct.owned {s t : State} (h : LaneAct s t) (hs : s.Owned) : t.Owned := by
  cases h with
  | lane j x hx =>
    have hj := hs.lanes j
    exact hs.setLane j ⟨fun b hb => (hx.owner b hb).elim (hj.owner b) id, hx.function hj.function, hx.group hj.group⟩
  | diverter j v _ => exact hs.of_changesOnly (s.changesOnly_setDiverter j v) (by simp)

theorem State.owned_reset : State.reset.Owned :=
  ⟨fun a b c h => by cases a <;> simp [State.reset, State.berth, Berth.clear, BerthState.ship] at h,
    fun b c h => by cases b <;> simp [State.reset, State.berth, Berth.clear, BerthState.ship] at h,
    fun j => by
      rw [State.reset_lane]
      exact ⟨by simp [Lane.reset], by simp [Lane.reset, Principal.mayChoose], by simp [Lane.reset]⟩⟩

theorem Act.owned {s t : State} (h : Act s t) (hs : s.Owned) : t.Owned := by
  cases h with
  | quiet h => exact h.owned hs
  | carrier h => exact h.owned hs
  | lane h => exact h.owned hs
  | point h => exact hs.of_changesOnly h.changesOnly (by simp)
  | station h => exact hs.of_changesOnly h.changesOnly (by simp)
  | router r _ => exact hs.of_changesOnly (s.changesOnly_setRouter r) (by simp)
  | loop l _ => exact hs.of_changesOnly (s.changesOnly_setLoop l) (by simp)
  | wires w => exact hs.of_changesOnly (s.changesOnly_setWires w) (by simp)
  | mode m _ => exact hs.of_changesOnly (s.changesOnly_enterMode m) (by simp)
  | vacate =>
    refine hs.of_same (fun b => ?_) fun j => ?_
    · rw [State.berth_eq_of_berths (s.changesOnly_vacate .berths (by simp))]
    · rw [State.lane_vacate]; exact ⟨rfl, rfl, rfl⟩
  | reshape c k _ _ _ => exact hs.of_changesOnly (s.changesOnly_reshape c k) (by simp)
  | land k j _ h =>
    have landed : (s.setLane j ((s.lane j).landed (s.carrier k).units)).Owned := hs.setLane_same j rfl rfl rfl
    exact (h.keeps (P := State.Owned) (fun _ _ hq => hq.owned) landed).of_changesOnly
      (State.changesOnly_storeCarrier _ k _) (by simp)

theorem Deed.owned {s t : State} (h : Deed s t) (hs : s.Owned) : t.Owned := by
  cases h with
  | act h => exact h.owned hs
  | link h => exact hs.of_changesOnly h.changesOnly (by simp)
  | powerOn => exact State.owned_reset.of_changesOnly (State.changesOnly_setPending _ _) (by simp)

/-! ## Attachments -/

theorem State.linksAgree_of_links {s t : State} (h : s.linksAgree) (ht : t.links = s.links) : t.linksAgree := by
  obtain ⟨h1, h2, h3, h4⟩ := h
  have hl := fun l => State.link_eq_of_links ht l
  exact ⟨by simpa only [hl] using h1, by simpa only [hl] using h2, by simpa only [hl] using h3, by simpa only [hl] using h4⟩

/-- A link record stored: it may only carry a principal that no other link carries, and HALL stays allowed somewhere. -/
theorem State.linksAgree_setLink {s : State} (h : s.linksAgree) (l : LinkNo) {x : Link}
    (hstate : ∀ p, x.state = .attached p → ∀ m, m ≠ l → (s.link m).state ≠ .attached p)
    (hcheck : x.state ≠ .muted → x.checkCount = 0) (hqueue : x.state = .muted → x.queue = [])
    (hhall : x.allowed.hall = true ∨ ∃ m, m ≠ l ∧ (s.link m).allowed.hall = true ∨ x.allowed = (s.link l).allowed) :
    (s.setLink l x).linksAgree := by
  obtain ⟨h1, h2, h3, h4⟩ := h
  have same {m : LinkNo} (hm : m ≠ l) : (s.setLink l x).link m = s.link m := State.link_setLink_ne _ _ hm
  refine ⟨fun p m n hm hn => ?_, fun m hm => ?_, fun m hm => ?_, ?_⟩
  · by_cases hml : m = l <;> by_cases hnl : n = l
    · rw [hml, hnl]
    · subst hml; rw [State.link_setLink] at hm; rw [same hnl] at hn; exact absurd hn (hstate p hm n hnl)
    · subst hnl; rw [State.link_setLink] at hn; rw [same hml] at hm; exact absurd hm (hstate p hn m hml)
    · rw [same hml] at hm; rw [same hnl] at hn; exact h1 p m n hm hn
  · by_cases hml : m = l
    · subst hml; rw [State.link_setLink] at hm ⊢; exact hcheck hm
    · rw [same hml] at hm ⊢; exact h2 m hm
  · by_cases hml : m = l
    · subst hml; rw [State.link_setLink] at hm ⊢; exact hqueue hm
    · rw [same hml] at hm ⊢; exact h3 m hm
  · obtain ⟨m, hm⟩ := h4
    rcases hhall with hx | ⟨n, ⟨hn, hx⟩ | hx⟩
    · exact ⟨l, by rw [State.link_setLink]; exact hx⟩
    · exact ⟨n, by rw [same hn]; exact hx⟩
    · by_cases hml : m = l
      · subst hml; exact ⟨m, by rw [State.link_setLink, hx]; exact hm⟩
      · exact ⟨m, by rw [same hml]; exact hm⟩

theorem State.exists_hall_of_hallOnlyOn {s : State} {l : LinkNo} (h : s.hallOnlyOn l = false) :
    ∃ m, m ≠ l ∧ (s.link m).allowed.hall = true := by
  obtain ⟨m, -, hm⟩ := List.all_eq_false.1 h
  exact ⟨m, by simpa using hm⟩

theorem LinkAct.linksAgree {s t : State} (h : LinkAct s t) (hs : s.linksAgree) : t.linksAgree := by
  have agree := hs
  obtain ⟨h1, h2, h3, h4⟩ := hs
  cases h with
  | served l => exact State.linksAgree_of_links agree rfl
  | update l x hx =>
    refine State.linksAgree_setLink agree l (fun p hp m hm hmp => ?_) (hx.unchecked (h2 l)) (hx.muted (h3 l))
      (.inr ⟨l, .inr hx.allowed⟩)
    rcases hx.state with h | h | h
    · exact hm (h1 p m l hmp (h ▸ hp))
    · simp [h] at hp
    · simp [h] at hp
  | attach l p hl hp =>
    refine State.linksAgree_setLink agree l (fun q hq m hm => ?_) (fun _ => h2 l (by simp [hl])) (by simp) (.inr ⟨l, .inr rfl⟩)
    cases hq; exact hp m
  | takeOver l m p hl hm =>
    have hlm : l ≠ m := by rintro rfl; simp [hl] at hm
    have freed : (s.displace m p l).linksAgree :=
      State.linksAgree_setLink agree m (by simp) (fun _ => h2 m (by simp [hm])) (by simp) (.inr ⟨m, .inr rfl⟩)
    have hdl : (s.displace m p l).link l = s.link l := State.link_setLink_ne _ _ hlm
    refine State.linksAgree_setLink freed l (fun q hq n hn hnq => ?_) (fun _ => ?_) (by simp) (.inr ⟨l, .inr rfl⟩)
    · cases hq
      by_cases hnm : n = m
      · subst hnm; simp [State.displace] at hnq
      · rw [State.displace, State.link_setLink_ne _ _ hnm] at hnq
        exact hnm (h1 p n m hnq hm)
    · rw [hdl]; exact h2 l (by simp [hl])
  | permit l q flag hflag =>
    refine State.linksAgree_setLink agree l (fun p hp m hm hmp => hm (h1 p m l hmp hp)) (h2 l) (h3 l) ?_
    rcases q with _ | _ | _
    · cases flag
      · obtain ⟨m, hm, hall⟩ := State.exists_hall_of_hallOnlyOn (hflag rfl rfl)
        exact .inr ⟨m, .inl ⟨hm, hall⟩⟩
      · exact .inl rfl
    · by_cases hall : (s.link l).allowed.hall = true
      · exact .inl hall
      · obtain ⟨m, hm⟩ := h4
        exact .inr ⟨m, .inl ⟨by rintro rfl; exact hall hm, hm⟩⟩
    · by_cases hall : (s.link l).allowed.hall = true
      · exact .inl hall
      · obtain ⟨m, hm⟩ := h4
        exact .inr ⟨m, .inl ⟨by rintro rfl; exact hall hm, hm⟩⟩

theorem State.linksAgree_reset : State.reset.linksAgree :=
  ⟨fun p l m h => by simp [State.reset_link, Link.reset] at h, fun l _ => by simp [State.reset_link, Link.reset],
    fun l _ => by simp [State.reset_link, Link.reset], 0, by simp [State.reset_link, Link.reset]⟩

theorem Act.linksAgree {s t : State} (h : Act s t) (hs : s.linksAgree) : t.linksAgree := by
  have same {t : State} {ps : List Part} (hc : s.changesOnly t ps) (hps : Part.links ∉ ps) : t.linksAgree :=
    State.linksAgree_of_links hs (hc .links hps)
  cases h with
  | quiet h => exact same h.changesOnly (by simp)
  | carrier h => exact same h.changesOnly (by simp)
  | lane h => exact same h.changesOnly (by simp)
  | point h => exact same h.changesOnly (by simp)
  | station h => exact same h.changesOnly (by simp)
  | router r _ => exact same (s.changesOnly_setRouter r) (by simp)
  | loop l _ => exact same (s.changesOnly_setLoop l) (by simp)
  | wires w => exact same (s.changesOnly_setWires w) (by simp)
  | mode m _ => exact same (s.changesOnly_enterMode m) (by simp)
  | vacate => exact same s.changesOnly_vacate (by simp)
  | reshape c k _ _ _ => exact same (s.changesOnly_reshape c k) (by simp)
  | land k j _ h =>
    refine State.linksAgree_of_links hs ?_
    exact ((State.changesOnly_storeCarrier _ k _) .links (by simp)).trans
      ((h.changesOnly .links (by simp)).trans (s.changesOnly_storeLane j _ .links (by simp)))

theorem Deed.linksAgree {s t : State} (h : Deed s t) (hs : s.linksAgree) : t.linksAgree := by
  cases h with
  | act h => exact h.linksAgree hs
  | link h => exact h.linksAgree hs
  | powerOn => exact State.linksAgree_of_links State.linksAgree_reset rfl

/-- Settles O11: every action keeps owners, and attachments, in agreement. -/
theorem stepKeepsOwnersAndLinks : Obligations.StepKeepsOwnersAndLinks :=
  ⟨fun s t hs h => (State.owned_iff t).1 (step_keeps (fun _ _ => Deed.owned)
      (fun _ _ h => h.of_changesOnly (State.changesOnly_setPending _ _) (by simp)) ((State.owned_iff s).2 hs) h),
    fun _ _ hs h => step_keeps (fun _ _ => Deed.linksAgree) (fun _ _ h => State.linksAgree_of_links h rfl) hs h⟩

end Sys2Proof.Machine

/-! SUPPORT. Marks, waiting bags and reservations (R21, R22, R30). -/

namespace Sys2Proof.Machine

/-- How many carriers are reserved for a point (R30). -/
def State.reserved (s : State) (i : PointNo) : Nat :=
  s.carriers.table.countP fun c => c.reservation == some i

/-- R21, R22 and R30, with the reservations counted. -/
structure State.Pointed (s : State) : Prop where
  marks : ∀ i q, (s.point i).mark = true → (s.point q).mark = true → i = q
  waits : ∀ i, ∀ w ∈ (s.point i).waiting, (s.point i).takesPart = true ∧ (w.ticket ≠ none → (s.point i).mark = true)
  run : ∀ i, 0 < s.reserved i → s.mode = .run
  one : ∀ i, s.reserved i ≤ if (s.point i).waiting.isSome then 1 else 0

theorem State.reserved_pos_iff (s : State) (i : PointNo) :
    0 < s.reserved i ↔ ∃ c ∈ s.carriers.table, c.reservation = some i := by
  simp [State.reserved, List.countP_pos_iff]

theorem State.pointed_iff (s : State) : s.Pointed ↔ s.pointsAgree := by
  constructor
  · rintro ⟨h1, h2, h3, h4⟩
    refine ⟨h1, h2, fun c hc hr => ?_, h4⟩
    obtain ⟨i, hi⟩ := Option.ne_none_iff_exists'.1 hr
    exact h3 i ((s.reserved_pos_iff i).2 ⟨c, hc, hi⟩)
  · rintro ⟨h1, h2, h3, h4⟩
    refine ⟨h1, h2, fun i hi => ?_, h4⟩
    obtain ⟨c, hc, hr⟩ := (s.reserved_pos_iff i).1 hi
    exact h3 c hc (by simp [hr])

/-- A state with the same points, no more reservations, and the same mode or no reservation at all. -/
theorem State.Pointed.of_fewer {s t : State} (h : s.Pointed) (hp : ∀ i, t.point i = s.point i)
    (hr : ∀ i, t.reserved i ≤ s.reserved i) (hm : t.mode = s.mode ∨ ∀ i, t.reserved i = 0) : t.Pointed := by
  refine ⟨by simpa only [hp] using h.marks, by simpa only [hp] using h.waits, fun i hi => ?_, fun i => ?_⟩
  · rcases hm with hm | hm
    · rw [hm]; exact h.run i (lt_of_lt_of_le hi (hr i))
    · rw [hm i] at hi; exact absurd hi (lt_irrefl 0)
  · rw [hp]; exact (hr i).trans (h.one i)

theorem State.reserved_eq_of_carriers {s t : State} (h : t.carriers = s.carriers) (i : PointNo) :
    t.reserved i = s.reserved i := by
  rw [State.reserved, State.reserved, h]

theorem State.Pointed.of_changesOnly {s t : State} (h : s.Pointed) {ps : List Part} (hc : s.changesOnly t ps)
    (hps : Part.induction ∉ ps ∧ Part.carriers ∉ ps ∧ Part.mode ∉ ps) : t.Pointed :=
  h.of_fewer (State.point_eq_of_induction (hc .induction hps.1))
    (fun i => le_of_eq (State.reserved_eq_of_carriers (hc .carriers hps.2.1) i)) (.inl (hc .mode hps.2.2))

/-! ## Reservations counted -/

theorem State.reserved_setCarrier_add (s : State) (k : Nat) (c : Carrier) (i : PointNo) (hk : k < s.carriers.table.length) :
    (s.setCarrier k c).reserved i + oneIf ((s.carrier k).reservation == some i)
      = s.reserved i + oneIf (c.reservation == some i) := by
  rw [State.reserved, State.table_setCarrier]
  exact countP_set_add _ _ k _ c (by simp [State.carrier, hk])

theorem State.reserved_setCarrier_of_ge (s : State) (k : Nat) (c : Carrier) (i : PointNo)
    (hk : s.carriers.table.length ≤ k) : (s.setCarrier k c).reserved i = s.reserved i := by
  rw [State.reserved, State.table_setCarrier, List.set_eq_of_length_le hk]; rfl

theorem State.reserved_setCarrier_le (s : State) (k : Nat) {c : Carrier}
    (hc : c.reservation = none ∨ c.reservation = (s.carrier k).reservation) (i : PointNo) :
    (s.setCarrier k c).reserved i ≤ s.reserved i := by
  rcases lt_or_ge k s.carriers.table.length with hk | hk
  · have := s.reserved_setCarrier_add k c i hk
    rcases hc with hc | hc
    · simp only [hc, oneIf] at this; simp at this; omega
    · rw [hc] at this; omega
  · exact le_of_eq (s.reserved_setCarrier_of_ge k c i hk)

theorem State.Pointed.setCarrier {s : State} (h : s.Pointed) (k : Nat) {c : Carrier}
    (hc : c.reservation = none ∨ c.reservation = (s.carrier k).reservation) : (s.setCarrier k c).Pointed :=
  h.of_fewer (fun _ => rfl) (s.reserved_setCarrier_le k hc) (.inl rfl)

theorem Carrier.reservation_unreserve (c : Carrier) (i q : PointNo) :
    ((c.unreserve i).reservation == some q) = (c.reservation == some q && q != i) := by
  by_cases hi : c.reservation = some i
  · by_cases hq : i = q
    · simp [Carrier.unreserve, hi, hq]
    · simp [Carrier.unreserve, hi, hq]
  · simp only [Carrier.unreserve, if_neg hi]
    by_cases hq : q = i
    · subst hq; simpa using hi
    · simp [hq]

theorem State.reserved_endReservation (s : State) (i q : PointNo) :
    (s.endReservation i).reserved q = if q = i then 0 else s.reserved q := by
  simp only [State.reserved, State.endReservation, State.setCarriers_carriers, List.countP_map, Function.comp_def,
    Carrier.reservation_unreserve]
  split
  next h => simp [h]
  next h => simp only [bne_iff_ne.2 h, Bool.and_true]

theorem State.reserved_endReservations (s : State) (q : PointNo) : s.endReservations.reserved q = 0 := by
  simp [State.reserved, State.endReservations, List.countP_map, Function.comp_def]

theorem State.reserved_of_allEmpty {t : State} {n : Nat} (h : t.carriers = CarrierTable.allEmpty n) (q : PointNo) :
    t.reserved q = 0 := by
  rw [State.reserved, h]
  simp [CarrierTable.allEmpty, Carrier.empty, List.countP_replicate]

theorem State.Pointed.endReservation {s : State} (h : s.Pointed) (i : PointNo) : (s.endReservation i).Pointed :=
  h.of_fewer (fun _ => rfl) (fun q => by rw [State.reserved_endReservation]; split <;> simp) (.inl rfl)

/-! ## Points stored -/

/-- A point stored: no second mark, a bag only while it takes part, and none missing that a carrier is reserved for. -/
theorem State.Pointed.setPoint {s : State} (h : s.Pointed) (i : PointNo) {x : Point}
    (hmark : x.mark = true → ∀ q, q ≠ i → (s.point q).mark = false)
    (hw : ∀ w ∈ x.waiting, x.takesPart = true ∧ (w.ticket ≠ none → x.mark = true))
    (hkept : x.waiting.isSome = true ∨ s.reserved i = 0) : (s.setPoint i x).Pointed := by
  have same {q : PointNo} (hq : q ≠ i) : (s.setPoint i x).point q = s.point q := State.point_setPoint_ne _ _ hq
  have reserved (q : PointNo) : (s.setPoint i x).reserved q = s.reserved q := rfl
  refine ⟨fun a q ha hq => ?_, fun a w hwa => ?_, h.run, fun a => ?_⟩
  · by_cases hai : a = i <;> by_cases hqi : q = i
    · rw [hai, hqi]
    · subst hai; rw [State.point_setPoint] at ha; rw [same hqi, hmark ha q hqi] at hq; exact absurd hq (by simp)
    · subst hqi; rw [State.point_setPoint] at hq; rw [same hai, hmark hq a hai] at ha; exact absurd ha (by simp)
    · rw [same hai] at ha; rw [same hqi] at hq; exact h.marks a q ha hq
  · by_cases hai : a = i
    · subst hai; rw [State.point_setPoint] at hwa ⊢; exact hw w hwa
    · rw [same hai] at hwa ⊢; exact h.waits a w hwa
  · rw [reserved]
    have hone := h.one a
    by_cases hai : a = i
    · subst hai
      rw [State.point_setPoint]
      rcases hkept with hk | hk
      · rw [hk]; split at hone <;> simp <;> omega
      · rw [hk]; exact Nat.zero_le _
    · rw [same hai]; exact hone

theorem PointAct.pointed {s t : State} (h : PointAct s t) (hs : s.Pointed) : t.Pointed := by
  have mark {i q : PointNo} (hi : (s.point i).mark = true) (hq : q ≠ i) : (s.point q).mark = false :=
    Bool.eq_false_iff.2 fun h => hq (hs.marks q i h hi)
  cases h with
  | endReservation i => exact hs.endReservation i
  | clearWaiting i =>
    refine (hs.endReservation i).setPoint i (x := { s.point i with waiting := none }) (fun h q hq => mark h hq) (by simp)
      (.inr ?_)
    rw [State.reserved_endReservation, if_pos rfl]
  | present i w hpart hnone ht hw =>
    refine hs.setPoint i (x := { s.point i with waiting := some w }) (fun h q hq => mark h hq) (fun w' hw' => ?_) (.inl rfl)
    obtain rfl : w = w' := by simpa using hw'
    exact ⟨hpart, ht⟩
  | wait i w n hsome hn =>
    refine hs.setPoint i (x := { s.point i with waiting := some { w with wait := n } }) (fun h q hq => mark h hq)
      (fun w' hw' => ?_) (.inl rfl)
    obtain rfl : { w with wait := n } = w' := by simpa using hw'
    exact hs.waits i w (by simp [hsome])
  | unmark q =>
    refine hs.setPoint q (x := (s.point q).unmark) (fun h => absurd h (by simp [Point.unmark])) (fun w hw => ?_) ?_
    · obtain ⟨w', hw', rfl⟩ : ∃ w', (s.point q).waiting = some w' ∧ { w' with ticket := none } = w := by
        simpa [Point.unmark] using hw
      exact ⟨(hs.waits q w' (by simp [hw'])).1, by simp⟩
    · have := hs.one q
      cases hw : (s.point q).waiting with
      | none => exact .inr (by simpa [hw] using this)
      | some w => exact .inl (by simp [Point.unmark, hw])
  | configure i x hsome hw hwait hmark =>
    refine hs.setPoint i hmark hw ?_
    have := hs.one i
    cases hwi : (s.point i).waiting with
    | none => exact .inr (by simpa [hwi] using this)
    | some w => exact .inl (by rw [hsome, hwi]; rfl)
  | lapse k => exact hs.setCarrier k (.inl rfl)
  | reserve i k hmode hw hnone =>
    have none_yet : s.reserved i = 0 := by
      rw [State.reserved, List.countP_eq_zero]
      simpa [State.holdsReservation] using hnone
    have bound (q : PointNo) :
        (s.setCarrier k { s.carrier k with reservation := some i }).reserved q ≤ s.reserved q + oneIf (q == i) := by
      rcases lt_or_ge k s.carriers.table.length with hk | hk
      · have := s.reserved_setCarrier_add k { s.carrier k with reservation := some i } q hk
        have same : (some i == some q) = (q == i) := by
          by_cases hqi : q = i
          · simp [hqi]
          · simp [hqi, Ne.symm hqi]
        rw [same] at this
        omega
      · rw [State.reserved_setCarrier_of_ge _ _ _ _ hk]; omega
    refine ⟨hs.marks, hs.waits, fun _ _ => hmode, fun q => (bound q).trans ?_⟩
    rw [State.point_setCarrier]
    by_cases hq : q = i
    · subst hq; simp [none_yet, hw, oneIf]
    · simpa [hq, oneIf] using hs.one q
  | limits l n _ _ => exact hs.of_fewer (fun _ => rfl) (fun _ => le_refl _) (.inl rfl)

theorem Quiet.pointed {s t : State} (h : Quiet s t) (hs : s.Pointed) : t.Pointed := by
  cases h with
  | relabel k c hc => exact hs.setCarrier k (.inr hc.reservation)
  | notice h => exact hs.of_changesOnly h.changesOnly (by simp)
  | field h => exact hs.of_changesOnly h.changesOnly (by simp)
  | coding x _ => exact hs.of_changesOnly (s.changesOnly_setCoding x) (by simp)
  | berth h => exact hs.of_changesOnly h.changesOnly (by simp)
  | clear b => exact hs.of_changesOnly (s.changesOnly_perBerthClear b) (by simp)

theorem CarrierAct.pointed {s t : State} (h : CarrierAct s t) (hs : s.Pointed) : t.Pointed := by
  cases h with
  | dropTarget k =>
    unfold State.dropTarget
    split
    · exact hs
    · exact State.Pointed.of_changesOnly (hs.setCarrier k (.inr (by rfl))) (State.changesOnly_storeLane _ _ _) (by simp)
  | choose k j _ _ _ =>
    exact State.Pointed.of_changesOnly (hs.setCarrier k (.inr (by rfl))) (State.changesOnly_storeLane _ _ _) (by simp)
  | load k c _ _ hr _ _ => exact hs.setCarrier k (.inl hr)

theorem State.Pointed.enterMode {s : State} (h : s.Pointed) (m : Mode) : (s.enterMode m).Pointed := by
  unfold State.enterMode
  split
  next hm =>
    exact h.of_fewer (fun _ => rfl) (fun i => le_of_eq_of_le (s.reserved_endReservations i) (Nat.zero_le _))
      (.inr s.reserved_endReservations)
  next hm =>
    refine h.of_fewer (fun _ => rfl) (fun i => le_refl _) (.inr fun i => ?_)
    by_contra hi
    exact hm (by simp [h.run i (Nat.pos_of_ne_zero hi)])

theorem State.point_reshape (s : State) (count commit : Nat) (i : PointNo) : (s.reshape count commit).point i = s.point i := by
  unfold State.reshape State.resize
  split <;> rfl

theorem State.Pointed.reshape {s : State} (h : s.Pointed) (count commit : Nat) : (s.reshape count commit).Pointed := by
  refine h.of_fewer (s.point_reshape count commit) (fun i => ?_) (.inl (s.changesOnly_reshape count commit .mode (by simp)))
  unfold State.reshape State.resize
  split
  · exact le_refl _
  · exact le_of_eq_of_le (State.reserved_of_allEmpty (n := count) rfl i) (Nat.zero_le _)

theorem State.pointed_reset : State.reset.Pointed := by
  have none_reserved (i : PointNo) : State.reset.reserved i = 0 := State.reserved_of_allEmpty (n := 512) rfl i
  refine ⟨fun i q h => ?_, fun i w hw => ?_, fun i hi => ?_, fun i => ?_⟩
  · simp [State.reset_point, Point.reset] at h
  · simp [State.reset_point, Point.reset] at hw
  · rw [none_reserved] at hi; exact absurd hi (lt_irrefl 0)
  · rw [none_reserved]; exact Nat.zero_le _

theorem Act.pointed {s t : State} (h : Act s t) (hs : s.Pointed) : t.Pointed := by
  cases h with
  | quiet h => exact h.pointed hs
  | carrier h => exact h.pointed hs
  | lane h => exact hs.of_changesOnly h.changesOnly (by simp)
  | point h => exact h.pointed hs
  | station h => exact hs.of_changesOnly h.changesOnly (by simp)
  | router r _ => exact hs.of_changesOnly (s.changesOnly_setRouter r) (by simp)
  | loop l _ => exact hs.of_changesOnly (s.changesOnly_setLoop l) (by simp)
  | wires w => exact hs.of_changesOnly (s.changesOnly_setWires w) (by simp)
  | mode m _ => exact hs.enterMode m
  | vacate =>
    have freed (i : PointNo) : s.vacate.reserved i = 0 :=
      State.reserved_of_allEmpty (n := s.carriers.table.length) s.carriers_vacate i
    exact hs.of_fewer (State.point_eq_of_induction (s.changesOnly_vacate .induction (by simp)))
      (fun i => le_of_eq_of_le (freed i) (Nat.zero_le _)) (.inr freed)
  | reshape c k _ _ _ => exact hs.reshape c k
  | land k j _ h =>
    have landed := h.keeps (P := State.Pointed) (fun _ _ hq => hq.pointed)
      (hs.of_changesOnly (s.changesOnly_storeLane j _) (by simp))
    exact landed.setCarrier k (.inl rfl)

theorem Deed.pointed {s t : State} (h : Deed s t) (hs : s.Pointed) : t.Pointed := by
  cases h with
  | act h => exact h.pointed hs
  | link h => exact hs.of_changesOnly h.changesOnly (by simp)
  | powerOn => exact State.pointed_reset.of_changesOnly (State.changesOnly_setPending _ _) (by simp)

/-- Settles O12: every action keeps marks, waiting bags and reservations in agreement. -/
theorem stepKeepsPoints : Obligations.StepKeepsPoints :=
  fun s t hs h => (State.pointed_iff t).1 (step_keeps (fun _ _ => Deed.pointed)
    (fun _ _ h => h.of_changesOnly (State.changesOnly_setPending _ _) (by simp)) ((State.pointed_iff s).2 hs) h)

end Sys2Proof.Machine

/-! SUPPORT. Cabins, tag entries and the lists that tie them together (R59 to R61). -/

namespace Sys2Proof.Machine

/-! ## Lists in ascending order of a key -/

theorem perm_insertByKey {α : Type} (p : α → Bool) (l : List α) (a : α) :
    (l.takeWhile p ++ a :: l.dropWhile p).Perm (a :: l) := by
  have h : (l.takeWhile p ++ a :: l.dropWhile p).Perm (a :: (l.takeWhile p ++ l.dropWhile p)) := List.perm_middle
  rwa [List.takeWhile_append_dropWhile] at h

theorem pairwise_insertByKey {α : Type} (key : α → Nat) (l : List α) (a : α) (hl : (l.map key).Pairwise (· < ·))
    (ha : key a ∉ l.map key) :
    ((l.takeWhile (fun x => key x < key a) ++ a :: l.dropWhile (fun x => key x < key a)).map key).Pairwise (· < ·) := by
  induction l with
  | nil => simp
  | cons x xs ih =>
    rw [List.map_cons, List.pairwise_cons] at hl
    rw [List.map_cons, List.mem_cons, not_or] at ha
    by_cases hx : key x < key a
    · rw [List.takeWhile_cons_of_pos (by simpa using hx), List.dropWhile_cons_of_pos (by simpa using hx), List.cons_append,
        List.map_cons, List.pairwise_cons]
      refine ⟨fun k hk => ?_, ih hl.2 ha.2⟩
      rcases List.mem_cons.1 (((perm_insertByKey _ xs a).map key).mem_iff.1 hk) with rfl | hk
      · exact hx
      · exact hl.1 k hk
    · rw [List.takeWhile_cons_of_neg (by simpa using hx), List.dropWhile_cons_of_neg (by simpa using hx), List.nil_append,
        List.map_cons, List.pairwise_cons, List.map_cons, List.pairwise_cons]
      have hax : key a < key x := by omega
      refine ⟨fun k hk => ?_, hl.1, hl.2⟩
      rcases List.mem_cons.1 hk with rfl | hk
      · exact hax
      · exact hax.trans (hl.1 k hk)

theorem eq_of_key_eq {α : Type} {key : α → Nat} {l : List α} (hl : (l.map key).Pairwise (· < ·)) {a b : α} (ha : a ∈ l)
    (hb : b ∈ l) (h : key a = key b) : a = b := by
  have hnodup : (l.map key).Nodup := hl.imp fun h => ne_of_lt h
  exact List.inj_on_of_nodup_map hnodup ha hb h

/-- Counting after the element of one key is changed. -/
theorem countP_mapKey_add {α : Type} {key : α → Nat} {l : List α} (hl : (l.map key).Pairwise (· < ·)) {a : α} (ha : a ∈ l)
    (f : α → α) (p : α → Bool) :
    (l.map fun x => if key x == key a then f x else x).countP p + oneIf (p a) = l.countP p + oneIf (p (f a)) := by
  induction l with
  | nil => simp at ha
  | cons x xs ih =>
    rw [List.map_cons, List.pairwise_cons] at hl
    by_cases hx : key x = key a
    · obtain rfl : x = a := eq_of_key_eq (l := x :: xs) (key := key) (by rw [List.map_cons, List.pairwise_cons]; exact hl)
        (List.mem_cons_self) ha hx
      have rest : xs.map (fun y => if key y == key x then f y else y) = xs := by
        refine (List.map_congr_left fun y hy => ?_).trans (List.map_id xs)
        have : key x < key y := hl.1 _ (List.mem_map_of_mem hy)
        rw [if_neg (by simp; omega)]; rfl
      rw [List.map_cons, if_pos (by simp), rest, List.countP_cons, List.countP_cons]
      simp only [oneIf]; omega
    · have hmem : a ∈ xs := by
        rcases List.mem_cons.1 ha with rfl | h
        · exact absurd rfl hx
        · exact h
      have := ih hl.2 hmem
      rw [List.map_cons, if_neg (by simpa using hx), List.countP_cons, List.countP_cons]
      omega

/-- Counting after the element of one key is taken away. -/
theorem countP_filterKey_add {α : Type} {key : α → Nat} {l : List α} (hl : (l.map key).Pairwise (· < ·)) {a : α} (ha : a ∈ l)
    (p : α → Bool) : (l.filter fun x => key x != key a).countP p + oneIf (p a) = l.countP p := by
  induction l with
  | nil => simp at ha
  | cons x xs ih =>
    rw [List.map_cons, List.pairwise_cons] at hl
    by_cases hx : key x = key a
    · obtain rfl : x = a := eq_of_key_eq (l := x :: xs) (key := key) (by rw [List.map_cons, List.pairwise_cons]; exact hl)
        (List.mem_cons_self) ha hx
      have rest : xs.filter (fun y => key y != key x) = xs := by
        refine List.filter_eq_self.2 fun y hy => ?_
        have : key x < key y := hl.1 _ (List.mem_map_of_mem hy)
        simp; omega
      rw [List.filter_cons_of_neg (by simp), rest, List.countP_cons]
      simp only [oneIf]
    · have hmem : a ∈ xs := by
        rcases List.mem_cons.1 ha with rfl | h
        · exact absurd rfl hx
        · exact h
      have := ih hl.2 hmem
      rw [List.filter_cons_of_pos (by simpa using hx), List.countP_cons, List.countP_cons]
      omega

/-! ## Agreement, cabin by cabin -/

/-- Whether an entry counts for a cabin in a state (R61). -/
def Entry.countsFor (n : Nat) (st : EntryState) (e : Entry) : Bool := e.cabin == n && e.state == st

/-- A cabin's list and counts agree with a tag table (R59, R61). -/
structure Cabin.Agrees (c : Cabin) (tags : List Entry) : Prop where
  nodup : c.entries.Nodup
  length : c.entries.length ≤ 15
  mem : ∀ i, i ∈ c.entries ↔ ∃ e ∈ tags, e.cabin = c.number ∧ e.index = i
  delivered : c.delivered = tags.countP (Entry.countsFor c.number .delivered)
  inHold : c.inHold = tags.countP (Entry.countsFor c.number .inHold)

/-- R59 to R61 for one berth. -/
structure Berth.Manifest (r : Berth) : Prop where
  cabins : (r.cabins.map (·.number)).Pairwise (· < ·)
  tags : (r.tags.map (·.index)).Pairwise (· < ·)
  serials : (r.tags.filterMap (·.serial)).Nodup
  homes : ∀ e ∈ r.tags, ∃ c ∈ r.cabins, c.number = e.cabin
  lists : ∀ c ∈ r.cabins, c.Agrees r.tags

theorem Berth.manifest_iff (r : Berth) : r.Manifest ↔ r.manifestAgrees := by
  have key (n : Nat) (st : EntryState) :
      (r.entriesIn n).countP (fun e => e.state == st) = r.tags.countP (Entry.countsFor n st) := by
    rw [Berth.entriesIn, List.countP_filter]
    refine List.countP_congr fun e _ => ?_
    simp [Entry.countsFor, and_comm]
  have mem (n i : Nat) : (∃ e ∈ r.entriesIn n, e.index = i) ↔ ∃ e ∈ r.tags, e.cabin = n ∧ e.index = i := by
    simp [Berth.entriesIn, and_assoc]
  constructor
  · rintro ⟨h1, h2, h3, h4, h5⟩
    refine ⟨h1, h2, h3, h4, fun c hc => ?_⟩
    obtain ⟨k1, k2, k3, k4, k5⟩ := h5 c hc
    exact ⟨k1, k2, fun i => (k3 i).trans (mem _ _).symm, by rw [key]; exact k4, by rw [key]; exact k5⟩
  · rintro ⟨h1, h2, h3, h4, h5⟩
    refine ⟨h1, h2, h3, h4, fun c hc => ?_⟩
    obtain ⟨k1, k2, k3, k4, k5⟩ := h5 c hc
    exact ⟨k1, k2, fun i => (k3 i).trans (mem _ _), by rw [← key]; exact k4, by rw [← key]; exact k5⟩

/-- A cabin changes nothing else when its number, its list and its counts stay. -/
theorem Cabin.Agrees.of_same {c c' : Cabin} {tags : List Entry} (h : c.Agrees tags) (hn : c'.number = c.number)
    (hd : c'.delivered = c.delivered) (hi : c'.inHold = c.inHold) (he : c'.entries = c.entries) : c'.Agrees tags :=
  ⟨by rw [he]; exact h.nodup, by rw [he]; exact h.length, by rw [he, hn]; exact h.mem, by rw [hd, hn]; exact h.delivered,
    by rw [hi, hn]; exact h.inHold⟩

/-- What is asked of the cabins of a changed berth follows from what is asked of each cabin it had. -/
theorem Berth.forall_modifyCabin {P : Cabin → Prop} (r : Berth) (n : Nat) (f : Cabin → Cabin)
    (h : ∀ c ∈ r.cabins, P (if c.number = n then f c else c)) : ∀ c ∈ (r.modifyCabin n f).cabins, P c := by
  intro c hc
  obtain ⟨d, hd, rfl⟩ := List.mem_map.1 hc
  simpa using h d hd

theorem Berth.numbers_modifyCabin (r : Berth) (n : Nat) (f : Cabin → Cabin) (hf : ∀ c, (f c).number = c.number) :
    (r.modifyCabin n f).cabins.map (·.number) = r.cabins.map (·.number) := by
  simp only [Berth.modifyCabin, List.map_map]
  refine List.map_congr_left fun c _ => ?_
  simp only [Function.comp_apply]
  split <;> simp [hf]

theorem Berth.indexes_modifyEntry (r : Berth) (i : Nat) (f : Entry → Entry) (hf : ∀ e, (f e).index = e.index) :
    (r.modifyEntry i f).tags.map (·.index) = r.tags.map (·.index) := by
  simp only [Berth.modifyEntry, List.map_map]
  refine List.map_congr_left fun e _ => ?_
  simp only [Function.comp_apply]
  split <;> simp [hf]

theorem Berth.serials_modifyEntry (r : Berth) (i : Nat) (f : Entry → Entry) (hf : ∀ e, (f e).serial = e.serial) :
    (r.modifyEntry i f).tags.filterMap (·.serial) = r.tags.filterMap (·.serial) := by
  simp only [Berth.modifyEntry, List.filterMap_map]
  refine List.filterMap_congr fun e _ => ?_
  simp only [Function.comp_apply]
  split <;> simp [hf]

/-- Every entry's cabin is in the table of any berth with the same cabin numbers. -/
theorem Berth.home_of_numbers {r r' : Berth} (h : r'.cabins.map (·.number) = r.cabins.map (·.number)) {n : Nat}
    (hn : ∃ c ∈ r.cabins, c.number = n) : ∃ c ∈ r'.cabins, c.number = n := by
  have : n ∈ r'.cabins.map (·.number) := by rw [h]; simpa using hn
  simpa using this

/-- Which indexes stand in which cabin. -/
theorem Cabin.Agrees.mem_iff {c : Cabin} {tags : List Entry} (h : c.Agrees tags) (i : Nat) :
    i ∈ c.entries ↔ (c.number, i) ∈ tags.map fun e => (e.cabin, e.index) := by
  rw [h.mem i]
  simp

theorem Berth.places_modifyEntry (r : Berth) (i : Nat) (f : Entry → Entry) (hi : ∀ e, (f e).index = e.index)
    (hc : ∀ e, (f e).cabin = e.cabin) :
    (r.modifyEntry i f).tags.map (fun e => (e.cabin, e.index)) = r.tags.map fun e => (e.cabin, e.index) := by
  simp only [Berth.modifyEntry, List.map_map]
  refine List.map_congr_left fun e _ => ?_
  simp only [Function.comp_apply]
  split <;> simp [hi, hc]

theorem mem_iff_of_places {tags tags' : List Entry}
    (h : tags'.map (fun e => (e.cabin, e.index)) = tags.map fun e => (e.cabin, e.index)) (n i : Nat) :
    (∃ e ∈ tags', e.cabin = n ∧ e.index = i) ↔ ∃ e ∈ tags, e.cabin = n ∧ e.index = i := by
  have key (l : List Entry) : (∃ e ∈ l, e.cabin = n ∧ e.index = i) ↔ (n, i) ∈ l.map fun e => (e.cabin, e.index) := by simp
  rw [key, key, h]

theorem Berth.homes_of_places {r r' : Berth} (h : ∀ e ∈ r.tags, ∃ c ∈ r.cabins, c.number = e.cabin)
    (hp : r'.tags.map (fun e => (e.cabin, e.index)) = r.tags.map fun e => (e.cabin, e.index))
    (hn : r'.cabins.map (·.number) = r.cabins.map (·.number)) : ∀ e ∈ r'.tags, ∃ c ∈ r'.cabins, c.number = e.cabin := by
  intro e he
  obtain ⟨d, hd, hcab, -⟩ := (mem_iff_of_places hp e.cabin e.index).1 ⟨e, he, rfl, rfl⟩
  exact Berth.home_of_numbers hn (hcab ▸ h d hd)

theorem Entry.countsFor_of_ne {n : Nat} {e : Entry} (h : e.cabin ≠ n) (st : EntryState) : e.countsFor n st = false := by
  simp [Entry.countsFor, h]

theorem Entry.countsFor_of_eq {n : Nat} {e : Entry} (h : e.cabin = n) (st : EntryState) :
    e.countsFor n st = (e.state == st) := by
  simp [Entry.countsFor, h]

/-! ## The table operations -/

theorem Berth.Manifest.dropTicket {r : Berth} (h : r.Manifest) (i : Nat) :
    (r.modifyEntry i fun e => { e with ticket := none }).Manifest := by
  have places := r.places_modifyEntry i (fun e => { e with ticket := none }) (fun _ => rfl) (fun _ => rfl)
  have counts (n : Nat) (st : EntryState) : (r.modifyEntry i fun e => { e with ticket := none }).tags.countP
      (Entry.countsFor n st) = r.tags.countP (Entry.countsFor n st) := by
    simp only [Berth.modifyEntry, List.countP_map]
    refine List.countP_congr fun e _ => ?_
    simp only [Function.comp_apply]
    split <;> rfl
  refine ⟨h.cabins, ?_, ?_, Berth.homes_of_places h.homes places rfl, fun c hc => ?_⟩
  · exact (r.indexes_modifyEntry i (fun e => { e with ticket := none }) fun _ => rfl).symm ▸ h.tags
  · exact (r.serials_modifyEntry i (fun e => { e with ticket := none }) fun _ => rfl).symm ▸ h.serials
  · have hcab := h.lists c hc
    exact ⟨hcab.nodup, hcab.length, fun k => (hcab.mem k).trans (mem_iff_of_places places _ _).symm,
      by rw [counts]; exact hcab.delivered, by rw [counts]; exact hcab.inHold⟩

theorem Berth.mem_of_findEntry {r : Berth} {i : Nat} {e : Entry} (h : r.findEntry i = some e) : e ∈ r.tags :=
  List.mem_of_find?_eq_some h

theorem Berth.index_of_findEntry {r : Berth} {i : Nat} {e : Entry} (h : r.findEntry i = some e) : e.index = i := by
  simpa using List.find?_some h

theorem Berth.Manifest.setEntryState {r : Berth} (h : r.Manifest) (i : Nat) (st : EntryState) (ticket : Option Nat) :
    (r.setEntryState i st ticket).Manifest := by
  unfold Berth.setEntryState
  cases hf : r.findEntry i with
  | none => exact h
  | some e =>
    have he := Berth.mem_of_findEntry hf
    obtain rfl := Berth.index_of_findEntry hf
    have places := r.places_modifyEntry e.index (fun x => { x with state := st, ticket := ticket }) (fun _ => rfl)
      (fun _ => rfl)
    have numbers := (r.modifyEntry e.index fun x => { x with state := st, ticket := ticket }).numbers_modifyCabin e.cabin
      (·.recount e.state st) (fun _ => rfl)
    have counts (n : Nat) (st' : EntryState) := countP_mapKey_add h.tags he
      (fun x => { x with state := st, ticket := ticket }) (Entry.countsFor n st')
    refine ⟨by rw [numbers]; exact h.cabins, ?_, ?_, Berth.homes_of_places h.homes places numbers,
      Berth.forall_modifyCabin _ _ _ fun c hc => ?_⟩
    · exact Eq.mpr (congrArg (List.Pairwise (· < ·)) (r.indexes_modifyEntry e.index
        (fun x => { x with state := st, ticket := ticket }) fun _ => rfl)) h.tags
    · exact Eq.mpr (congrArg List.Nodup (r.serials_modifyEntry e.index
        (fun x => { x with state := st, ticket := ticket }) fun _ => rfl)) h.serials
    · have hcab := h.lists c hc
      have hd := counts c.number .delivered
      have hh := counts c.number .inHold
      have mem (k : Nat) := (hcab.mem k).trans (mem_iff_of_places places c.number k).symm
      by_cases hn : c.number = e.cabin
      · rw [if_pos hn]
        rw [Entry.countsFor_of_eq hn.symm, Entry.countsFor_of_eq (by exact hn.symm)] at hd hh
        refine ⟨hcab.nodup, hcab.length, mem, ?_, ?_⟩
        · simp only [Cabin.recount, hcab.delivered]
          exact Nat.sub_eq_of_eq_add hd.symm
        · simp only [Cabin.recount, hcab.inHold]
          exact Nat.sub_eq_of_eq_add hh.symm
      · rw [if_neg hn]
        rw [Entry.countsFor_of_ne (Ne.symm hn), Entry.countsFor_of_ne (by exact Ne.symm hn)] at hd hh
        exact ⟨hcab.nodup, hcab.length, mem, hcab.delivered.trans (Nat.add_right_cancel hd).symm,
          hcab.inHold.trans (Nat.add_right_cancel hh).symm⟩

theorem Berth.freeIndex_not_mem (r : Berth) : r.freeIndex ∉ r.tags.map (·.index) := by
  unfold Berth.freeIndex
  cases hf : (List.range (r.tags.length + 1)).find? fun i => r.tags.all (·.index != i) with
  | some i => simpa using List.find?_some hf
  | none =>
    have all_used : List.range (r.tags.length + 1) ⊆ r.tags.map (·.index) := by
      intro i hi
      simpa using List.find?_eq_none.1 hf i hi
    have := (List.subperm_of_subset List.nodup_range all_used).length_le
    simp at this

theorem Berth.tags_makeEntry (r : Berth) (serial : Option Nat) (cabin : Nat) (st : EntryState) (ticket : Option Nat) :
    (r.makeEntry serial cabin st ticket).tags.Perm (⟨r.freeIndex, serial, cabin, st, ticket⟩ :: r.tags) :=
  perm_insertByKey _ _ _

theorem Berth.findSerial_none_iff (r : Berth) (n : Nat) : r.findSerial n = none ↔ n ∉ r.tags.filterMap (·.serial) := by
  simp [Berth.findSerial]

theorem Berth.Manifest.makeEntry {r : Berth} (h : r.Manifest) (serial : Option Nat) (cabin : Nat) (st : EntryState)
    (ticket : Option Nat) {c : Cabin} (hc : r.findCabin cabin = some c) (hlist : c.entries.length < 15)
    (hserial : ∀ n, serial = some n → r.findSerial n = none) : (r.makeEntry serial cabin st ticket).Manifest := by
  have perm := r.tags_makeEntry serial cabin st ticket
  have fresh := r.freeIndex_not_mem
  have numbers : (r.makeEntry serial cabin st ticket).cabins.map (·.number) = r.cabins.map (·.number) :=
    Berth.numbers_modifyCabin (r := { r with tags := _ }) cabin _ fun _ => rfl
  refine ⟨by rw [numbers]; exact h.cabins, ?_, ?_, fun e he => ?_, Berth.forall_modifyCabin _ _ _ fun d hd => ?_⟩
  · exact pairwise_insertByKey (·.index) r.tags ⟨r.freeIndex, serial, cabin, st, ticket⟩ h.tags fresh
  · rw [(perm.filterMap _).nodup_iff]
    cases serial with
    | none => exact h.serials
    | some n => exact List.nodup_cons.2 ⟨(r.findSerial_none_iff n).1 (hserial n rfl), h.serials⟩
  · refine Berth.home_of_numbers numbers ?_
    rcases List.mem_cons.1 (perm.mem_iff.1 he) with rfl | he
    · exact ⟨c, List.mem_of_find?_eq_some hc, Berth.number_of_findCabin hc⟩
    · exact h.homes e he
  · have hcab := h.lists d hd
    have mem (k : Nat) : (∃ e ∈ (r.makeEntry serial cabin st ticket).tags, e.cabin = d.number ∧ e.index = k)
        ↔ (cabin = d.number ∧ r.freeIndex = k) ∨ k ∈ d.entries := by
      rw [hcab.mem k]
      simp only [perm.mem_iff, List.mem_cons, or_and_right, exists_or, exists_eq_left]
    by_cases hn : d.number = cabin
    · obtain rfl : d = c := eq_of_key_eq h.cabins hd (List.mem_of_find?_eq_some hc)
        (hn.trans (Berth.number_of_findCabin hc).symm)
      have unlisted : r.freeIndex ∉ d.entries := fun hk => by
        obtain ⟨e, he, _, hi⟩ := (hcab.mem _).1 hk
        exact fresh (hi ▸ List.mem_map_of_mem he)
      rw [if_pos hn]
      refine ⟨?_, ?_, fun k => ?_, ?_, ?_⟩
      · exact (List.nodup_append.2 ⟨hcab.nodup, by simp, fun a ha b hb => by
          rw [List.mem_singleton.1 hb]; rintro rfl; exact unlisted ha⟩)
      · simpa using hlist
      · refine Iff.trans ?_ (mem k).symm
        simp [hn, or_comm, eq_comm]
      · rw [perm.countP_eq]
        simp only [Cabin.countIn, List.countP_cons, hcab.delivered, oneIf, Entry.countsFor]
        simp [hn]
      · rw [perm.countP_eq]
        simp only [Cabin.countIn, List.countP_cons, hcab.inHold, oneIf, Entry.countsFor]
        simp [hn]
    · rw [if_neg hn]
      refine ⟨hcab.nodup, hcab.length, fun k => ?_, ?_, ?_⟩
      · rw [mem k]; simp [Ne.symm hn]
      · rw [perm.countP_eq, List.countP_cons, Entry.countsFor_of_ne (by exact Ne.symm hn)]; exact hcab.delivered
      · rw [perm.countP_eq, List.countP_cons, Entry.countsFor_of_ne (by exact Ne.symm hn)]; exact hcab.inHold

theorem Berth.Manifest.removeEntry {r : Berth} (h : r.Manifest) {e : Entry} (he : e ∈ r.tags) :
    (r.removeEntry e).Manifest := by
  have numbers : (r.removeEntry e).cabins.map (·.number) = r.cabins.map (·.number) :=
    Berth.numbers_modifyCabin (r := { r with tags := _ }) e.cabin _ fun _ => rfl
  have tags : (r.removeEntry e).tags = r.tags.filter (·.index != e.index) := rfl
  have sub : (r.removeEntry e).tags.Sublist r.tags := List.filter_sublist
  have counts (n : Nat) (st : EntryState) := countP_filterKey_add h.tags he (Entry.countsFor n st)
  refine ⟨by rw [numbers]; exact h.cabins, h.tags.sublist (sub.map _), h.serials.sublist (sub.filterMap _),
    fun x hx => Berth.home_of_numbers numbers (h.homes x (sub.subset hx)), Berth.forall_modifyCabin _ _ _ fun c hc => ?_⟩
  have hcab := h.lists c hc
  have hd := counts c.number .delivered
  have hh := counts c.number .inHold
  have mem (k : Nat) : (∃ x ∈ (r.removeEntry e).tags, x.cabin = c.number ∧ x.index = k) ↔ k ∈ c.entries ∧ k ≠ e.index := by
    rw [hcab.mem k, tags]
    constructor
    · rintro ⟨x, hx, hcx, rfl⟩
      rw [List.mem_filter] at hx
      exact ⟨⟨x, hx.1, hcx, rfl⟩, by simpa using hx.2⟩
    · rintro ⟨⟨x, hx, hcx, rfl⟩, hk⟩
      exact ⟨x, List.mem_filter.2 ⟨hx, by simpa using hk⟩, hcx, rfl⟩
  by_cases hn : c.number = e.cabin
  · rw [if_pos hn]
    rw [Entry.countsFor_of_eq hn.symm] at hd hh
    refine ⟨hcab.nodup.filter _, (List.length_filter_le _ _).trans hcab.length, fun k => ?_, ?_, ?_⟩
    · refine Iff.trans ?_ (mem k).symm
      simp
    · simp only [Cabin.countOut, hcab.delivered]
      exact Nat.sub_eq_of_eq_add hd.symm
    · simp only [Cabin.countOut, hcab.inHold]
      exact Nat.sub_eq_of_eq_add hh.symm
  · rw [if_neg hn]
    rw [Entry.countsFor_of_ne (Ne.symm hn)] at hd hh
    refine ⟨hcab.nodup, hcab.length, fun k => ?_, hcab.delivered.trans hd.symm, hcab.inHold.trans hh.symm⟩
    rw [mem k]
    refine (and_iff_left_of_imp ?_).symm
    rintro hk rfl
    obtain ⟨x, hx, hcx, hi⟩ := (hcab.mem _).1 hk
    obtain rfl := eq_of_key_eq h.tags hx he hi
    exact hn hcx.symm

theorem Berth.Manifest.moveEntry {r : Berth} (h : r.Manifest) {e : Entry} {cabin : Nat} {c : Cabin} (he : e ∈ r.tags)
    (hc : r.findCabin cabin = some c) (hlist : c.entries.length < 15) (hne : e.cabin ≠ cabin) :
    (r.moveEntry e cabin).Manifest := by
  have numbers : (r.moveEntry e cabin).cabins.map (·.number) = r.cabins.map (·.number) := by
    unfold Berth.moveEntry
    rw [Berth.numbers_modifyCabin, Berth.numbers_modifyCabin]
    · rfl
    · exact fun _ => rfl
    · exact fun _ => rfl
  have tags : (r.moveEntry e cabin).tags = r.tags.map fun x => if x.index == e.index then { x with cabin := cabin } else x :=
    rfl
  have counts (n : Nat) (st : EntryState) := countP_mapKey_add h.tags he (fun x => { x with cabin := cabin })
    (Entry.countsFor n st)
  have moved {x : Entry} (hx : x ∈ r.tags) (hi : x.index = e.index) : x = e := eq_of_key_eq h.tags hx he hi
  have mem (n k : Nat) : (∃ x ∈ (r.moveEntry e cabin).tags, x.cabin = n ∧ x.index = k)
      ↔ (n = cabin ∧ k = e.index) ∨ (k ≠ e.index ∧ ∃ x ∈ r.tags, x.cabin = n ∧ x.index = k) := by
    rw [tags]
    constructor
    · rintro ⟨_, hmem, hcx, hk⟩
      obtain ⟨x, hx, rfl⟩ := List.mem_map.1 hmem
      by_cases hi : x.index = e.index
      · rw [if_pos (by simpa using hi)] at hcx hk
        exact .inl ⟨hcx.symm, hk.symm.trans hi⟩
      · rw [if_neg (by simpa using hi)] at hcx hk
        exact .inr ⟨hk ▸ hi, x, hx, hcx, hk⟩
    · rintro (⟨rfl, rfl⟩ | ⟨hk, x, hx, hcx, rfl⟩)
      · exact ⟨_, List.mem_map.2 ⟨e, he, rfl⟩, by simp, by simp⟩
      · exact ⟨_, List.mem_map.2 ⟨x, hx, rfl⟩, by simp [hk, hcx], by simp [hk]⟩
  refine ⟨by rw [numbers]; exact h.cabins, ?_, ?_, fun x hx => Berth.home_of_numbers numbers ?_,
    Berth.forall_modifyCabin _ _ _ (Berth.forall_modifyCabin _ _ _ fun d hd => ?_)⟩
  · exact Eq.mpr (congrArg (List.Pairwise (· < ·)) (r.indexes_modifyEntry e.index
      (fun x => { x with cabin := cabin }) fun _ => rfl)) h.tags
  · exact Eq.mpr (congrArg List.Nodup (r.serials_modifyEntry e.index
      (fun x => { x with cabin := cabin }) fun _ => rfl)) h.serials
  · rcases (mem x.cabin x.index).1 ⟨x, hx, rfl, rfl⟩ with ⟨hx, _⟩ | ⟨_, y, hy, hcy, _⟩
    · exact ⟨c, List.mem_of_find?_eq_some hc, hx ▸ Berth.number_of_findCabin hc⟩
    · exact hcy ▸ h.homes y hy
  · have hcab := h.lists d hd
    have hdel := counts d.number .delivered
    have hhold := counts d.number .inHold
    by_cases hold : d.number = e.cabin
    · have hnew : d.number ≠ cabin := hold ▸ hne
      rw [if_pos hold, if_neg (by exact hnew)]
      rw [Entry.countsFor_of_eq hold.symm, Entry.countsFor_of_ne (by exact Ne.symm hnew)] at hdel hhold
      refine ⟨hcab.nodup.filter _, (List.length_filter_le _ _).trans hcab.length, fun k => ?_, ?_, ?_⟩
      · refine Iff.trans ?_ (mem d.number k).symm
        rw [← hcab.mem k, List.mem_filter, bne_iff_ne, and_comm]
        exact ⟨.inr, fun hk => hk.elim (fun hk => absurd hk.1 hnew) id⟩
      · simp only [Cabin.countOut, hcab.delivered]
        exact Nat.sub_eq_of_eq_add hdel.symm
      · simp only [Cabin.countOut, hcab.inHold]
        exact Nat.sub_eq_of_eq_add hhold.symm
    · rw [if_neg hold]
      have stays {k : Nat} (hk : k ∈ d.entries) : k ≠ e.index := by
        rintro rfl
        obtain ⟨x, hx, hcx, hi⟩ := (hcab.mem _).1 hk
        exact hold (by rw [← hcx, moved hx hi])
      by_cases hnew : d.number = cabin
      · obtain rfl : d = c := eq_of_key_eq h.cabins hd (List.mem_of_find?_eq_some hc)
          (hnew.trans (Berth.number_of_findCabin hc).symm)
        rw [if_pos hnew]
        rw [Entry.countsFor_of_ne (Ne.symm hold), Entry.countsFor_of_eq (by exact hnew.symm)] at hdel hhold
        refine ⟨?_, ?_, fun k => ?_, ?_, ?_⟩
        · exact List.nodup_append.2 ⟨hcab.nodup, by simp, fun a ha b hb => by
            rw [List.mem_singleton.1 hb]; exact stays ha⟩
        · simpa using hlist
        · refine Iff.trans ?_ (mem d.number k).symm
          rw [← hcab.mem k]
          simp only [List.mem_append, List.mem_singleton]
          constructor
          · rintro (hk | hk)
            · exact .inr ⟨stays hk, hk⟩
            · exact .inl ⟨hnew, hk⟩
          · rintro (⟨_, hk⟩ | ⟨_, hk⟩)
            · exact .inr hk
            · exact .inl hk
        · simp only [Cabin.countIn, hcab.delivered]
          exact hdel.symm
        · simp only [Cabin.countIn, hcab.inHold]
          exact hhold.symm
      · rw [if_neg hnew]
        rw [Entry.countsFor_of_ne (Ne.symm hold), Entry.countsFor_of_ne (by exact Ne.symm hnew)] at hdel hhold
        refine ⟨hcab.nodup, hcab.length, fun k => ?_, hcab.delivered.trans (Nat.add_right_cancel hdel).symm,
          hcab.inHold.trans (Nat.add_right_cancel hhold).symm⟩
        refine Iff.trans ?_ (mem _ k).symm
        rw [← hcab.mem k]
        exact ⟨fun hk => .inr ⟨stays hk, hk⟩, fun hk => hk.elim (fun h => absurd h.1 hnew) And.right⟩

theorem Berth.Manifest.insertCabin {r : Berth} (h : r.Manifest) {c : Cabin} (hc : r.findCabin c.number = none)
    (hnew : c.delivered = 0 ∧ c.inHold = 0 ∧ c.entries = []) : (r.insertCabin c).Manifest := by
  have fresh : c.number ∉ r.cabins.map (·.number) := by simpa [Berth.findCabin] using hc
  have perm : (r.insertCabin c).cabins.Perm (c :: r.cabins) := perm_insertByKey _ _ _
  have unhoused (e : Entry) (he : e ∈ r.tags) : e.cabin ≠ c.number := by
    obtain ⟨d, hd, hn⟩ := h.homes e he
    exact fun hcab => fresh (hcab ▸ hn ▸ List.mem_map_of_mem hd)
  have uncounted (st : EntryState) : 0 = r.tags.countP (Entry.countsFor c.number st) :=
    (List.countP_eq_zero.2 fun e he => by rw [Entry.countsFor_of_ne (unhoused e he)]; simp).symm
  refine ⟨pairwise_insertByKey (·.number) r.cabins c h.cabins fresh, h.tags, h.serials, fun e he => ?_, fun d hd => ?_⟩
  · obtain ⟨d, hd, hn⟩ := h.homes e he
    exact ⟨d, perm.mem_iff.2 (List.mem_cons_of_mem _ hd), hn⟩
  · rcases List.mem_cons.1 (perm.mem_iff.1 hd) with rfl | hd
    · obtain ⟨h1, h2, h3⟩ := hnew
      refine ⟨by simp [h3], by simp [h3], fun i => ?_, h1.trans (uncounted _), h2.trans (uncounted _)⟩
      rw [h3]
      exact ⟨fun hi => by simp at hi, fun ⟨e, he, hcab, _⟩ => absurd hcab (unhoused e he)⟩
    · exact h.lists d hd

theorem Berth.Manifest.editCabin {r : Berth} (h : r.Manifest) {n : Nat} {f : Cabin → Cabin} {c : Cabin}
    (hc : r.findCabin n = some c) (hf : (f c).number = c.number ∧ (f c).delivered = c.delivered
      ∧ (f c).inHold = c.inHold ∧ (f c).entries = c.entries) : (r.modifyCabin n f).Manifest := by
  have the_cabin {d : Cabin} (hd : d ∈ r.cabins) (hn : d.number = n) : d = c :=
    eq_of_key_eq h.cabins hd (List.mem_of_find?_eq_some hc) (hn.trans (Berth.number_of_findCabin hc).symm)
  have numbers : (r.modifyCabin n f).cabins.map (·.number) = r.cabins.map (·.number) := by
    simp only [Berth.modifyCabin, List.map_map]
    refine List.map_congr_left fun d hd => ?_
    simp only [Function.comp_apply]
    split
    next hn => rw [the_cabin hd (by simpa using hn)]; exact hf.1
    next => rfl
  refine ⟨by rw [numbers]; exact h.cabins, h.tags, h.serials, fun e he => Berth.home_of_numbers numbers (h.homes e he),
    Berth.forall_modifyCabin _ _ _ fun d hd => ?_⟩
  split
  next hn =>
    obtain rfl := the_cabin hd hn
    obtain ⟨h1, h2, h3, h4⟩ := hf
    exact (h.lists d hd).of_same h1 h2 h3 h4
  next => exact h.lists d hd

/-! ## The steps -/

/-- A berth's tables agree, and are empty while it is UNBOUND (R53, R58). -/
structure Berth.Kept (r : Berth) : Prop where
  manifest : r.Manifest
  unbound : r.state = .unbound → r.cabins = [] ∧ r.tags = []

theorem State.kept_iff (s : State) : (∀ b, (s.berth b).Kept) ↔ s.manifestsAgree := by
  refine forall_congr' fun b => ?_
  rw [← Berth.manifest_iff]
  exact ⟨fun h => ⟨h.manifest, h.unbound⟩, fun h => ⟨h.1, h.2⟩⟩

theorem State.kept_setBerth {s : State} (h : ∀ b, (s.berth b).Kept) (b : BerthId) {r : Berth} (hr : r.Kept) (a : BerthId) :
    ((s.setBerth b r).berth a).Kept := by
  by_cases ha : a = b
  · subst ha; rw [State.berth_setBerth]; exact hr
  · rw [State.berth_setBerth_ne _ _ ha]; exact h a

theorem Berth.Manifest.of_tables {r r' : Berth} (h : r.Manifest) (hc : r'.cabins = r.cabins) (ht : r'.tags = r.tags) :
    r'.Manifest :=
  ⟨by rw [hc]; exact h.cabins, by rw [ht]; exact h.tags, by rw [ht]; exact h.serials, by rw [hc, ht]; exact h.homes,
    by rw [hc, ht]; exact h.lists⟩

theorem Berth.unbound_of_open {r : Berth} {P : Prop} (h : r.state.isOpen = true) (hu : r.state = .unbound) : P := by
  rw [hu] at h; exact absurd h (by simp [BerthState.isOpen])

theorem BerthAct.kept {s t : State} (h : BerthAct s t) (hs : ∀ b, (s.berth b).Kept) (a : BerthId) : (t.berth a).Kept := by
  cases h with
  | entryState b i st tk =>
    refine State.kept_setBerth hs b ⟨(hs b).manifest.setEntryState i st tk, fun hu => ?_⟩ a
    rw [Berth.state_setEntryState] at hu
    obtain ⟨hc, ht⟩ := (hs b).unbound hu
    simp [Berth.setEntryState, Berth.findEntry, hc, ht]
  | dropTicket b i =>
    refine State.kept_setBerth hs b ⟨(hs b).manifest.dropTicket i, fun hu => ?_⟩ a
    obtain ⟨hc, ht⟩ := (hs b).unbound hu
    simp [Berth.modifyEntry, hc, ht]
  | makeEntry b n c st tk cabin hopen hc hlist _ hserial =>
    exact State.kept_setBerth hs b ⟨(hs b).manifest.makeEntry n c st tk hc hlist hserial,
      fun hu => Berth.unbound_of_open hopen hu⟩ a
  | removeEntry b e he =>
    refine State.kept_setBerth hs b ⟨(hs b).manifest.removeEntry he, fun hu => ?_⟩ a
    rw [((hs b).unbound hu).2] at he; simp at he
  | moveEntry b e c cabin he hc hlist hne =>
    refine State.kept_setBerth hs b ⟨(hs b).manifest.moveEntry he hc hlist hne, fun hu => ?_⟩ a
    rw [((hs b).unbound hu).2] at he; simp at he
  | insertCabin b c hopen hc _ hnew =>
    exact State.kept_setBerth hs b ⟨(hs b).manifest.insertCabin hc hnew, fun hu => Berth.unbound_of_open hopen hu⟩ a
  | editCabin b n f c hc hf =>
    refine State.kept_setBerth hs b ⟨(hs b).manifest.editCabin hc hf, fun hu => ?_⟩ a
    have := List.mem_of_find?_eq_some hc
    rw [((hs b).unbound hu).1] at this; simp at this
  | mapDeck b d g =>
    exact State.kept_setBerth hs b (r := (s.berth b).mapDeck d g) ⟨(hs b).manifest.of_tables rfl rfl, (hs b).unbound⟩ a
  | bind b ship _ _ _ =>
    exact State.kept_setBerth hs b (r := { s.berth b with state := .bound ship })
      ⟨(hs b).manifest.of_tables rfl rfl, fun hu => absurd hu (by simp)⟩ a
  | close b ship _ =>
    exact State.kept_setBerth hs b (r := { s.berth b with state := .closing ship })
      ⟨(hs b).manifest.of_tables rfl rfl, fun hu => absurd hu (by simp)⟩ a

theorem Berth.kept_clear : Berth.clear.Kept :=
  ⟨⟨by simp [Berth.clear], by simp [Berth.clear], by simp [Berth.clear], by simp [Berth.clear], by simp [Berth.clear]⟩,
    fun _ => ⟨rfl, rfl⟩⟩

theorem Quiet.kept {s t : State} (h : Quiet s t) (hs : ∀ b, (s.berth b).Kept) : ∀ b, (t.berth b).Kept := by
  have same {t : State} {ps : List Part} (hc : s.changesOnly t ps) (hps : Part.berths ∉ ps) : ∀ b, (t.berth b).Kept :=
    fun b => by rw [State.berth_eq_of_berths (hc .berths hps)]; exact hs b
  cases h with
  | relabel k c _ => exact same (s.changesOnly_storeCarrier k c) (by simp)
  | notice h => exact same h.changesOnly (by simp)
  | field h => exact same h.changesOnly (by simp)
  | coding x _ => exact same (s.changesOnly_setCoding x) (by simp)
  | berth h => exact h.kept hs
  | clear b =>
    intro a
    rw [State.berth_perBerthClear]
    split
    · exact Berth.kept_clear
    · exact hs a

theorem Act.kept {s t : State} (h : Act s t) (hs : ∀ b, (s.berth b).Kept) : ∀ b, (t.berth b).Kept := by
  have same {t : State} {ps : List Part} (hc : s.changesOnly t ps) (hps : Part.berths ∉ ps) : ∀ b, (t.berth b).Kept :=
    fun b => by rw [State.berth_eq_of_berths (hc .berths hps)]; exact hs b
  cases h with
  | quiet h => exact h.kept hs
  | carrier h => exact same h.changesOnly (by simp)
  | lane h => exact same h.changesOnly (by simp)
  | point h => exact same h.changesOnly (by simp)
  | station h => exact same h.changesOnly (by simp)
  | router r _ => exact same (s.changesOnly_setRouter r) (by simp)
  | loop l _ => exact same (s.changesOnly_setLoop l) (by simp)
  | wires w => exact same (s.changesOnly_setWires w) (by simp)
  | mode m _ => exact same (s.changesOnly_enterMode m) (by simp)
  | vacate => exact same s.changesOnly_vacate (by simp)
  | reshape c k _ _ _ => exact same (s.changesOnly_reshape c k) (by simp)
  | land k j _ h =>
    have landed : ∀ b, ((s.setLane j ((s.lane j).landed (s.carrier k).units)).berth b).Kept :=
      same (s.changesOnly_storeLane j _) (by simp)
    exact h.keeps (P := fun u => ∀ b, (u.berth b).Kept) (fun _ _ hq => hq.kept) landed

theorem Deed.kept {s t : State} (h : Deed s t) (hs : ∀ b, (s.berth b).Kept) : ∀ b, (t.berth b).Kept := by
  have same {t : State} {ps : List Part} (hc : s.changesOnly t ps) (hps : Part.berths ∉ ps) : ∀ b, (t.berth b).Kept :=
    fun b => by rw [State.berth_eq_of_berths (hc .berths hps)]; exact hs b
  cases h with
  | act h => exact h.kept hs
  | link h => exact same h.changesOnly (by simp)
  | powerOn => exact fun b => by cases b <;> exact Berth.kept_clear

/-- Settles O27: every action keeps each berth's lists and counts in agreement. -/
theorem stepKeepsManifests : Obligations.StepKeepsManifests :=
  fun s t hs h => (State.kept_iff t).1 (step_keeps (P := fun u => ∀ b, (u.berth b).Kept) (fun _ _ => Deed.kept)
    (fun _ _ h => h) ((State.kept_iff s).2 hs) h)

end Sys2Proof.Machine

/-! SUPPORT. The state after power-on, and what it keeps to. -/

namespace Sys2Proof.Machine

/-- After power-on every carrier is EMPTY. -/
theorem State.carrier_reset (k : Nat) : State.reset.carrier k = Carrier.empty := by
  show (List.replicate 512 Carrier.empty).getD k Carrier.empty = Carrier.empty
  rw [List.getD_eq_getElem?_getD, List.getElem?_replicate]
  split <;> rfl

theorem State.mem_table_reset {c : Carrier} (h : c ∈ State.reset.carriers.table) : c = Carrier.empty :=
  (List.mem_replicate.1 h).2

theorem State.offsetsInRange_reset : State.reset.offsetsInRange :=
  ⟨fun i d h => by simp [State.reset_point, Point.reset] at h, fun n d h => by simp [State.reset_station, Station.reset] at h,
    fun j d h => by simp [State.reset_lane, Lane.reset] at h⟩

theorem Carrier.fieldsAgree_empty : Carrier.empty.fieldsAgree := by
  simp [Carrier.fieldsAgree, Carrier.empty]

theorem State.carriersAgree_reset : State.reset.carriersAgree := by
  intro c hc
  rw [State.mem_table_reset hc]
  exact ⟨Carrier.fieldsAgree_empty, fun _ => rfl⟩

theorem State.identitiesAgree_reset : State.reset.identitiesAgree := by
  refine ⟨fun b e he => ?_, fun c hc d hd => ?_⟩
  · rw [State.reset_berth] at he; simp [Berth.clear] at he
  · rw [State.mem_table_reset hc] at hd; simp [Carrier.empty] at hd

theorem State.pendingAgrees_reset : State.reset.pendingAgrees := by
  refine ⟨by simp [State.reset, Router.reset], by simp [State.reset, Router.reset], by simp [State.reset, Router.reset],
    fun k hk => ?_⟩
  rw [State.carrier_reset] at hk; simp [Carrier.empty] at hk

theorem State.armedAgrees_reset : State.reset.armedAgrees := by
  refine ⟨fun j k hk => ?_, fun j => ?_, fun k j hk => ?_, fun _ j => ?_⟩
  · rw [State.reset_diverter] at hk; simp at hk
  · rw [State.reset_diverter]; exact List.Pairwise.nil
  · rw [State.carrier_reset] at hk; simp [Carrier.empty] at hk
  · rw [State.reset_diverter]

theorem State.ticketsAgree_reset : State.reset.ticketsAgree := by
  refine ⟨List.nodup_nil, fun r hr => ?_, fun b e he => ?_⟩
  · simp [State.reset, Coding.reset, Coding.references] at hr
  · rw [State.reset_berth] at he; simp [Berth.clear] at he

/-- Settles O4. -/
theorem powerOnLeavesASafeState : Obligations.PowerOnLeavesASafeState := by
  obtain ⟨settings, scores, stations⟩ := (State.inRange_iff _).1 State.inRange_reset
  have capacity := (State.capacity_iff _).1 State.capacity_reset
  have owners := (State.owned_iff _).1 State.owned_reset
  have manifests := (State.kept_iff State.reset).1 fun b => by rw [State.reset_berth]; exact Berth.kept_clear
  refine ⟨⟨fun s => rfl, rfl, rfl, fun i => ?_, rfl, rfl, fun n => ?_, fun b => by cases b <;> rfl, rfl,
    fun j => ⟨?_, ?_⟩, rfl, rfl, fun l => ?_, rfl, fun p => by rcases p with _ | _ | _ <;> rfl, rfl⟩,
    State.roomKept_reset, settings, scores, stations, capacity, State.exchangeAgrees_reset, owners, State.linksAgree_reset,
    (State.pointed_iff _).1 State.pointed_reset, manifests, State.roomKept_reset.1, settings, scores, capacity, owners,
    manifests, State.offsetsInRange_reset, State.carriersAgree_reset, State.identitiesAgree_reset,
    State.pendingAgrees_reset, State.armedAgrees_reset, State.ticketsAgree_reset⟩
  · exact State.reset_point i
  · exact State.reset_station n
  · exact State.reset_lane j
  · exact State.reset_diverter j
  · exact State.reset_link l

end Sys2Proof.Machine

/-! SUPPORT. How commands are served, taken and answered (R171, R181, Table 10-2). -/

namespace Sys2Proof.Machine

/-! ## The rotation of service -/

theorem serviceOrder_eq (last : LinkNo) : serviceOrder last = [last + 1 + 0, last + 1 + 1, last + 1 + 2, last + 1 + 3] := by
  decide +revert

theorem State.nextFrame_none {s : State} (h : ∀ l, (s.link l).queue = []) : s.nextFrame = none := by
  simp [State.nextFrame, h]

theorem State.nextFrame_some {s : State} {i : LinkNo} {f : CommandFrame} {rest : List CommandFrame}
    (hbefore : ∀ m, m < i → (s.link (s.lastServed + 1 + m)).queue = [])
    (h : (s.link (s.lastServed + 1 + i)).queue = f :: rest) : s.nextFrame = some (s.lastServed + 1 + i, f) := by
  rw [State.nextFrame, serviceOrder_eq]
  have skip (m : LinkNo) (hm : m < i) :
      ((s.link (s.lastServed + 1 + m)).queue.head?.map fun f => (s.lastServed + 1 + m, f)) = none := by
    rw [hbefore m hm]; rfl
  have hit : ((s.link (s.lastServed + 1 + i)).queue.head?.map fun f => (s.lastServed + 1 + i, f))
      = some (s.lastServed + 1 + i, f) := by
    rw [h]; rfl
  simp only [List.findSome?_cons]
  fin_cases i
  · rw [show s.lastServed + 1 + 0 = s.lastServed + 1 + (⟨0, by omega⟩ : LinkNo) from rfl, hit]
  · rw [skip 0 (by decide), show s.lastServed + 1 + 1 = s.lastServed + 1 + (⟨1, by omega⟩ : LinkNo) from rfl, hit]
  · rw [skip 0 (by decide), skip 1 (by decide),
      show s.lastServed + 1 + 2 = s.lastServed + 1 + (⟨2, by omega⟩ : LinkNo) from rfl, hit]
  · rw [skip 0 (by decide), skip 1 (by decide), skip 2 (by decide),
      show s.lastServed + 1 + 3 = s.lastServed + 1 + (⟨3, by omega⟩ : LinkNo) from rfl, hit]

theorem State.refuseFrame_eq (s : State) (l : LinkNo) (f : CommandFrame) :
    s.refuseFrame l f = (s.setLastServed l).replyRefused l f.tag f.kind.toNat
      (if (s.link l).state = .idle ∧ f.kind ≠ 0x2C ∧ f.kind ≠ 0x2E then .notAttached else .badValue) := by
  simp only [State.refuseFrame, attachKind, linkCheckKind, not_or, ne_eq]

/-- Settles O2: the first link in rotation whose queue is not empty is found by the search of `nextFrame`. -/
theorem processorServesInRotation : Obligations.ProcessorServesInRotation := by
  intro s hs
  refine ⟨fun hnone => ?_, fun i f rest hbefore h => ?_⟩
  · simp only [step, hs, serve, State.nextFrame_none hnone]
  · have popped : s.popFrame (s.lastServed + 1 + i)
        = s.setLink (s.lastServed + 1 + i) { s.link (s.lastServed + 1 + i) with queue := rest } := by
      rw [State.popFrame, h]; rfl
    refine ⟨fun c hc => ?_, fun hc => ?_⟩
    · simp only [step, hs, serve, State.nextFrame_some hbefore h, hc, popped]
    · simp only [step, hs, serve, State.nextFrame_some hbefore h, hc, popped, State.refuseFrame_eq, State.link_setLink]

/-! ## What a body answers -/

/-- What the rules ask of the body of a command of a code: it refuses those without authority (Table 10-2), and gives no
link a frame (R171). -/
structure Answers (code : Nat) (body : Principal → State → Taken) : Prop where
  hall : code ∈ hallCodes → ∀ b s, body (.berth b) s = .refused .notPermitted
  berth : code ∈ berthCodes → ∀ s, body .hall s = .refused .notPermitted
  quiet : ∀ p s t data, body p s = .ok t data → t.lastServed = s.lastServed ∧ ∀ m, (t.link m).replies = (s.link m).replies

theorem State.TakenBy.replies {s t : State} {x : Taken} {data : List Byte} (h : s.TakenBy x) (hx : x = .ok t data) :
    t.lastServed = s.lastServed ∧ ∀ m, (t.link m).replies = (s.link m).replies := by
  subst hx
  obtain ⟨hl, hs⟩ := Acts.links_eq h
  exact ⟨hs, fun m => by rw [State.link_eq_of_links hl]⟩

/-- A command of HALL alone (Table 10-2). -/
theorem Answers.ofHall {code : Nat} {body : Principal → State → Taken} (hb : code ∉ berthCodes)
    (h : ∀ b s, body (.berth b) s = .refused .notPermitted) (ht : ∀ (s : State) p, s.TakenBy (body p s)) :
    Answers code body :=
  ⟨fun _ => h, fun hc => absurd hc hb, fun p s _ _ hx => (ht s p).replies hx⟩

/-- A command of a berth principal alone (Table 10-2). -/
theorem Answers.ofBerth {code : Nat} {body : Principal → State → Taken} (hh : code ∉ hallCodes)
    (h : ∀ s, body .hall s = .refused .notPermitted) (ht : ∀ (s : State) p, s.TakenBy (body p s)) : Answers code body :=
  ⟨fun hc => absurd hc hh, fun _ => h, fun p s _ _ hx => (ht s p).replies hx⟩

/-- A command that any attached principal may give (Table 10-2). -/
theorem Answers.ofAny {code : Nat} {body : Principal → State → Taken} (hh : code ∉ hallCodes) (hb : code ∉ berthCodes)
    (ht : ∀ (s : State) p, s.TakenBy (body p s)) : Answers code body :=
  ⟨fun hc => absurd hc hh, fun hc => absurd hc hb, fun p s _ _ hx => (ht s p).replies hx⟩

theorem State.replies_setLink {s : State} (l : LinkNo) {x : Link} (hx : x.replies = (s.link l).replies) (m : LinkNo) :
    ((s.setLink l x).link m).replies = (s.link m).replies := by
  by_cases hm : m = l
  · subst hm; rw [State.link_setLink]; exact hx
  · rw [State.link_setLink_ne _ _ hm]

@[simp] theorem State.link_post (s : State) (p : Principal) (body : NoticeBody) (m : LinkNo) :
    (s.post p body).link m = s.link m := by
  rw [State.post, State.link_setPrincipal]

theorem State.lastServed_post (s : State) (p : Principal) (body : NoticeBody) : (s.post p body).lastServed = s.lastServed := by
  rw [State.post, State.setPrincipal_lastServed]

theorem State.replies_detachLink (s : State) (l : LinkNo) (p : Principal) (cause : LinkCause) (m : LinkNo) :
    ((s.detachLink l p cause).link m).replies = (s.link m).replies := by
  rw [State.detachLink, State.postLinkState, State.link_post]
  exact State.replies_setLink l (by rfl) m

theorem State.lastServed_detachLink (s : State) (l : LinkNo) (p : Principal) (cause : LinkCause) :
    (s.detachLink l p cause).lastServed = s.lastServed := by
  rw [State.detachLink, State.postLinkState, State.lastServed_post]; rfl

theorem answers_detach (l : LinkNo) :
    Answers 0x2D fun p s => .ok (s.detachLink l p .detached) (bytesOf 1 l.val ++ bytesOf 1 p.code) := by
  refine ⟨fun h => absurd h (by decide), fun h => absurd h (by decide), fun p s t data h => ?_⟩
  obtain ⟨rfl, -⟩ := Taken.ok.inj h
  exact ⟨s.lastServed_detachLink _ _ _, s.replies_detachLink _ _ _⟩

theorem State.replies_restoreLink (s : State) (l : LinkNo) :
    (s.restoreLink l).lastServed = s.lastServed ∧ ∀ m, ((s.restoreLink l).link m).replies = (s.link m).replies := by
  unfold State.restoreLink
  split
  · rw [State.postLinkState, State.lastServed_post]
    exact ⟨rfl, fun m => by rw [State.link_post]; exact State.replies_setLink l (by rfl) m⟩
  all_goals exact ⟨rfl, State.replies_setLink l (by rfl)⟩

theorem answers_restoreLink (n : Nat) : Answers 0x2F (restoreLinkBody n) := by
  refine ⟨fun _ b s => rfl, fun h => absurd h (by decide), fun p s t data h => ?_⟩
  unfold restoreLinkBody at h
  split at h
  · cases h
  split at h
  · cases h
  · obtain ⟨rfl, -⟩ := Taken.ok.inj h
    exact s.replies_restoreLink _

theorem State.replies_permit (s : State) (l : LinkNo) (q : Principal) (flag : Bool) :
    (s.permit l q flag).lastServed = s.lastServed ∧ ∀ m, ((s.permit l q flag).link m).replies = (s.link m).replies := by
  have stored (m : LinkNo) : ((s.setLink l { s.link l with allowed := (s.link l).allowed.store q flag }).link m).replies
      = (s.link m).replies := State.replies_setLink l (by rfl) m
  unfold State.permit
  dsimp only
  split
  · exact ⟨State.lastServed_detachLink _ _ _ _, fun m => (State.replies_detachLink _ _ _ _ m).trans (stored m)⟩
  · exact ⟨rfl, stored⟩

theorem answers_setLinkPermission (n q : Nat) (flag : Bool) : Answers 0x30 (setLinkPermissionBody n q flag) := by
  refine ⟨fun _ b s => rfl, fun h => absurd h (by decide), fun p s t data h => ?_⟩
  unfold setLinkPermissionBody at h
  split at h
  · cases h
  split at h
  · split at h
    · cases h
    · obtain ⟨rfl, -⟩ := Taken.ok.inj h
      exact s.replies_permit _ _ _
  · cases h

/-- Every command but ATTACH and LINK CHECK is taken as R171 has it. -/
theorem exec_command {c : Instr} {l : LinkNo} {tag : Byte} {code : Nat} (hc : c.header = some (l, tag, code))
    (hopen : code ∉ openCodes) (s : State) :
    ∃ body, Answers code body ∧ exec c s = .next (s.takeCommand l tag code body) := by
  cases c <;> simp only [Instr.header, Option.some.injEq, Prod.mk.injEq, reduceCtorEq] at hc
  all_goals obtain ⟨rfl, rfl, rfl⟩ := hc
  case configureLoop => exact ⟨_, .ofHall (by decide) (fun _ _ => rfl) (fun s => s.takenBy_configureLoop _ _), rfl⟩
  case queryPosition => exact ⟨_, .ofAny (by decide) (by decide) fun s _ => s.takenBy_same _, rfl⟩
  case queryCarrier => exact ⟨_, .ofAny (by decide) (by decide) fun s => s.takenBy_queryCarrier _, rfl⟩
  case configureInductionPoint =>
    exact ⟨_, .ofHall (by decide) (fun _ _ => rfl) (fun s => s.takenBy_configureInductionPoint _ _ _ _), rfl⟩
  case setLoadLimit => exact ⟨_, .ofHall (by decide) (fun _ _ => rfl) (fun s => s.takenBy_setLoadLimit _), rfl⟩
  case setStarveLimit => exact ⟨_, .ofHall (by decide) (fun _ _ => rfl) (fun s => s.takenBy_setStarveLimit _), rfl⟩
  case queryInduction => exact ⟨_, .ofAny (by decide) (by decide) fun s _ => s.takenBy_same _, rfl⟩
  case configureReadStation =>
    exact ⟨_, .ofHall (by decide) (fun _ _ => rfl) (fun s => s.takenBy_configureReadStation _ _ _ _ _), rfl⟩
  case setReadVoting => exact ⟨_, .ofHall (by decide) (fun _ _ => rfl) (fun s => s.takenBy_setReadVoting _ _ _), rfl⟩
  case restoreHead => exact ⟨_, .ofHall (by decide) (fun _ _ => rfl) (fun s => s.takenBy_restoreHead _ _), rfl⟩
  case queryReadStation => exact ⟨_, .ofAny (by decide) (by decide) fun s => s.takenBy_queryReadStation _, rfl⟩
  case openBerth => exact ⟨_, .ofHall (by decide) (fun _ _ => rfl) (fun s => s.takenBy_openBerth _ _), rfl⟩
  case closeSailing => exact ⟨_, .ofBerth (by decide) (fun _ => rfl) (fun s => s.takenBy_closeSailing), rfl⟩
  case forceClose => exact ⟨_, .ofHall (by decide) (fun _ _ => rfl) (fun s => s.takenBy_forceClose _), rfl⟩
  case loadCabin => exact ⟨_, .ofBerth (by decide) (fun _ => rfl) (fun s => s.takenBy_loadCabin _ _ _), rfl⟩
  case setCabinHold => exact ⟨_, .ofBerth (by decide) (fun _ => rfl) (fun s => s.takenBy_setCabinHold _ _), rfl⟩
  case loadTag => exact ⟨_, .ofBerth (by decide) (fun _ => rfl) (fun s => s.takenBy_loadTag _ _), rfl⟩
  case moveTag => exact ⟨_, .ofBerth (by decide) (fun _ => rfl) (fun s => s.takenBy_moveTag _ _), rfl⟩
  case withdrawTag => exact ⟨_, .ofBerth (by decide) (fun _ => rfl) (fun s => s.takenBy_withdrawTag _), rfl⟩
  case releaseHoldBag => exact ⟨_, .ofBerth (by decide) (fun _ => rfl) (fun s => s.takenBy_releaseHoldBag _), rfl⟩
  case setDeckGroup => exact ⟨_, .ofBerth (by decide) (fun _ => rfl) (fun s => s.takenBy_setDeckGroup _ _), rfl⟩
  case queryTag => exact ⟨_, .ofAny (by decide) (by decide) fun s => s.takenBy_queryTag _ _, rfl⟩
  case queryCabin => exact ⟨_, .ofAny (by decide) (by decide) fun s => s.takenBy_queryCabin _ _, rfl⟩
  case queryBerth => exact ⟨_, .ofAny (by decide) (by decide) fun s => s.takenBy_queryBerth _, rfl⟩
  case setLapLimits => exact ⟨_, .ofHall (by decide) (fun _ _ => rfl) (fun s => s.takenBy_setLapLimits _ _), rfl⟩
  case queryPending => exact ⟨_, .ofAny (by decide) (by decide) fun s _ => s.takenBy_same _, rfl⟩
  case configureLane => exact ⟨_, .ofHall (by decide) (fun _ _ => rfl) (fun s => s.takenBy_configureLane _ _ _), rfl⟩
  case setLaneCapacity => exact ⟨_, .ofHall (by decide) (fun _ _ => rfl) (fun s => s.takenBy_setLaneCapacity _ _), rfl⟩
  case claimLane => exact ⟨_, .ofBerth (by decide) (fun _ => rfl) (fun s => s.takenBy_claimLane _), rfl⟩
  case releaseLane => exact ⟨_, .ofBerth (by decide) (fun _ => rfl) (fun s => s.takenBy_releaseLane _), rfl⟩
  case reclaimLane => exact ⟨_, .ofHall (by decide) (fun _ _ => rfl) (fun s => s.takenBy_reclaimLane _), rfl⟩
  case openLane => exact ⟨_, .ofAny (by decide) (by decide) fun s => s.takenBy_openLane _, rfl⟩
  case closeLane => exact ⟨_, .ofAny (by decide) (by decide) fun s => s.takenBy_closeLane _, rfl⟩
  case setLaneFunction => exact ⟨_, .ofAny (by decide) (by decide) fun s => s.takenBy_setLaneFunction _ _, rfl⟩
  case setLaneGroup => exact ⟨_, .ofBerth (by decide) (fun _ => rfl) (fun s => s.takenBy_setLaneGroup _ _), rfl⟩
  case resetLaneFault => exact ⟨_, .ofHall (by decide) (fun _ _ => rfl) (fun s => s.takenBy_resetLaneFault _), rfl⟩
  case queryLane => exact ⟨_, .ofAny (by decide) (by decide) fun s => s.takenBy_queryLane _, rfl⟩
  case queryDiversion => exact ⟨_, .ofAny (by decide) (by decide) fun s => s.takenBy_queryDiversion _, rfl⟩
  case queryStrays => exact ⟨_, .ofAny (by decide) (by decide) fun s _ => s.takenBy_same _, rfl⟩
  case setMode => exact ⟨_, .ofHall (by decide) (fun _ _ => rfl) (fun s => s.takenBy_setMode _), rfl⟩
  case forceSetup => exact ⟨_, .ofHall (by decide) (fun _ _ => rfl) (fun s => s.takenBy_forceSetup), rfl⟩
  case clearSort => exact ⟨_, .ofHall (by decide) (fun _ _ => rfl) (fun s => s.takenBy_clearSort), rfl⟩
  case queryMode => exact ⟨_, .ofAny (by decide) (by decide) fun s _ => s.takenBy_same _, rfl⟩
  case attach => exact absurd (by decide) hopen
  case detach => exact ⟨_, answers_detach _, rfl⟩
  case linkCheck => exact absurd (by decide) hopen
  case restoreLink => exact ⟨_, answers_restoreLink _, rfl⟩
  case setLinkPermission => exact ⟨_, answers_setLinkPermission _ _ _, rfl⟩
  case setNoticeClasses => exact ⟨_, .ofAny (by decide) (by decide) fun s => s.takenBy_setNoticeClasses _, rfl⟩
  case queryLinks => exact ⟨_, .ofAny (by decide) (by decide) fun s _ => s.takenBy_same _, rfl⟩

/-- ATTACH and LINK CHECK, by their codes. -/
theorem exec_open {c : Instr} {l : LinkNo} {tag : Byte} {code : Nat} (hc : c.header = some (l, tag, code))
    (hopen : code ∈ openCodes) : (code = 0x2C ∧ ∃ n, c = .attach l tag n) ∨ (code = 0x2E ∧ c = .linkCheck l tag) := by
  cases c <;> simp only [Instr.header, Option.some.injEq, Prod.mk.injEq, reduceCtorEq] at hc
  all_goals obtain ⟨rfl, rfl, rfl⟩ := hc
  case attach n => exact .inl ⟨rfl, n, rfl⟩
  case linkCheck => exact .inr ⟨rfl, rfl⟩
  all_goals exact absurd hopen (by decide)

theorem not_open_of_hall {code : Nat} (h : code ∈ hallCodes) : code ∉ openCodes := by
  revert code; decide

theorem not_open_of_berth {code : Nat} (h : code ∈ berthCodes) : code ∉ openCodes := by
  revert code; decide

theorem execAttach_muted {s : State} {l : LinkNo} (h : (s.link l).state = .muted) (tag : Byte) (n : Nat) :
    execAttach l tag n s = .next s := by
  simp only [execAttach, h]

/-- Settles O13. -/
theorem authorityIsChecked : Obligations.AuthorityIsChecked := by
  intro c s l tag code hc
  refine ⟨fun hl hne => ?_, fun hl hopen => ?_, fun b hl hhall => ?_, fun hl hberth => ?_⟩
  · by_cases hopen : code ∈ openCodes
    · rcases exec_open hc hopen with ⟨_, n, rfl⟩ | ⟨h, _⟩
      · exact execAttach_muted hl tag n
      · exact absurd h hne
    · obtain ⟨body, -, hx⟩ := exec_command hc hopen s
      rw [hx, State.takeCommand_muted hl]
  · obtain ⟨body, -, hx⟩ := exec_command hc hopen s
    rw [hx, State.takeCommand_idle hl]
  · obtain ⟨body, ha, hx⟩ := exec_command hc (not_open_of_hall hhall) s
    rw [hx, State.takeCommand_refused hl (ha.hall hhall b _)]
  · obtain ⟨body, ha, hx⟩ := exec_command hc (not_open_of_berth hberth) s
    rw [hx, State.takeCommand_refused hl (ha.berth hberth _)]

/-! ## The parts of a reply (R181) -/

theorem cutParts_ne_nil (fuel : Nat) (data : List Byte) : cutParts fuel data ≠ [] := by
  cases fuel with
  | zero => simp [cutParts]
  | succ n => unfold cutParts; split <;> simp

theorem flatten_cutParts (fuel : Nat) (data : List Byte) : (cutParts fuel data).flatten = data := by
  induction fuel generalizing data with
  | zero => simp [cutParts]
  | succ n ih =>
    unfold cutParts
    split
    · simp
    · rw [List.flatten_cons, ih, List.take_append_drop]

theorem of_getElem?_singleton {α : Type} {a b : α} {i : Nat} (h : [a][i]? = some b) : i = 0 ∧ a = b := by
  cases i with
  | zero => exact ⟨rfl, by simpa using h⟩
  | succ i => simp at h

/-- Every part but the last has 55 bytes, and the last at most 55. -/
theorem length_cutParts {fuel : Nat} {data : List Byte} (hfuel : data.length ≤ 55 * (fuel + 1)) {i : Nat} {part : List Byte}
    (h : (cutParts fuel data)[i]? = some part) :
    part.length ≤ 55 ∧ (i + 1 < (cutParts fuel data).length → part.length = 55) := by
  induction fuel generalizing data i with
  | zero =>
    simp only [cutParts] at h ⊢
    obtain ⟨rfl, rfl⟩ := of_getElem?_singleton h
    exact ⟨by omega, fun h => by simp at h⟩
  | succ n ih =>
    unfold cutParts at h ⊢
    split at h
    next hle =>
      obtain ⟨rfl, rfl⟩ := of_getElem?_singleton h
      rw [if_pos hle]
      exact ⟨hle, fun h => by simp at h⟩
    next hgt =>
      rw [if_neg hgt]
      cases i with
      | zero =>
        obtain rfl : data.take 55 = part := by simpa using h
        have : (data.take 55).length = 55 := by rw [List.length_take]; omega
        exact ⟨le_of_eq this, fun _ => this⟩
      | succ i =>
        rw [List.getElem?_cons_succ] at h
        rw [List.length_cons]
        obtain ⟨h1, h2⟩ := ih (by rw [List.length_drop]; omega) h
        exact ⟨h1, fun hi => h2 (by omega)⟩

theorem length_okFrames (tag : Byte) (code : Nat) (data : List Byte) :
    (okFrames tag code data).length = (cutParts data.length data).length := by
  simp [okFrames]

theorem okFrames_getElem? (tag : Byte) (code : Nat) (data : List Byte) (i : Nat) :
    (okFrames tag code data)[i]? = (cutParts data.length data)[i]?.map fun bytes =>
      ⟨0x80, tag, BitVec.ofNat 8 code :: partByte i (i + 1 == (cutParts data.length data).length) :: bytes, 0 < i⟩ := by
  simp only [okFrames, List.getElem?_map, List.getElem?_zipIdx]
  cases (cutParts data.length data)[i]? <;> simp

theorem flatten_okFrames (tag : Byte) (code : Nat) (data : List Byte) :
    ((okFrames tag code data).map fun f => f.fields.drop 2).flatten = data := by
  have parts : ((okFrames tag code data).map fun f => f.fields.drop 2) = cutParts data.length data := by
    refine List.ext_getElem? fun i => ?_
    rw [List.getElem?_map, okFrames_getElem?, Option.map_map]
    cases (cutParts data.length data)[i]? <;> simp
  rw [parts, flatten_cutParts]

/-! ## Every command is answered -/

@[simp] theorem State.lastServed_addReplies (s : State) (l : LinkNo) (frames : List OutFrame) :
    (s.addReplies l frames).lastServed = s.lastServed := rfl

@[simp] theorem State.replies_addReplies (s : State) (l : LinkNo) (frames : List OutFrame) :
    ((s.addReplies l frames).link l).replies = (s.link l).replies ++ frames := by
  rw [State.addReplies, State.link_setLink]

theorem State.replies_addReplies_ne (s : State) {l m : LinkNo} (h : m ≠ l) (frames : List OutFrame) :
    ((s.addReplies l frames).link m).replies = (s.link m).replies := by
  rw [State.addReplies, State.link_setLink_ne _ _ h]

theorem State.attachLink_keeps {s : State} {l : LinkNo} (p : Principal) (h : (s.link l).state = .idle) :
    (s.attachLink l p).lastServed = s.lastServed ∧ ((s.attachLink l p).link l).replies = (s.link l).replies := by
  unfold State.attachLink
  rw [State.postLinkState, State.lastServed_post, State.link_post]
  dsimp only
  cases hold : s.linkOfPrincipal p with
  | none => exact ⟨rfl, by rw [State.link_setLink]⟩
  | some m =>
    have hm : (s.link m).state = .attached p := by simpa using List.find?_some hold
    have hlm : l ≠ m := by rintro rfl; simp [h] at hm
    refine ⟨rfl, ?_⟩
    rw [State.link_setLink]
    show ((s.displace m p l).link l).replies = (s.link l).replies
    rw [State.link_displace_ne s p l hlm]

theorem State.attach_keeps {s t : State} {l : LinkNo} {n : Nat} {data : List Byte} (h : s.attach l n = .ok t data) :
    t.lastServed = s.lastServed ∧ (t.link l).replies = (s.link l).replies := by
  unfold State.attach at h
  split at h
  · cases h
  split at h
  · cases h
  split at h
  · split at h
    · obtain ⟨rfl, -⟩ := Taken.ok.inj h; exact ⟨rfl, rfl⟩
    · cases h
  next hidle => obtain ⟨rfl, -⟩ := Taken.ok.inj h; exact s.attachLink_keeps _ hidle
  · obtain ⟨rfl, -⟩ := Taken.ok.inj h; exact ⟨rfl, rfl⟩

/-- What R171 asks of a command that is answered: its link becomes the last served, and gets one reply. -/
structure State.AnsweredBy (s : State) (l : LinkNo) (tag : Byte) (code : Nat) (t : State) : Prop where
  served : t.lastServed = l
  reply : (∃ r, t = (s.setLastServed l).replyRefused l tag code r)
    ∨ ∃ data, (t.link l).replies = (s.link l).replies ++ okFrames tag code data
  others : ∀ m, m ≠ l → code ≠ 0x2C → (t.link m).replies = (s.link m).replies

theorem State.answeredBy_refused (s : State) (l : LinkNo) (tag : Byte) (code : Nat) (r : RefusalCode) :
    s.AnsweredBy l tag code ((s.setLastServed l).replyRefused l tag code r) :=
  ⟨rfl, .inl ⟨r, rfl⟩, fun _ hm _ => State.replies_addReplies_ne _ hm _⟩

theorem State.answeredBy_ok {s t : State} {l : LinkNo} (tag : Byte) (code : Nat) (data : List Byte)
    (hserved : t.lastServed = l) (hl : (t.link l).replies = (s.link l).replies)
    (hm : code ≠ 0x2C → ∀ m, (t.link m).replies = (s.link m).replies) :
    s.AnsweredBy l tag code (t.replyOk l tag code data) :=
  ⟨hserved, .inr ⟨data, by rw [State.replyOk, State.replies_addReplies, hl]⟩,
    fun m h hc => (State.replies_addReplies_ne t h _).trans (hm hc m)⟩

theorem State.answeredBy_attach (s : State) (l : LinkNo) (tag : Byte) (n : Nat) (hl : (s.link l).state ≠ .muted) :
    ∃ t, execAttach l tag n s = .next t ∧ s.AnsweredBy l tag 0x2C t := by
  refine ⟨_, rfl, ?_⟩
  split
  next h => exact absurd h hl
  next =>
    split
    next r _ => exact s.answeredBy_refused l tag _ r
    next h =>
      obtain ⟨hserved, hreplies⟩ := State.attach_keeps h
      exact State.answeredBy_ok tag _ _ hserved hreplies (fun h => absurd rfl h)

theorem State.answeredBy_linkCheck (s : State) (l : LinkNo) (tag : Byte) (hl : (s.link l).state ≠ .muted) :
    ∃ t, execLinkCheck l tag s = .next t ∧ s.AnsweredBy l tag 0x2E t := by
  have checked : s.AnsweredBy l tag 0x2E (s.linkCheckReply l tag) := State.answeredBy_ok tag _ _ rfl rfl fun _ _ => rfl
  refine ⟨_, rfl, ?_⟩
  split
  next h => exact absurd h hl
  · exact checked
  · exact checked

theorem exec_answered {c : Instr} {s : State} {l : LinkNo} {tag : Byte} {code : Nat}
    (hc : c.header = some (l, tag, code)) (hl : (s.link l).state ≠ .muted) :
    ∃ t, exec c s = .next t ∧ s.AnsweredBy l tag code t := by
  by_cases hopen : code ∈ openCodes
  · rcases exec_open hc hopen with ⟨rfl, n, rfl⟩ | ⟨rfl, rfl⟩
    · exact s.answeredBy_attach l tag n hl
    · exact s.answeredBy_linkCheck l tag hl
  · obtain ⟨body, ha, hx⟩ := exec_command hc hopen s
    refine ⟨_, hx, ?_⟩
    rcases s.takeCommand_cases l tag code body with ⟨hm, _⟩ | ⟨r, _, ht⟩ | ⟨p, t, data, _, hb, ht⟩
    · exact absurd hm hl
    · rw [ht]; exact s.answeredBy_refused l tag code r
    · rw [ht]
      obtain ⟨hserved, hreplies⟩ := ha.quiet p _ t data hb
      exact State.answeredBy_ok tag code data hserved (hreplies l) fun _ => hreplies

/-- Settles O14: the replies of every command, and the cut of a reply into parts. -/
theorem everyCommandIsAnsweredOnce : Obligations.EveryCommandIsAnsweredOnce := by
  refine ⟨fun c s l tag code hc hl => ?_, fun s l tag code r => rfl, fun s l tag code data => rfl,
    fun tag code data => ⟨?_, flatten_okFrames tag code data, fun i f hf => ?_⟩⟩
  · obtain ⟨t, ht, h⟩ := exec_answered hc hl
    exact ⟨t, ht, h.served, h.reply, h.others⟩
  · rw [ne_eq, ← List.length_eq_zero_iff, length_okFrames, List.length_eq_zero_iff]
    exact cutParts_ne_nil _ _
  · rw [okFrames_getElem?] at hf
    obtain ⟨part, hpart, rfl⟩ := Option.map_eq_some_iff.1 hf
    obtain ⟨hle, hfull⟩ := length_cutParts (by omega) hpart
    rw [length_okFrames]
    refine ⟨rfl, rfl, by simp, ?_, hle, hfull⟩
    simp [partByte]

end Sys2Proof.Machine

/-! SUPPORT. Frames, fields and records: what is written is read back (chapter 11). -/

namespace Sys2Proof.Machine

/-! ## Fields -/

@[simp] theorem length_bytesOf (w n : Nat) : (bytesOf w n).length = w := by
  induction w with
  | zero => rfl
  | succ w ih => simp [bytesOf, ih]

theorem foldl_numberOf (bytes : List Byte) (a : Nat) :
    bytes.foldl (fun n b => n * 256 + b.toNat) a = a * 256 ^ bytes.length + numberOf bytes := by
  induction bytes generalizing a with
  | nil => simp [numberOf]
  | cons b bytes ih =>
    simp only [numberOf, List.foldl_cons, List.length_cons]
    rw [ih, ih (0 * 256 + b.toNat)]
    ring

theorem numberOf_bytesOf {w n : Nat} (h : n < 256 ^ w) : numberOf (bytesOf w n) = n := by
  have key (w n : Nat) : numberOf (bytesOf w n) = n % 256 ^ w := by
    induction w with
    | zero => simp [bytesOf, numberOf, Nat.mod_one]
    | succ w ih =>
      rw [numberOf, bytesOf, List.foldl_cons, foldl_numberOf, ih, length_bytesOf, BitVec.toNat_ofNat, Nat.pow_succ 256 w,
        Nat.mod_mul (a := 256 ^ w) (b := 256)]
      ring
  rw [key, Nat.mod_eq_of_lt h]

/-- A field that holds a number is read as that number. -/
theorem readFields_nil : readFields [] [] = some [] := rfl

theorem readFields_bytesOf {w n : Nat} (h : n < 256 ^ w) (ws : List Nat) (rest : List Byte) :
    readFields (w :: ws) (bytesOf w n ++ rest) = (readFields ws rest).map (n :: ·) := by
  rw [readFields, if_neg (by simp), List.take_left' (length_bytesOf w n), List.drop_left' (length_bytesOf w n),
    numberOf_bytesOf h]

theorem readFields_bytesOf_last {w n : Nat} (h : n < 256 ^ w) : readFields [w] (bytesOf w n) = some [n] := by
  rw [← List.append_nil (bytesOf w n), readFields_bytesOf h]
  rfl

theorem flagByte_eq (b : Bool) : flagByte b = bytesOf 1 b.toNat := by cases b <;> rfl

theorem readFlag_toNat (b : Bool) : readFlag b.toNat = some b := by cases b <;> rfl

theorem toNat_lt_256 (b : Bool) : b.toNat < 256 ^ 1 := by cases b <;> decide

theorem bytesOrFF_two (o : Option Nat) : bytesOrFF 2 o = bytesOf 2 (o.getD 0xFFFF) := by cases o <;> rfl
theorem bytesOrFF_one (o : Option Nat) : bytesOrFF 1 o = bytesOf 1 (o.getD 0xFF) := by cases o <;> rfl

theorem readOffset_getD {o : Option Nat} (h : fitsOffset o = true) : readOffset (o.getD 0xFFFF) = o := by
  cases o with
  | none => rfl
  | some n =>
    have : n < 0xFFFF := by simpa [fitsOffset] using h
    simp only [Option.getD_some, readOffset]
    exact if_neg (by omega)

theorem readOrNone_getD {o : Option Nat} (h : fitsOrNone o = true) : readOrNone (o.getD 0xFF) = o := by
  cases o with
  | none => rfl
  | some n =>
    have : n < 0xFF := by simpa [fitsOrNone] using h
    simp only [Option.getD_some, readOrNone]
    exact if_neg (by omega)

theorem lt_of_fitsOffset {o : Option Nat} (h : fitsOffset o = true) : o.getD 0xFFFF < 256 ^ 2 := by
  cases o with
  | none => decide
  | some n => have : n < 0xFFFF := by simpa [fitsOffset] using h
              simp only [Option.getD_some]; omega

theorem lt_of_fitsOrNone {o : Option Nat} (h : fitsOrNone o = true) : o.getD 0xFF < 256 ^ 1 := by
  cases o with
  | none => decide
  | some n => have : n < 0xFF := by simpa [fitsOrNone] using h
              simp only [Option.getD_some]; omega

theorem lt_of_fits1 {n : Nat} (h : fits1 n = true) : n < 256 ^ 1 := by simpa [fits1] using h
theorem lt_of_fits2 {n : Nat} (h : fits2 n = true) : n < 256 ^ 2 := by simpa [fits2] using h
theorem lt_of_fits3 {n : Nat} (h : fits3 n = true) : n < 256 ^ 3 := by simpa [fits3] using h

theorem readFields_one {n : Nat} (h : fits1 n = true) (ws : List Nat) (rest : List Byte) :
    readFields (1 :: ws) (bytesOf 1 n ++ rest) = (readFields ws rest).map (n :: ·) :=
  readFields_bytesOf (lt_of_fits1 h) ws rest

theorem readFields_two {n : Nat} (h : fits2 n = true) (ws : List Nat) (rest : List Byte) :
    readFields (2 :: ws) (bytesOf 2 n ++ rest) = (readFields ws rest).map (n :: ·) :=
  readFields_bytesOf (lt_of_fits2 h) ws rest

theorem readFields_three {n : Nat} (h : fits3 n = true) (ws : List Nat) (rest : List Byte) :
    readFields (3 :: ws) (bytesOf 3 n ++ rest) = (readFields ws rest).map (n :: ·) :=
  readFields_bytesOf (lt_of_fits3 h) ws rest

theorem readFields_offset {o : Option Nat} (h : fitsOffset o = true) (ws : List Nat) (rest : List Byte) :
    readFields (2 :: ws) (bytesOrFF 2 o ++ rest) = (readFields ws rest).map (o.getD 0xFFFF :: ·) := by
  rw [bytesOrFF_two, readFields_bytesOf (lt_of_fitsOffset h)]

theorem readFields_orNone {o : Option Nat} (h : fitsOrNone o = true) : readFields [1] (bytesOrFF 1 o) = some [o.getD 0xFF] := by
  rw [bytesOrFF_one, readFields_bytesOf_last (lt_of_fitsOrNone h)]

theorem readFields_flag (b : Bool) (ws : List Nat) (rest : List Byte) :
    readFields (1 :: ws) (flagByte b ++ rest) = (readFields ws rest).map (b.toNat :: ·) := by
  rw [flagByte_eq, readFields_bytesOf (toNat_lt_256 b)]

theorem readFields_one_last {n : Nat} (h : fits1 n = true) : readFields [1] (bytesOf 1 n) = some [n] :=
  readFields_bytesOf_last (lt_of_fits1 h)

theorem readFields_two_last {n : Nat} (h : fits2 n = true) : readFields [2] (bytesOf 2 n) = some [n] :=
  readFields_bytesOf_last (lt_of_fits2 h)

theorem readFields_flag_last (b : Bool) : readFields [1] (flagByte b) = some [b.toNat] := by
  rw [flagByte_eq, readFields_bytesOf_last (toNat_lt_256 b)]

theorem readFields_byte (c : Byte) : readFields [1] [c] = some [c.toNat] := by
  simp [readFields, numberOf]

/-- The selector and the value that an entry reference is written as (R180). -/
def refNumbers : EntryRef → Nat × Nat
  | .serial n => (0, n)
  | .index i => (1, i)

theorem readEntryRef_refNumbers {e : EntryRef} (h : e.fits = true) :
    readEntryRef (refNumbers e).1 (refNumbers e).2 = some e := by
  cases e with
  | serial n => rfl
  | index i =>
    have : i < 65536 := by simpa [EntryRef.fits, fits2] using h
    simp [refNumbers, readEntryRef, Nat.mod_eq_of_lt this]

theorem readFields_ref {e : EntryRef} (h : e.fits = true) (ws : List Nat) (rest : List Byte) :
    readFields (1 :: 3 :: ws) (refField e ++ rest)
      = (readFields ws rest).map fun ns => (refNumbers e).1 :: (refNumbers e).2 :: ns := by
  have hn : (refNumbers e).2 < 256 ^ 3 := by
    cases e with
    | serial n => exact lt_of_fits3 h
    | index i => have : i < 65536 := by simpa [EntryRef.fits, fits2] using h
                 simp only [refNumbers]; omega
  have hs : (refNumbers e).1 < 256 ^ 1 := by cases e <;> simp [refNumbers]
  have hw : refField e = bytesOf 1 (refNumbers e).1 ++ bytesOf 3 (refNumbers e).2 := by cases e <;> rfl
  rw [hw, List.append_assoc, readFields_bytesOf hs, readFields_bytesOf hn, Option.map_map]
  rfl

theorem readFields_ref_last {e : EntryRef} (h : e.fits = true) :
    readFields [1, 3] (refField e) = some [(refNumbers e).1, (refNumbers e).2] := by
  rw [← List.append_nil (refField e), readFields_ref h]
  rfl

theorem length_refField (e : EntryRef) : (refField e).length = 4 := by cases e <;> rfl

/-- A run of one-byte numbers. -/
theorem readFields_replicate {ps : List Nat} (h : ∀ n ∈ ps, fits1 n = true) (ws : List Nat) (rest : List Byte) :
    readFields (List.replicate ps.length 1 ++ ws) ((ps.map (bytesOf 1)).flatten ++ rest)
      = (readFields ws rest).map (ps ++ ·) := by
  induction ps with
  | nil => simp
  | cons p ps ih =>
    rw [List.length_cons, List.replicate_succ, List.cons_append, List.map_cons, List.flatten_cons, List.append_assoc,
      readFields_one (h p List.mem_cons_self), ih fun n hn => h n (List.mem_cons_of_mem p hn), Option.map_map]
    rfl

theorem readStationCommand_fields (l : LinkNo) (tag : Byte) {n h : Nat} {o : Option Nat} {ps : List Nat} (e : Bool)
    (hn : fits1 n = true) (ho : fitsOffset o = true) (hh : fits1 h = true) (hlen : ps.length ≤ 51)
    (hps : ∀ p ∈ ps, fits1 p = true) :
    readStationCommand l tag (commandFields (.configureReadStation l tag n o h ps e))
      = some (.configureReadStation l tag n o h ps e) := by
  have split : commandFields (.configureReadStation l tag n o h ps e)
      = (bytesOf 1 n ++ (bytesOrFF 2 o ++ (bytesOf 1 h ++ bytesOf 1 ps.length)))
        ++ ((ps.map (bytesOf 1)).flatten ++ flagByte e) := by
    simp only [commandFields, List.append_assoc]
  have five : (bytesOf 1 n ++ (bytesOrFF 2 o ++ (bytesOf 1 h ++ bytesOf 1 ps.length))).length = 5 := by
    rw [bytesOrFF_two]; simp
  have hcount : fits1 ps.length = true := by simp only [fits1, decide_eq_true_eq]; omega
  rw [readStationCommand, split, List.take_left' five, List.drop_left' five, readFields_one hn, readFields_offset ho,
    readFields_one hh, readFields_one_last hcount]
  simp only [Option.map_some, Option.bind_some]
  rw [readFields_replicate hps, readFields_flag_last]
  simp [readFlag_toNat, readOffset_getD ho]

/-- Settles O16: a command's fields are read one after the other, each as the number that was written. -/
theorem commandsReadBack : Obligations.CommandsReadBack := by
  intro c l tag code hc hw
  cases c <;> simp only [Instr.header, Option.some.injEq, Prod.mk.injEq, reduceCtorEq] at hc
  all_goals obtain ⟨rfl, rfl, rfl⟩ := hc
  all_goals simp only [Instr.wellFormed, Bool.and_eq_true, List.all_eq_true, decide_eq_true_eq] at hw
  case configureReadStation l tag n o h ps e =>
    obtain ⟨⟨⟨⟨hn, ho⟩, hh⟩, hlen⟩, hps⟩ := hw
    simpa [decodeCommand] using readStationCommand_fields l tag e hn ho hh hlen hps
  case queryTag b e =>
    cases b <;> simp_all [decodeCommand, commandFields, length_refField, readFields_one, readFields_ref_last, readEntryRef_refNumbers]
  case queryCabin b c =>
    cases b <;> simp_all [decodeCommand, commandFields, readFields_one, readFields_two_last]
  all_goals
    simp [decodeCommand, commandFields, readFields_one, readFields_two, readFields_three, readFields_offset,
      readFields_orNone, readFields_flag, readFields_one_last, readFields_two_last, readFields_flag_last, readFields_byte,
      readFields_ref, readFields_ref_last, readEntryRef_refNumbers, readOffset_getD, readOrNone_getD, readFlag_toNat,
      readFields_nil, hw]

end Sys2Proof.Machine

/-! SUPPORT. Good frames (R164, R165), and field records and orders (R182 to R184). -/

namespace Sys2Proof.Machine

/-! ## Sums of bytes -/

theorem foldl_byteSum (bytes : List Byte) (a : Byte) : bytes.foldl (· + ·) a = a + byteSum bytes := by
  induction bytes generalizing a with
  | nil => simp [byteSum]
  | cons b bytes ih =>
    simp only [byteSum, List.foldl_cons]
    rw [ih, ih (0 + b), zero_add, add_assoc]

theorem byteSum_cons (b : Byte) (bytes : List Byte) : byteSum (b :: bytes) = b + byteSum bytes := by
  rw [byteSum, List.foldl_cons, foldl_byteSum, zero_add]

theorem byteSum_append (xs ys : List Byte) : byteSum (xs ++ ys) = byteSum xs + byteSum ys := by
  rw [byteSum, List.foldl_append, foldl_byteSum]; rfl

theorem byteSum_checked (bytes : List Byte) : byteSum (bytes ++ [checkByte bytes]) = 0 := by
  rw [byteSum_append, byteSum_cons, checkByte]
  show byteSum bytes + (0 - byteSum bytes + byteSum []) = 0
  simp [byteSum]

theorem eq_checkByte {bytes : List Byte} {b : Byte} (h : byteSum (bytes ++ [b]) = 0) : b = checkByte bytes := by
  rw [byteSum_append] at h
  have hb : byteSum [b] = b := by simp [byteSum]
  rw [hb] at h
  rw [checkByte, ← h]
  simp

/-! ## Characters -/

theorem cleanChar_byte (c : RxChar) (h : c.hasError = false) : cleanChar c.byte = c := by
  obtain ⟨b, p, f⟩ := c
  simp only [RxChar.hasError, Bool.or_eq_false_iff] at h
  obtain ⟨rfl, rfl⟩ := h
  rfl

theorem isMark_iff (mark : Byte) (c : RxChar) : c.isMark mark = true ↔ c = cleanChar mark := by
  obtain ⟨b, p, f⟩ := c
  cases p <;> cases f <;> simp [RxChar.isMark, RxChar.hasError, cleanChar]

theorem map_cleanChar {cs : List RxChar} (h : ∀ c ∈ cs, c.hasError = false) : (cs.map RxChar.byte).map cleanChar = cs := by
  rw [List.map_map]
  exact (List.map_congr_left fun c hc => cleanChar_byte c (h c hc)).trans (List.map_id cs)

theorem map_byte_cleanChar (bytes : List Byte) : (bytes.map cleanChar).map RxChar.byte = bytes := by
  rw [List.map_map]
  exact (List.map_congr_left fun b _ => rfl).trans (List.map_id bytes)

theorem any_hasError_cleanChar (bytes : List Byte) : (bytes.map cleanChar).any RxChar.hasError = false := by
  simp [List.any_map, Function.comp_def, cleanChar, RxChar.hasError]

/-- What is left from the first mark on. -/
theorem dropWhile_mark {mark : Byte} {before rest : List RxChar} (h : ∀ c ∈ before, c.isMark mark = false) :
    (before ++ cleanChar mark :: rest).dropWhile (fun c => !c.isMark mark) = cleanChar mark :: rest := by
  rw [List.dropWhile_append_of_pos fun c hc => by rw [h c hc]; rfl]
  exact List.dropWhile_cons_of_neg (by rw [(isMark_iff mark _).2 rfl]; decide)

/-- A run of characters that is not used up by the search for a mark. -/
theorem of_dropWhile_mark {mark : Byte} {cs rest : List RxChar} {c : RxChar}
    (h : cs.dropWhile (fun c => !c.isMark mark) = c :: rest) :
    ∃ before, (∀ c ∈ before, c.isMark mark = false) ∧ cs = before ++ cleanChar mark :: rest := by
  refine ⟨cs.takeWhile fun c => !c.isMark mark, fun d hd => ?_, ?_⟩
  · simpa using List.mem_takeWhile_imp hd
  · have hc : c.isMark mark = true := by
      have hne : cs.dropWhile (fun c => !c.isMark mark) ≠ [] := by rw [h]; simp
      have := List.head_dropWhile_not _ hne
      simpa [h] using this
    rw [← (isMark_iff mark c).1 hc, ← h, List.takeWhile_append_dropWhile]

/-! ## Frames -/

/-- The judgement of what follows the start byte: the length byte and the rest (R165). -/
def judgeBody (length : RxChar) (rest : List RxChar) : FrameJudgement :=
  judgeFrame (cleanChar 0xC3 :: length :: rest)

theorem judgeFrame_of_dropWhile {cs : List RxChar} {c length : RxChar} {rest : List RxChar}
    (h : cs.dropWhile (fun c => !c.isMark 0xC3) = c :: length :: rest) : judgeFrame cs = judgeBody length rest := by
  have start : (cleanChar 0xC3 :: length :: rest).dropWhile (fun c => !c.isMark 0xC3) = cleanChar 0xC3 :: length :: rest :=
    dropWhile_mark (before := []) (by simp)
  rw [judgeBody, judgeFrame, judgeFrame, h, start]

theorem judgeBody_eq (length : RxChar) (rest : List RxChar) :
    judgeBody length rest =
      if length.hasError || (rest.take length.byte.toNat).any RxChar.hasError then .bad
      else if rest.length < length.byte.toNat then .incomplete
      else if length.byte.toNat < 3 ∨ 60 < length.byte.toNat then .bad
      else match (rest.take length.byte.toNat).map RxChar.byte with
        | kind :: tag :: tail =>
          if byteSum (length.byte :: kind :: tag :: tail) ≠ 0 then .bad
          else if !isCommandKind kind then .bad
          else .good ⟨kind, tag, tail.dropLast⟩
        | _ => .bad := by
  have start : (cleanChar 0xC3 :: length :: rest).dropWhile (fun c => !c.isMark 0xC3) = cleanChar 0xC3 :: length :: rest :=
    dropWhile_mark (before := []) (by simp)
  rw [judgeBody, judgeFrame, start] <;> rfl

/-- The bytes that a sender forms are judged to be the frame they were formed of. -/
theorem judgeBody_sent {kind tag : Byte} {fields : List Byte} (after : List RxChar) (hkind : isCommandKind kind = true)
    (hlen : fields.length ≤ 57) :
    judgeBody (cleanChar (BitVec.ofNat 8 (fields.length + 3)))
      ((kind :: tag :: (fields ++ [checkByte (BitVec.ofNat 8 (fields.length + 3) :: kind :: tag :: fields)])).map cleanChar
        ++ after) = .good ⟨kind, tag, fields⟩ := by
  set check := checkByte (BitVec.ofNat 8 (fields.length + 3) :: kind :: tag :: fields) with hcheck
  have hn : (cleanChar (BitVec.ofNat 8 (fields.length + 3))).byte.toNat = fields.length + 3 := by
    show (BitVec.ofNat 8 (fields.length + 3)).toNat = _
    rw [BitVec.toNat_ofNat]; omega
  have hbody : ((kind :: tag :: (fields ++ [check])).map cleanChar ++ after).take (fields.length + 3)
      = (kind :: tag :: (fields ++ [check])).map cleanChar := List.take_left' (by simp)
  have hsum : byteSum ((cleanChar (BitVec.ofNat 8 (fields.length + 3))).byte :: kind :: tag :: (fields ++ [check])) = 0 := by
    rw [hcheck]
    exact byteSum_checked (BitVec.ofNat 8 (fields.length + 3) :: kind :: tag :: fields)
  rw [judgeBody_eq, hn, hbody, any_hasError_cleanChar, if_neg (by simp [cleanChar, RxChar.hasError]),
    if_neg (by simp), if_neg (by omega), map_byte_cleanChar]
  simp only [hsum, hkind, ne_eq, not_true_eq_false, if_false, Bool.not_true, Bool.false_eq_true, List.dropLast_concat]

theorem of_judgeBody_good {length : RxChar} {rest : List RxChar} {f : CommandFrame} (h : judgeBody length rest = .good f) :
    isCommandKind f.kind = true ∧ f.fields.length ≤ 57
      ∧ ∃ after, cleanChar 0xC3 :: length :: rest = (OutFrame.mk f.kind f.tag f.fields false).bytes.map cleanChar ++ after := by
  rw [judgeBody_eq] at h
  split at h
  · cases h
  next herr =>
  split at h
  · cases h
  next hcomplete =>
  split at h
  · cases h
  next hrange =>
  split at h
  next kind tag tail hbody =>
    split at h
    · cases h
    next hsum =>
    split at h
    · cases h
    next hkind =>
    obtain rfl := FrameJudgement.good.inj h
    simp only [Bool.or_eq_true, not_or, Bool.not_eq_true] at herr
    obtain ⟨hlength, hclean⟩ := herr
    have hcount : (rest.take length.byte.toNat).length = length.byte.toNat := by rw [List.length_take]; omega
    have htail : tail.length + 2 = length.byte.toNat := by
      rw [← hcount, ← List.length_map (f := RxChar.byte), hbody]; rfl
    have hne : tail ≠ [] := by rintro rfl; simp at htail; omega
    have hfields : tail.dropLast.length + 3 = length.byte.toNat := by rw [List.length_dropLast]; omega
    have hbyte : length.byte = BitVec.ofNat 8 (tail.dropLast.length + 3) := by rw [hfields, BitVec.ofNat_toNat]; simp
    have hlast : tail = tail.dropLast ++ [tail.getLast hne] := (List.dropLast_append_getLast hne).symm
    have hcheck : tail.getLast hne = checkByte (length.byte :: kind :: tag :: tail.dropLast) := by
      refine eq_checkByte ?_
      rw [List.cons_append, List.cons_append, List.cons_append, ← hlast]
      simpa using hsum
    refine ⟨by simpa using hkind, by show tail.dropLast.length ≤ 57; omega, rest.drop length.byte.toNat, ?_⟩
    have hchars : rest.take length.byte.toNat = (kind :: tag :: tail).map cleanChar := by
      rw [← hbody, map_cleanChar]
      intro c hc
      exact Bool.eq_false_iff.2 fun he => by simp [List.any_eq_false] at hclean; simpa [he] using hclean c hc
    calc cleanChar 0xC3 :: length :: rest
        = cleanChar 0xC3 :: cleanChar length.byte :: ((kind :: tag :: tail).map cleanChar ++ rest.drop length.byte.toNat) := by
          rw [← hchars, List.take_append_drop, cleanChar_byte length hlength]
      _ = _ := by
          rw [hlast, hcheck, hbyte]
          simp [OutFrame.bytes]
  · cases h

/-- Settles O15. -/
theorem goodFramesAreFramesSent : Obligations.GoodFramesAreFramesSent := by
  intro cs f
  constructor
  · intro h
    cases hd : cs.dropWhile (fun c => !c.isMark 0xC3) with
    | nil => rw [judgeFrame, hd] at h; cases h
    | cons c rest =>
      cases rest with
      | nil => rw [judgeFrame, hd] at h; cases h
      | cons length rest =>
        rw [judgeFrame_of_dropWhile hd] at h
        obtain ⟨hkind, hlen, after, heq⟩ := of_judgeBody_good h
        obtain ⟨before, hbefore, hcs⟩ := of_dropWhile_mark hd
        exact ⟨hkind, hlen, before, after, hbefore, by rw [hcs, heq, List.append_assoc]⟩
  · rintro ⟨hkind, hlen, before, after, hbefore, rfl⟩
    have hd := dropWhile_mark hbefore (rest := cleanChar (BitVec.ofNat 8 (f.fields.length + 3)) ::
      ((f.kind :: f.tag :: (f.fields ++ [checkByte (BitVec.ofNat 8 (f.fields.length + 3) :: f.kind :: f.tag :: f.fields)])).map
        cleanChar ++ after))
    have hcs : before ++ (OutFrame.mk f.kind f.tag f.fields false).bytes.map cleanChar ++ after
        = before ++ cleanChar 0xC3 :: cleanChar (BitVec.ofNat 8 (f.fields.length + 3)) ::
          ((f.kind :: f.tag :: (f.fields ++ [checkByte (BitVec.ofNat 8 (f.fields.length + 3) :: f.kind :: f.tag :: f.fields)])).map
            cleanChar ++ after) := by
      simp [OutFrame.bytes]
    rw [hcs, judgeFrame_of_dropWhile hd, judgeBody_sent after hkind hlen]

/-! ## Field records (R182, R183) -/

theorem cutFives_flatten (fuel : Nat) (data : List Byte) : (cutFives fuel data).flatten = data := by
  induction fuel generalizing data with
  | zero => simp [cutFives]
  | succ n ih =>
    unfold cutFives
    split
    · simp
    · rw [List.flatten_cons, ih, List.take_append_drop]

theorem length_of_mem_cutFives {fuel : Nat} {data : List Byte} (hfuel : data.length ≤ 5 * (fuel + 1)) :
    ∀ part ∈ cutFives fuel data, part.length ≤ 5 := by
  induction fuel generalizing data with
  | zero => simpa [cutFives] using hfuel
  | succ n ih =>
    unfold cutFives
    split
    next h => simpa using h
    next h =>
      intro part hpart
      rcases List.mem_cons.1 hpart with rfl | hpart
      · exact (List.length_take_le _ _)
      · exact ih (by rw [List.length_drop]; omega) part hpart

theorem Order.record_eq (o : Order) :
    o.record = 0x5A :: ((o.type :: (o.data ++ List.replicate (9 - o.data.length) 0))
      ++ [checkByte (o.type :: (o.data ++ List.replicate (9 - o.data.length) 0))]) := rfl

theorem Order.length_record {o : Order} (h : o.data.length ≤ 9) : o.record.length = 12 := by
  rw [Order.record_eq]
  simp
  omega

/-- Eleven clean bytes of sum 0 whose type and data spell an event are a good record of it (R183). -/
theorem judgeRecord_good {type : Byte} {data : List Byte} {e : Instr} (hlen : data.length = 9)
    (he : decodeEvent type data = some e) :
    judgeRecord ((0x5A :: type :: (data ++ [checkByte (type :: data)])).map cleanChar) = .good e := by
  have hd := dropWhile_mark (mark := 0x5A) (before := [])
    (rest := (type :: (data ++ [checkByte (type :: data)])).map cleanChar) (by simp)
  have hbody : ((type :: (data ++ [checkByte (type :: data)])).map cleanChar).take 11
      = (type :: (data ++ [checkByte (type :: data)])).map cleanChar := List.take_of_length_le (by simp; omega)
  have hsum : byteSum (type :: (data ++ [checkByte (type :: data)])) = 0 := byteSum_checked (type :: data)
  have hdata : (data ++ [checkByte (type :: data)]).take 9 = data := List.take_left' hlen
  rw [judgeRecord, List.map_cons]
  rw [List.nil_append] at hd
  rw [hd]
  dsimp only
  rw [hbody, any_hasError_cleanChar, if_neg (by simp), if_neg (by simp; omega), map_byte_cleanChar]
  dsimp only
  rw [hsum, hdata, he, if_neg (by simp)]

/-- The events that a field record may spell (Table 11-4). -/
theorem handEvent_eq_exec {type : Byte} {data : List Byte} {e : Instr} (h : decodeEvent type data = some e) (s : State) :
    handEvent e s = exec e s := by
  unfold decodeEvent at h
  dsimp only at h
  split at h
  case h_1 =>
    obtain ⟨m, -, rfl⟩ := Option.map_eq_some_iff.1 h
    rfl
  case h_14 => cases h
  all_goals
    obtain ⟨numbers, -, hspelt⟩ := Option.bind_eq_some_iff.1 h
    split at hspelt
    · obtain rfl := Option.some.inj hspelt
      rfl
    · cases hspelt

theorem event_of_judgeRecord {record : List RxChar} {e : Instr} (h : judgeRecord record = .good e) :
    ∃ type data, decodeEvent type data = some e := by
  unfold judgeRecord at h
  split at h
  · cases h
  dsimp only at h
  split at h
  · cases h
  split at h
  · cases h
  split at h
  next type data _ =>
    split at h
    · cases h
    split at h
    next event he =>
      obtain rfl := RecordJudgement.good.inj h
      exact ⟨type, _, he⟩
    · cases h
  · cases h

theorem State.handOver_eq (s : State) (o : Order) :
    s.handOver o = if s.orders.length < 32 then { s with orders := s.orders ++ [o] } else s := rfl

theorem State.sendOrder_cons {s : State} {o : Order} {rest : List Order} (h : s.orders = o :: rest) :
    s.sendOrder = { s with
      orders := rest
      wires := { s.wires with field := o.record }
      coding := { s.coding with exchange := if o.endsExchange then none else s.coding.exchange } } := by
  rw [State.sendOrder, h]
  dsimp only
  split <;> rfl

/-- Settles O17. -/
theorem fieldRecordsAndOrders : Obligations.FieldRecordsAndOrders := by
  refine ⟨⟨fun o ho => ⟨Order.length_record ho, rfl, ?_⟩, fun q ticket data => ?_, fun record s h => ?_,
    fun record s e h => ?_, fun type data e hlen he => judgeRecord_good hlen he⟩, State.handOver_eq, fun s => ⟨fun h => ?_,
    fun o rest h => ?_⟩⟩
  · rw [Order.record_eq]
    exact byteSum_checked _
  · exact ⟨cutFives data.length data, cutFives_flatten _ _, length_of_mem_cutFives (by omega), rfl⟩
  · simp only [exec, execFieldRecordBad, h]
  · have spelt := event_of_judgeRecord h
    obtain ⟨type, data, he⟩ := spelt
    simp only [exec, execFieldRecordBad, h]
    exact handEvent_eq_exec he s
  · simp only [exec, execOrderSent, State.sendOrder, h]
  · simp only [exec, execOrderSent, State.sendOrder_cons h]

end Sys2Proof.Machine

/-! SUPPORT. The issue of tickets (R137) and the notice queues (R175). -/

namespace Sys2Proof.Machine

/-! ## Tickets -/

theorem repeat_succ' {α : Type} (f : α → α) (n : Nat) (a : α) : Nat.repeat f (n + 1) a = Nat.repeat f n (f a) := by
  induction n with
  | zero => rfl
  | succ n ih => exact congrArg f ih

/-- Tickets come round after 4095 of them. -/
theorem repeat_nextTicket {t : Nat} (h1 : 1 ≤ t) (h2 : t ≤ 4095) (n : Nat) :
    Nat.repeat nextTicket n t = (t - 1 + n) % 4095 + 1 := by
  induction n with
  | zero => simp only [Nat.repeat]; omega
  | succ n ih =>
    show nextTicket (Nat.repeat nextTicket n t) = _
    rw [ih, nextTicket, Config.lastTicket]
    split <;> omega

/-- The tickets that the records of both lists hold. -/
def Coding.tickets (c : Coding) : List Nat := c.strays.map (·.ticket) ++ c.reinject.map (·.ticket)

theorem Coding.holdsTicket_iff (c : Coding) (t : Nat) : c.holdsTicket t = true ↔ t ∈ c.tickets := by
  simp [Coding.holdsTicket, Coding.tickets]

theorem Coding.length_tickets (c : Coding) : c.tickets.length = c.strays.length + c.reinject.length := by
  simp [Coding.tickets]

/-- The search for a free number passes held numbers only, and stops early only at a free one. -/
theorem Coding.freeFrom_spec (c : Coding) (fuel t : Nat) :
    ∃ n, n ≤ fuel ∧ c.freeFrom fuel t = Nat.repeat nextTicket n t
      ∧ (∀ m, m < n → c.holdsTicket (Nat.repeat nextTicket m t) = true)
      ∧ (n < fuel → c.holdsTicket (c.freeFrom fuel t) = false) := by
  induction fuel generalizing t with
  | zero => exact ⟨0, Nat.le_refl 0, rfl, fun m hm => absurd hm (Nat.not_lt_zero m), fun h => absurd h (Nat.not_lt_zero 0)⟩
  | succ fuel ih =>
    unfold Coding.freeFrom
    split
    next held =>
      obtain ⟨n, hn, heq, hheld, hfree⟩ := ih (nextTicket t)
      refine ⟨n + 1, Nat.succ_le_succ hn, by rw [repeat_succ']; exact heq, fun m hm => ?_, fun h => hfree (by omega)⟩
      cases m with
      | zero => exact held
      | succ m => rw [repeat_succ']; exact hheld m (by omega)
    next free =>
      exact ⟨0, Nat.zero_le _, rfl, fun m hm => absurd hm (Nat.not_lt_zero m), fun _ => by simpa using free⟩

/-- As many numbers in a row as there are records, and one more, cannot all be held. -/
theorem Coding.exists_free {c : Coding} {t : Nat} (h1 : 1 ≤ t) (h2 : t ≤ 4095)
    (hlen : c.strays.length + c.reinject.length ≤ 80)
    (hheld : ∀ m, m < c.strays.length + c.reinject.length + 1 → c.holdsTicket (Nat.repeat nextTicket m t) = true) :
    False := by
  set n := c.strays.length + c.reinject.length with hn
  have nodup : ((List.range (n + 1)).map fun m => Nat.repeat nextTicket m t).Nodup := by
    refine List.Nodup.map_on (fun a ha b hb hab => ?_) List.nodup_range
    rw [List.mem_range] at ha hb
    rw [repeat_nextTicket h1 h2, repeat_nextTicket h1 h2] at hab
    omega
  have sub : ((List.range (n + 1)).map fun m => Nat.repeat nextTicket m t) ⊆ c.tickets := by
    intro x hx
    obtain ⟨m, hm, rfl⟩ := List.mem_map.1 hx
    exact (c.holdsTicket_iff _).1 (hheld m (List.mem_range.1 hm))
  have := (List.subperm_of_subset nodup sub).length_le
  rw [Coding.length_tickets, List.length_map, List.length_range] at this
  omega

theorem Coding.issued_free {c : Coding} (h1 : 1 ≤ c.ticketCounter) (h2 : c.ticketCounter ≤ 4095)
    (hlen : c.strays.length + c.reinject.length ≤ 80) : c.holdsTicket c.issued = false := by
  obtain ⟨n, hn, heq, hheld, hfree⟩ := c.freeFrom_spec (c.strays.length + c.reinject.length) c.ticketCounter
  rcases Nat.lt_or_ge n (c.strays.length + c.reinject.length) with hlt | hge
  · exact hfree hlt
  · by_contra hc
    have hlast : c.holdsTicket (Nat.repeat nextTicket n c.ticketCounter) = true := by
      rw [← heq]; exact (Bool.not_eq_false (c.holdsTicket c.issued)).mp hc
    refine Coding.exists_free h1 h2 hlen fun m hm => ?_
    rcases Nat.lt_or_ge m n with hmn | hmn
    · exact hheld m hmn
    · obtain rfl : m = n := by omega
      exact hlast

/-! ## Notices -/

theorem PrincipalRecord.posted_unselected {r : PrincipalRecord} {body : NoticeBody}
    (h : r.classes.getLsbD body.classBit = false) (v p : Nat) : r.posted body v p = r := by
  simp [PrincipalRecord.posted, PrincipalRecord.selects, h]

theorem PrincipalRecord.posted_room {r : PrincipalRecord} {body : NoticeBody} (h : r.classes.getLsbD body.classBit = true)
    (hroom : r.notices.length < 32) (v p : Nat) :
    r.posted body v p = ⟨r.notices ++ [⟨body, v, p, r.gap⟩], false, r.classes⟩ := by
  simp [PrincipalRecord.posted, PrincipalRecord.selects, h, Config.noticePlaces, hroom]

theorem PrincipalRecord.posted_full {r : PrincipalRecord} {body : NoticeBody} (h : r.classes.getLsbD body.classBit = true)
    (hfull : 32 ≤ r.notices.length) (v p : Nat) : r.posted body v p = ⟨r.notices, true, r.classes⟩ := by
  simp [PrincipalRecord.posted, PrincipalRecord.selects, h, Config.noticePlaces, Nat.not_lt.2 hfull]

theorem State.setPrincipal_self (s : State) (p : Principal) : s.setPrincipal p (s.principal p) = s := by
  rcases p with _ | _ | _ <;> rfl

/-- Settles O19. -/
theorem ticketsAndNoticesFollowTheirCounts : Obligations.TicketsAndNoticesFollowTheirCounts := by
  refine ⟨fun c h1 h2 hlen => ?_, fun s p body => ⟨s.changesOnly_post p body, fun q hq => ?_, fun h => ?_, fun h hroom => ?_,
    fun h hfull => ?_⟩⟩
  · obtain ⟨n, -, heq, hheld, -⟩ := c.freeFrom_spec (c.strays.length + c.reinject.length) c.ticketCounter
    have range : c.issued = (c.ticketCounter - 1 + n) % 4095 + 1 := heq.trans (repeat_nextTicket h1 h2 n)
    exact ⟨by omega, by omega, Coding.issued_free h1 h2 hlen, n, heq, hheld⟩
  · exact State.principal_setPrincipal_ne _ _ hq
  · rw [State.post, PrincipalRecord.posted_unselected h, State.setPrincipal_self]
  · rw [State.post, State.principal_setPrincipal, PrincipalRecord.posted_room h hroom]
  · rw [State.post, State.principal_setPrincipal, PrincipalRecord.posted_full h hfull]

end Sys2Proof.Machine

/-! SUPPORT. Distances (R5 to R7), the choice of a lane (R89 to R92) and re-choices (R95, R96). -/

namespace Sys2Proof.Machine

/-! ## Distances -/

theorem mod_of_lt_twice {a n : Nat} (h : a < 2 * n) : a % n = if a < n then a else a - n := by
  split
  next hlt => exact Nat.mod_eq_of_lt hlt
  next hge => rw [Nat.mod_eq_sub_mod (by omega), Nat.mod_eq_of_lt (by omega)]

theorem Loop.offsetOf_eq {p : Loop} {k : Nat} (hp : p.position < p.count) (hk : k < p.count) :
    p.offsetOf k = if k ≤ p.position then p.position - k else p.position + p.count - k := by
  rw [Loop.offsetOf, mod_of_lt_twice (by omega)]
  split <;> split <;> omega

theorem Loop.distance_eq {p : Loop} {k d : Nat} (_ : p.position < p.count) (_ : k < p.count) (hd : d < p.count) :
    p.distance k d = if p.offsetOf k ≤ d then d - p.offsetOf k else d + p.count - p.offsetOf k := by
  have : p.offsetOf k < p.count := Nat.mod_lt _ (by omega)
  rw [Loop.distance, mod_of_lt_twice (by omega)]
  split <;> split <;> omega

theorem Loop.distance_lt {p : Loop} (k d : Nat) (hp : p.position < p.count) : p.distance k d < p.count :=
  Nat.mod_lt _ (by omega)

theorem Loop.carrierAt_eq {p : Loop} {d : Nat} (hp : p.position < p.count) (hd : d < p.count) :
    p.carrierAt d = if d ≤ p.position then p.position - d else p.position + p.count - d := by
  rw [Loop.carrierAt, mod_of_lt_twice (by omega)]
  split <;> split <;> omega

theorem Loop.distance_eq_zero_iff {p : Loop} {k d : Nat} (hp : p.position < p.count) (hk : k < p.count) (hd : d < p.count) :
    p.distance k d = 0 ↔ k = p.carrierAt d := by
  rw [Loop.distance_eq hp hk hd, Loop.carrierAt_eq hp hd, Loop.offsetOf_eq hp hk]
  split_ifs <;> omega

/-- The loop one pitch forward (R3). -/
def Loop.advanced (p : Loop) : Loop := { p with position := (p.position + 1) % p.count }

theorem Loop.position_advanced {p : Loop} (hp : p.position < p.count) :
    p.advanced.position = if p.position + 1 = p.count then 0 else p.position + 1 := by
  show (p.position + 1) % p.count = _
  rw [mod_of_lt_twice (by omega)]
  split_ifs <;> omega

/-- One pitch forward. -/
theorem Loop.offsetOf_advanced {p : Loop} {k : Nat} (hp : p.position < p.count) (hk : k < p.count) :
    p.advanced.offsetOf k = if p.offsetOf k + 1 = p.count then 0 else p.offsetOf k + 1 := by
  have hnext : p.advanced.position < p.advanced.count := Nat.mod_lt _ (by omega)
  rw [Loop.offsetOf_eq (p := p.advanced) hnext hk, Loop.offsetOf_eq hp hk, Loop.position_advanced hp]
  show (if k ≤ _ then _ else _ + p.count - k) = _
  split_ifs <;> omega

theorem Loop.distance_advanced {p : Loop} {k d : Nat} (hp : p.position < p.count) (hk : k < p.count) (hd : d < p.count) :
    p.advanced.distance k d + 1 = if p.distance k d = 0 then p.count else p.distance k d := by
  have hlt : p.offsetOf k < p.count := Nat.mod_lt _ (by omega)
  have hnext : p.advanced.position < p.advanced.count := Nat.mod_lt _ (by omega)
  rw [Loop.distance_eq (p := p.advanced) hnext hk hd, Loop.offsetOf_advanced hp hk, Loop.distance_eq hp hk hd]
  show (if _ ≤ d then _ else d + p.count - _) + 1 = _
  split_ifs <;> omega

/-! ## The nearest lane of a set -/

/-- What the search of R91 has found among the lanes `js`: none when none of them is allowed, else an allowed lane of
least effective distance, the lowest of those. -/
def State.IsNearest (s : State) (k : Nat) (ok : Lane → Bool) (js : List LaneNo) : Option LaneNo → Prop
  | none => ∀ j ∈ js, ∀ d, (s.lane j).offset = some d → ok (s.lane j) = false
  | some j => j ∈ js ∧ ∃ d, ((s.lane j).offset = some d ∧ ok (s.lane j) = true)
      ∧ ∀ i ∈ js, ∀ e, (s.lane i).offset = some e ∧ ok (s.lane i) = true →
        s.loop.effective k d < s.loop.effective k e ∨ (s.loop.effective k d = s.loop.effective k e ∧ j ≤ i)

theorem State.isNearest_nearer {s : State} {k : Nat} {ok : Lane → Bool} {js : List LaneNo} {best : Option LaneNo}
    {j : LaneNo} (h : s.IsNearest k ok js best) (hj : ∀ i ∈ js, i < j) :
    s.IsNearest k ok (js ++ [j]) (s.nearer k ok best j) := by
  have skip (hno : ∀ d, (s.lane j).offset = some d → ok (s.lane j) = false) : s.IsNearest k ok (js ++ [j]) best := by
    cases best with
    | none =>
      intro i hi d hd
      rcases List.mem_append.1 hi with hi | hi
      · exact h i hi d hd
      · rw [List.mem_singleton.1 hi] at hd ⊢; exact hno d hd
    | some b =>
      obtain ⟨hb, d, hd, hleast⟩ := h
      refine ⟨List.mem_append_left _ hb, d, hd, fun i hi e he => ?_⟩
      rcases List.mem_append.1 hi with hi | hi
      · exact hleast i hi e he
      · rw [List.mem_singleton.1 hi] at he
        exact absurd he.2 (by rw [hno e he.1]; simp)
  unfold State.nearer
  cases hd : (s.lane j).offset with
  | none => exact skip fun d h => by rw [hd] at h; cases h
  | some d =>
    dsimp only
    by_cases hok : ok (s.lane j) = true
    · rw [if_pos hok]
      have last : j ∈ js ++ [j] := List.mem_append_right _ (List.mem_singleton.2 rfl)
      cases best with
      | none =>
        refine ⟨last, d, ⟨hd, hok⟩, fun i hi e he => ?_⟩
        rcases List.mem_append.1 hi with hi | hi
        · exact absurd he.2 (by rw [h i hi e he.1]; simp)
        · obtain rfl := List.mem_singleton.1 hi
          obtain rfl : d = e := Option.some.inj (hd.symm.trans he.1)
          exact .inr ⟨rfl, le_refl _⟩
      | some b =>
        obtain ⟨hb, d', hd', hleast⟩ := h
        simp only [Option.bind_some, hd'.1]
        split
        next hlt =>
          refine ⟨last, d, ⟨hd, hok⟩, fun i hi e he => ?_⟩
          rcases List.mem_append.1 hi with hi | hi
          · rcases hleast i hi e he with hle | ⟨hle, -⟩
            · exact .inl (hlt.trans hle)
            · exact .inl (hle ▸ hlt)
          · obtain rfl := List.mem_singleton.1 hi
            obtain rfl : d = e := Option.some.inj (hd.symm.trans he.1)
            exact .inr ⟨rfl, le_refl _⟩
        next hge =>
          refine ⟨List.mem_append_left _ hb, d', hd', fun i hi e he => ?_⟩
          rcases List.mem_append.1 hi with hi | hi
          · exact hleast i hi e he
          · obtain rfl := List.mem_singleton.1 hi
            obtain rfl : d = e := Option.some.inj (hd.symm.trans he.1)
            rcases lt_or_eq_of_le (not_lt.1 hge) with h | h
            · exact .inl h
            · exact .inr ⟨h, le_of_lt (hj b hb)⟩
    · rw [if_neg hok]
      exact skip fun _ _ => by simpa using hok

theorem State.isNearest_nearest (s : State) (k : Nat) (ok : Lane → Bool) : s.IsNearest k ok allLanes (s.nearest k ok) := by
  have fold (js : List LaneNo) (hjs : js.Pairwise (· < ·)) :
      s.IsNearest k ok js (js.foldl (fun best j => s.nearer k ok best j) none) := by
    induction js using List.reverseRecOn with
    | nil => exact fun j hj => absurd hj (by simp)
    | append_singleton js j ih =>
      rw [List.pairwise_append] at hjs
      rw [List.foldl_append]
      exact State.isNearest_nearer (ih hjs.1) fun i hi => hjs.2.2 i hi j (List.mem_singleton.2 rfl)
  exact fold allLanes (List.pairwise_lt_finRange 40)

theorem mem_allLanes (j : LaneNo) : j ∈ allLanes := List.mem_finRange j

/-- The lane that a choice gives (R91): the nearest of the first set, or of the second when the first has none. -/
theorem State.bestLane_spec (s : State) (k : Nat) :
    let first := fun x => s.inFirstSet (s.carrier k) x && s.laneAdmits (s.carrier k) x
    let second := fun x => inSecondSet (s.carrier k) x && s.laneAdmits (s.carrier k) x
    (∃ j, s.bestLane k = some j ∧ s.IsNearest k first allLanes (some j))
    ∨ (s.IsNearest k first allLanes none ∧ s.IsNearest k second allLanes (s.bestLane k)) := by
  intro first second
  have h1 := s.isNearest_nearest k first
  unfold State.bestLane
  dsimp only
  cases hn : s.nearest k first with
  | some j => rw [hn] at h1; exact .inl ⟨j, rfl, h1⟩
  | none => rw [hn] at h1; exact .inr ⟨h1, s.isNearest_nearest k second⟩

/-- What the nearest lane of a set is, in the words of a set of lanes and offsets. -/
theorem State.IsNearest.least {s : State} {k : Nat} {ok : Lane → Bool} {j : LaneNo} (h : s.IsNearest k ok allLanes (some j))
    {set : LaneNo → Nat → Prop} (hset : ∀ i d, set i d ↔ (s.lane i).offset = some d ∧ ok (s.lane i) = true) :
    ∃ d, set j d ∧ ∀ i e, set i e →
      s.loop.effective k d < s.loop.effective k e ∨ (s.loop.effective k d = s.loop.effective k e ∧ j ≤ i) := by
  obtain ⟨_, d, hd, hleast⟩ := h
  exact ⟨d, (hset j d).2 hd, fun i e he => hleast i (mem_allLanes i) e ((hset i e).1 he)⟩

theorem State.IsNearest.none_iff {s : State} {k : Nat} {ok : Lane → Bool} (h : s.IsNearest k ok allLanes none)
    {set : LaneNo → Nat → Prop} (hset : ∀ i d, set i d ↔ (s.lane i).offset = some d ∧ ok (s.lane i) = true) :
    ¬∃ j d, set j d := by
  rintro ⟨j, d, hd⟩
  obtain ⟨ho, hok⟩ := (hset j d).1 hd
  rw [h j (mem_allLanes j) d ho] at hok
  exact absurd hok (by simp)

/-! ## The candidate sets in words (Table 5-5) -/

theorem State.inFirstSet_iff (s : State) (c : Carrier) (x : Lane) :
    s.inFirstSet c x = true ↔
      (c.disposition = some .delivery ∧ (c.identity.any fun d => x.owner == .berth d.berth) = true ∧ x.function = .makeup
        ∧ c.identity.bind s.groupOfBag ≠ none ∧ x.group = c.identity.bind s.groupOfBag)
      ∨ (c.disposition = some .hold ∧ (c.identity.any fun d => x.owner == .berth d.berth) = true ∧ x.function = .hold)
      ∨ (c.strayReason.isSome = true ∧ x.owner = .hall ∧ x.function = .stray) := by
  unfold State.inFirstSet Carrier.strayReason
  rcases hd : c.disposition with _ | d
  · simp
  cases d with
  | delivery => cases c.identity <;> simp [Option.isSome_iff_ne_none, and_assoc]
  | hold => cases c.identity <;> simp
  | stray r => simp

theorem inSecondSet_iff (c : Carrier) (x : Lane) :
    inSecondSet c x = true ↔
      c.disposition = some .delivery ∧ (c.identity.any fun d => x.owner == .berth d.berth) = true ∧ x.function = .overflow := by
  unfold inSecondSet
  rcases hd : c.disposition with _ | d
  · simp
  cases d with
  | delivery => cases c.identity <;> simp
  | hold => cases c.identity <;> simp
  | stray r => simp

theorem State.laneAdmits_iff (s : State) (c : Carrier) (x : Lane) :
    s.laneAdmits c x = true ↔ x.state = .opened ∧ x.fill + x.inbound + c.units ≤ x.capacity
      ∧ (c.strayReason.isSome = true → s.coding.strays.length < 64) := by
  unfold State.laneAdmits
  rw [Bool.and_eq_true, Bool.and_eq_true, Bool.or_eq_true, beq_iff_eq, decide_eq_true_eq, decide_eq_true_eq, and_assoc]
  cases c.strayReason <;> simp [Config.strayPlaces]

theorem Mode.sorts_iff (m : Mode) : m.sorts = true ↔ m = .run ∨ m = .hold ∨ m = .draining := by cases m <;> simp [Mode.sorts]

theorem Carrier.isUntargeted_iff (c : Carrier) : c.isUntargeted = true ↔ c.state = .carrying ∧ c.target = none := by
  simp [Carrier.isUntargeted]

/-- A choice is made only in a sorting mode and for an untargeted carrier (R91). -/
theorem State.chooseTarget_of_not {s : State} {k : Nat}
    (h : s.mode = .setup ∨ s.mode = .halted ∨ ¬((s.carrier k).state = .carrying ∧ (s.carrier k).target = none)) :
    s.chooseTarget k = s := by
  refine if_neg fun hc => ?_
  rw [Bool.and_eq_true, Mode.sorts_iff, Carrier.isUntargeted_iff] at hc
  rcases h with h | h | h
  · rw [h] at hc; simp at hc
  · rw [h] at hc; simp at hc
  · exact h hc.2

theorem State.chooseTarget_of {s : State} {k : Nat} (hm : s.mode = .run ∨ s.mode = .hold ∨ s.mode = .draining)
    (hk : (s.carrier k).state = .carrying ∧ (s.carrier k).target = none) :
    s.chooseTarget k = match s.bestLane k with
      | none => s
      | some j => (s.setCarrier k { s.carrier k with target := some j, armed := false }).raiseInbound j (s.carrier k).units :=
  if_pos (by rw [Bool.and_eq_true, Mode.sorts_iff, Carrier.isUntargeted_iff]; exact ⟨hm, hk⟩)

/-! ## Dropping and re-choosing -/

theorem State.dropTarget_none {s : State} {k : Nat} (h : (s.carrier k).target = none) : s.dropTarget k = s := by
  simp only [State.dropTarget, h]

theorem State.dropTarget_some {s : State} {k : Nat} {j : LaneNo} (h : (s.carrier k).target = some j) :
    s.dropTarget k = (s.setCarrier k { s.carrier k with target := none, armed := false }).setLane j
      { s.lane j with inbound := (s.lane j).inbound - (s.carrier k).units } := by
  simp only [State.dropTarget, h]
  rfl

theorem State.rechoose_of_not {s : State} {k : Nat}
    (h : (s.carrier k).state ≠ .carrying ∨ (s.carrier k).armed = true ∨ (s.carrier k).target = none) : s.rechoose k = s := by
  refine if_neg fun hc => ?_
  simp only [Carrier.isReachable, Bool.and_eq_true, beq_iff_eq, Bool.not_eq_true'] at hc
  obtain ⟨⟨hstate, harmed⟩, htarget⟩ := hc
  rcases h with h | h | h
  · exact h hstate
  · rw [harmed] at h; cases h
  · rw [h] at htarget; cases htarget

theorem State.rechoose_of {s : State} {k : Nat} {j : LaneNo} (hstate : (s.carrier k).state = .carrying)
    (harmed : (s.carrier k).armed = false) (htarget : (s.carrier k).target = some j) :
    s.rechoose k = (s.dropTarget k).chooseTarget k :=
  if_pos (by simp [Carrier.isReachable, hstate, harmed, htarget])

/-- Carriers of a run that all hold one lane as target: their targets are dropped one by one. -/
theorem State.dropTargets_at {i : LaneNo} (ks : List Nat) (s : State) (hnodup : ks.Nodup)
    (hks : ∀ k ∈ ks, (s.carrier k).target = some i) :
    (∀ m, (s.dropTargets ks).carrier m
      = if m ∈ ks then { s.carrier m with target := none, armed := false } else s.carrier m)
    ∧ ((s.dropTargets ks).lane i).inbound = (s.lane i).inbound - (ks.map fun m => (s.carrier m).units).sum
    ∧ ∀ o, o ≠ i → (s.dropTargets ks).lane o = s.lane o := by
  induction ks generalizing s with
  | nil => exact ⟨fun m => by simp [State.dropTargets, forEach], by simp [State.dropTargets, forEach], fun _ _ => rfl⟩
  | cons k ks ih =>
    obtain ⟨hk, hnodup⟩ := List.nodup_cons.1 hnodup
    have hkt := hks k List.mem_cons_self
    have dropped := State.dropTarget_some hkt
    have klt : k < s.carriers.table.length := s.lt_of_carrier_ne fun he => by rw [he] at hkt; cases hkt
    have same {m : Nat} (hm : m ≠ k) : (s.dropTarget k).carrier m = s.carrier m := by
      rw [dropped, State.carrier_setLane, State.carrier_setCarrier_ne _ _ hm]
    have hne {m : Nat} (hm : m ∈ ks) : m ≠ k := by rintro rfl; exact hk hm
    obtain ⟨hc, hl, ho⟩ := ih (s.dropTarget k) hnodup fun m hm => by
      rw [same (hne hm)]; exact hks m (List.mem_cons_of_mem k hm)
    refine ⟨fun m => (hc m).trans ?_, hl.trans ?_, fun o hoi => (ho o hoi).trans ?_⟩
    · by_cases hmk : m = k
      · subst hmk
        rw [if_neg hk, if_pos List.mem_cons_self, dropped, State.carrier_setLane, State.carrier_setCarrier_same _ _ klt]
      · rw [same hmk]
        simp [hmk]
    · have units : (ks.map fun m => ((s.dropTarget k).carrier m).units) = ks.map fun m => (s.carrier m).units :=
        List.map_congr_left fun m hm => by rw [same (hne hm)]
      have hin : ((s.dropTarget k).lane i).inbound = (s.lane i).inbound - (s.carrier k).units := by
        rw [dropped, State.lane_setLane]
      rw [units, hin, List.map_cons, List.sum_cons, Nat.sub_sub]
    · rw [dropped, State.lane_setLane_ne _ _ hoi, State.lane_setCarrier]

theorem State.nodup_carriersWith (s : State) (p : Carrier → Bool) : (s.carriersWith p).Nodup :=
  List.nodup_range.filter _

theorem State.tentativeAt_eq (s : State) (i : LaneNo) :
    s.tentativeAt i = s.carriersWith fun c => c.state == .carrying && c.armed == false && c.target == some i := by
  unfold State.tentativeAt State.carriersWith
  refine List.filter_congr fun k _ => ?_
  simp only [Carrier.isTentativeAt]
  cases (s.carrier k).armed <;> simp

/-- Settles O20. -/
theorem nearestLaneByDistanceIsChosen : Obligations.NearestLaneByDistanceIsChosen := by
  refine ⟨fun p k d hp hk hd => ?_, fun s k => ?_, fun s k ks d i j => ?_⟩
  · have next := Loop.distance_advanced hp hk hd
    refine ⟨p.distance_lt k d hp, Loop.distance_eq_zero_iff hp hk hd, fun h => ?_, fun h => ?_, ?_⟩
    · exact next.trans (if_neg (by omega))
    · exact next.trans (if_pos h)
    · rw [Loop.effective]
      split_ifs <;> omega
  · intro c t untargeted units stray group ofBerth admits inFirst inSecond first second given least
    have hunits : units = c.units := by
      show (match c.size with | none => 0 | some .S => 1 | some .M => 2 | some .L => 3) = c.units
      unfold Carrier.units Size.units
      rcases c.size with _ | _ | _ | _ <;> rfl
    have hstray : stray = c.strayReason.isSome := by
      show (match c.disposition with | some (.stray _) => true | _ => false) = c.strayReason.isSome
      unfold Carrier.strayReason
      rcases c.disposition with _ | _ | _ | _ <;> rfl
    have hgroup : group = c.identity.bind s.groupOfBag := by
      show (c.identity.bind fun d => _) = _
      congr 1
      funext d
      simp only [State.groupOfBag, State.cabinOf, State.entryOf, Option.bind_assoc]
    have hadmits (x : Lane) : admits x ↔ s.laneAdmits c x = true := by
      rw [State.laneAdmits_iff, ← hunits, ← hstray]
    have hfirst (j : LaneNo) (d : Nat) : first j d ↔
        (s.lane j).offset = some d ∧ (s.inFirstSet c (s.lane j) && s.laneAdmits c (s.lane j)) = true := by
      rw [Bool.and_eq_true, ← hadmits, State.inFirstSet_iff, ← hgroup, ← hstray]
    have hsecond (j : LaneNo) (d : Nat) : second j d ↔
        (s.lane j).offset = some d ∧ (inSecondSet c (s.lane j) && s.laneAdmits c (s.lane j)) = true := by
      rw [Bool.and_eq_true, ← hadmits, inSecondSet_iff]
    refine ⟨fun h => State.chooseTarget_of_not h, fun hm hk => ?_⟩
    have chosen := State.chooseTarget_of hm hk
    have gives {j : LaneNo} (hj : s.bestLane k = some j) : given j := by
      show s.chooseTarget k = (s.setCarrier k _).setLane j { s.lane j with inbound := (s.lane j).inbound + units }
      rw [chosen, hj, hunits]
      rfl
    rcases s.bestLane_spec k with ⟨j, hj, hnear⟩ | ⟨hnone, hbest⟩
    · obtain ⟨d, hd⟩ := hnear.least hfirst
      exact ⟨fun _ => ⟨j, d, hd, gives hj⟩, fun h => absurd ⟨j, d, hd.1⟩ h, fun h => absurd ⟨j, d, hd.1⟩ h⟩
    · have nofirst := hnone.none_iff hfirst
      refine ⟨fun h => absurd h nofirst, fun _ hex => ?_, fun _ hno => ?_⟩
      · cases hj : s.bestLane k with
        | none => rw [hj] at hbest; exact absurd hex (hbest.none_iff hsecond)
        | some j =>
          rw [hj] at hbest
          obtain ⟨d, hd⟩ := hbest.least hsecond
          exact ⟨j, d, hd, gives hj⟩
      · cases hj : s.bestLane k with
        | none => show s.chooseTarget k = s; rw [chosen, hj]
        | some j =>
          rw [hj] at hbest
          obtain ⟨d, hd⟩ := hbest.least hsecond
          exact absurd ⟨j, d, hd.1⟩ hno
  · intro c tentative freed dropped given held
    have hheld : held = s.tentativeAt i := (s.tentativeAt_eq i).symm
    have hdropped (h : c.target = some j ∨ c.target = none) : s.dropTarget k = dropped := by
      rcases h with h | h
      · exact (State.dropTarget_some h).trans (if_pos h).symm
      · exact (State.dropTarget_none h).trans (if_neg (by rw [h]; simp)).symm
    obtain ⟨hcarriers, hinbound, hlanes⟩ := State.dropTargets_at held s (s.nodup_carriersWith _) fun m hm => by
      have := (List.mem_filter.1 hm).2
      simp only [Bool.and_eq_true, beq_iff_eq] at this
      exact this.2
    refine ⟨fun ⟨h1, h2, h3⟩ => ?_, State.rechoose_of_not, fun h => ⟨hdropped h, ?_, ?_⟩, ⟨rfl, rfl, rfl, rfl⟩, rfl, rfl, rfl,
      rfl, ?_, hcarriers, hinbound, hlanes⟩
    · rw [State.rechoose_of h1 h2 h3, State.dropTarget_some h3]
    · rw [State.enterDisposition, hdropped h]
    · rw [State.giveDisposition, State.enterDisposition, hdropped h]
    · rw [hheld]; rfl

end Sys2Proof.Machine

/-! SUPPORT. The queries of every block (R19, R20, R34, R52, R79, R80, R102, R122, R135, R150, R162, R178). -/

namespace Sys2Proof.Machine

/-! ## Commands taken -/

/-- A command whose rule takes it, with its reply data in the words of its statement. -/
theorem State.next_ok {s t : State} {l : LinkNo} {tag : Byte} {code : Nat} {body : Principal → State → Taken} {p : Principal}
    {data data' : List Byte} (h : (s.link l).state = .attached p) (hb : body p (s.setLastServed l) = .ok t data)
    (hdata : data = data') :
    (Host.Outcome.next (s.takeCommand l tag code body) : Host.Outcome State Fault Refusal)
      = .next (t.replyOk l tag code data') :=
  congrArg Host.Outcome.next ((State.takeCommand_ok h hb).trans (by rw [hdata]))

theorem State.next_refused {s : State} {l : LinkNo} {tag : Byte} {code : Nat} {body : Principal → State → Taken}
    {p : Principal} {r : RefusalCode} (h : (s.link l).state = .attached p)
    (hb : body p (s.setLastServed l) = .refused r) :
    (Host.Outcome.next (s.takeCommand l tag code body) : Host.Outcome State Fault Refusal)
      = .next ((s.setLastServed l).replyRefused l tag code r) :=
  congrArg Host.Outcome.next (State.takeCommand_refused h hb)

/-! ## Loop and mode -/

theorem shownIdentity_bytes (p : Principal) (d : Option Identity) :
    reportedBytes 3 (fun d => bytesOf 1 d.berth.number ++ bytesOf 2 d.entry) (p.shownIdentity d) = match d with
      | none => [0, 0, 0, 0]
      | some d =>
        if p = .hall ∨ p = .berth d.berth then 1 :: (bytesOf 1 d.berth.number ++ bytesOf 2 d.entry) else [2, 0, 0, 0] := by
  cases d with
  | none => rfl
  | some d => simp only [Principal.shownIdentity]; split <;> rfl

theorem shownCandidate_bytes (s : State) (p : Principal) (c : Option Tag) :
    reportedBytes 4 (fun t => tagBytes (some t)) (s.shownCandidate p c) = match c with
      | none => [0, 0, 0, 0, 0]
      | some t =>
        if p = .hall ∨ allBerths.any (fun b => p == .berth b && (s.berth b).state.ship == some t.ship) then
          1 :: (bytesOf 1 t.ship ++ bytesOf 3 t.serial)
        else [2, 0, 0, 0, 0] := by
  cases c with
  | none => cases p <;> rfl
  | some t =>
    rcases p with _ | b
    · rfl
    · have only : (allBerths.any fun a => Principal.berth b == .berth a && (s.berth a).state.ship == some t.ship)
          = ((s.berth b).state.ship == some t.ship) := by cases b <;> simp [allBerths]
      simp only [State.shownCandidate, only]
      by_cases h : (s.berth b).state.ship = some t.ship
      · simp [h, reportedBytes, tagBytes]
      · simp [h, reportedBytes]

theorem queryModeData_eq (s : State) :
    queryModeData s = bytesOf 1 s.mode.code ++ bytesOf 2 s.carriers.loaded ++ bytesOf 2 s.induction.loadLimit
        ++ bytesOf 2 s.carriers.unverified ++ bytesOf 2 (s.countState .empty) ++ bytesOf 2 (s.countState .unread)
        ++ bytesOf 2 (s.countState .unverified) ++ bytesOf 2 (s.countState .waiting)
        ++ bytesOf 2 (s.countState .carrying) ++ bytesOf 2 (s.countState .fired)
        ++ bytesOf 2 (s.carriers.table.countP (·.isUntargeted)) ++ bytesOf 1 s.coding.strays.length
        ++ bytesOf 1 s.coding.reinject.length ++ bytesOf 1 s.router.pendingTags.length := by
  simp [queryModeData]

/-! ## Induction and reading -/

theorem waitingBytes_eq (p : Principal) (w : Option Waiting) :
    waitingBytes p w = match w with
      | none => [0, 0, 0, 0, 0, 0]
      | some w => 1 :: (bytesOf 1 w.size.code ++ bytesOf 1 w.wait ++ match w.ticket with
        | none => [0, 0, 0]
        | some t => if p = .hall then 1 :: bytesOf 2 t else [2, 0, 0]) := by
  cases w with
  | none => rfl
  | some w =>
    simp only [waitingBytes, Option.map_some, groupBytes, Principal.shownTicket]
    cases w.ticket with
    | none => rfl
    | some t => dsimp only; split <;> rfl

theorem untargetedOf_eq (s : State) (p : Principal) (d : Disposition) :
    s.untargetedOf p d = s.carriers.table.countP fun c =>
      c.isUntargeted && c.disposition == some d && (p == .hall || c.identity.any fun i => p == .berth i.berth) := by
  unfold State.untargetedOf
  congr 1
  funext c
  cases c.identity with
  | none => simp
  | some i => simp [Principal.sees]

theorem seesRecord_eq (p : Principal) (b : Option BerthId) :
    p.seesRecord b = (p == .hall || b.any fun b => p == .hall || p == .berth b) := by
  cases b <;> cases h : p == .hall <;> simp [Principal.seesRecord, h]

theorem queryStraysData_eq (p : Principal) (s : State) :
    queryStraysData p s = bytesOf 2 s.coding.ticketCounter ++ bytesOf 1 s.coding.unlisted
        ++ bytesOf 1 s.coding.strays.length ++ bytesOf 1 s.coding.reinject.length
        ++ ((s.coding.strays.filter fun r => p == .hall || r.berth.any fun b => p == .hall || p == .berth b).map
          StrayRecord.bytes).flatten
        ++ ((s.coding.reinject.filter fun r => p == .hall || r.berth.any fun b => p == .hall || p == .berth b).map
          ReinjectRecord.bytes).flatten := by
  simp only [queryStraysData, seesRecord_eq]

/-- One link in the reply of QUERY LINKS. -/
theorem Link.bytes_eq (x : Link) :
    x.bytes = bytesOf 1 x.state.code ++ principalBytes x.state.principal ++ bytesOf 1 x.errorCount ++ bytesOf 1 x.checkCount
      ++ bytesOf 1 x.queue.length ++ flagByte x.allowed.hall ++ flagByte x.allowed.one ++ flagByte x.allowed.two := by
  simp [Link.bytes, Allowed.bytes]

theorem queryLinksData_eq (s : State) :
    queryLinksData s = (allLinks.map fun m => bytesOf 1 (s.link m).state.code ++ principalBytes (s.link m).state.principal
          ++ bytesOf 1 (s.link m).errorCount ++ bytesOf 1 (s.link m).checkCount ++ bytesOf 1 (s.link m).queue.length
          ++ flagByte (s.link m).allowed.hall ++ flagByte (s.link m).allowed.one ++ flagByte (s.link m).allowed.two).flatten
        ++ bytesOf 1 s.lastServed.val ++ s.principalQueryBytes .hall ++ s.principalQueryBytes (.berth .one)
        ++ s.principalQueryBytes (.berth .two) := by
  simp only [queryLinksData, Link.bytes_eq, List.map_cons, List.map_nil, List.flatten_cons, List.flatten_nil,
    List.append_nil, List.append_assoc]

theorem queryReadStationData_eq (s : State) (n : StationNo) :
    queryReadStationData s n = bytesOrFF 2 (s.station n).offset ++ flagByte (s.station n).enabled
        ++ bytesOf 1 (s.station n).heads ++ bytesOf 1 (s.station n).priority.length
        ++ ((s.station n).priority.map (bytesOf 1)).flatten ++ bytesOf 1 (s.station n).polls
        ++ bytesOf 1 (s.station n).votes ++ bytesOf 1 (s.station n).pollNumber
        ++ ((List.range (s.station n).heads).map fun h => bytesOf 1 ((s.station n).head h).score
          ++ flagByte ((s.station n).head h).suspended ++ flagByte ((s.station n).head h).degraded).flatten
        ++ groupBytes 6 ((s.station n).window.map Window.bytes) := by
  simp [queryReadStationData, Station.bytes, headSetBytes, HeadRecord.bytes]

theorem windowBytes_eq (w : Option Window) :
    groupBytes 6 (w.map Window.bytes) = match w with
      | none => [0, 0, 0, 0, 0, 0, 0]
      | some w => 1 :: (bytesOf 2 w.carrier ++ bytesOf 1 w.polls ++ bytesOf 1 w.votes ++ bytesOf 1 w.answers.length
        ++ bytesOrFF 1 (w.outstanding.map (·.head))) := by
  cases w <;> rfl

/-- Settles O21. -/
theorem queriesReportTheirBlocks : Obligations.QueriesReportTheirBlocks := by
  refine ⟨fun s l tag p k hl => ⟨State.next_ok hl rfl rfl, fun hk => ?_, fun hk => ?_, ?_⟩,
    fun s l tag p hl => ⟨?_, fun n hn => ?_, fun n => ?_⟩, fun s l tag p hl => ⟨?_, ?_⟩,
    fun s l tag p hl => ⟨fun n hn => ⟨?_, ?_⟩, fun j => ⟨?_, ?_⟩, State.next_ok hl rfl rfl, State.next_ok hl rfl rfl, ?_⟩⟩
  · exact State.next_refused hl (if_pos hk)
  · refine State.next_ok hl (if_neg (Nat.not_le.2 hk)) ?_
    rw [State.carrierBytes, shownIdentity_bytes, shownCandidate_bytes]
    rfl
  · exact State.next_ok hl rfl (queryModeData_eq _)
  · refine State.next_ok hl rfl ?_
    simp only [queryInductionData, waitingBytes_eq]
    rfl
  · exact State.next_refused hl (by simp only [queryReadStationBody, stationOf_none hn])
  · refine State.next_ok hl (by simp only [queryReadStationBody, stationOf_val]; rfl) ?_
    rw [queryReadStationData_eq, windowBytes_eq]
    rfl
  · refine State.next_ok hl rfl ?_
    simp only [queryPendingData, untargetedOf_eq]
    rfl
  · exact State.next_ok hl rfl (queryStraysData_eq p _)
  · exact State.next_refused hl (by simp only [queryLaneBody, laneOf_none hn])
  · exact State.next_refused hl (by simp only [queryDiversionBody, laneOf_none hn])
  · exact State.next_ok hl (by simp only [queryLaneBody, laneOf_val]; rfl) rfl
  · exact State.next_ok hl (by simp only [queryDiversionBody, laneOf_val]; rfl) rfl
  · exact State.next_ok hl rfl (queryLinksData_eq s)

/-! ## Queries of the manifest -/

/-- The berth that a query asks about (R79, log 29). -/
def Principal.Asks (p : Principal) (n : Option Nat) (b : BerthId) : Prop :=
  (p = .hall ∧ n = some b.number) ∨ (p = .berth b ∧ n = none)

theorem asViewer_asked {p : Principal} {n : Option Nat} {b : BerthId} (h : p.Asks n b) (s : State)
    (body : BerthId → Berth → Taken) :
    asViewer p n s body = if (s.berth b).state.isOpen then body b (s.berth b) else .refused .notConfigured := by
  rcases h with ⟨rfl, rfl⟩ | ⟨rfl, rfl⟩
  · simp only [asViewer, berthOf_number]
  · rfl

theorem berthOf_eq_some {n : Nat} {b : BerthId} (h : berthOf n = some b) : n = b.number := by
  unfold berthOf at h
  split at h
  · cases h; rfl
  · cases h; rfl
  · cases h

theorem asViewer_not_asked {p : Principal} {n : Option Nat} (h : ¬∃ b, p.Asks n b) (s : State)
    (body : BerthId → Berth → Taken) : asViewer p n s body = .refused .badValue := by
  unfold asViewer
  dsimp only
  split
  · rfl
  next b hb =>
    refine absurd ⟨b, ?_⟩ h
    rcases p with _ | a
    · cases n with
      | none => cases hb
      | some n => exact .inl ⟨rfl, by rw [berthOf_eq_some hb]⟩
    · cases n with
      | none => cases hb; exact .inr ⟨rfl, rfl⟩
      | some n => cases hb

theorem asViewer_open {p : Principal} {n : Option Nat} {b : BerthId} (h : p.Asks n b) {s : State}
    (ho : (s.berth b).state ≠ .unbound) (body : BerthId → Berth → Taken) :
    asViewer p n s body = body b (s.berth b) := by
  rw [asViewer_asked h, if_pos (BerthState.isOpen_iff.2 ho)]

theorem asViewer_unbound {p : Principal} {n : Option Nat} {b : BerthId} (h : p.Asks n b) {s : State}
    (ho : (s.berth b).state = .unbound) (body : BerthId → Berth → Taken) :
    asViewer p n s body = .refused .notConfigured := by
  rw [asViewer_asked h, ho]
  rfl

theorem isCabin_iff (n : Nat) : isCabin n = true ↔ 1 ≤ n ∧ n ≤ 9999 := by
  rw [isCabin, Bool.and_eq_true, decide_eq_true_eq, decide_eq_true_eq]; rfl

theorem Carrier.isOf_eq (c : Carrier) (b : BerthId) : c.isOf b = c.identity.any fun d => d.berth == b := by
  unfold Carrier.isOf
  cases c.identity <;> rfl

theorem queryBerthData_eq (s : State) (b : BerthId) :
    queryBerthData s b = bytesOf 1 (s.berth b).state.code ++ bytesOrZero 1 (s.berth b).state.ship
        ++ bytesOf 2 (s.berth b).cabins.length ++ bytesOf 2 (s.berth b).tags.length
        ++ bytesOf 2 ((s.berth b).tags.countP fun e => e.state == .expected)
        ++ bytesOf 2 ((s.berth b).tags.countP fun e => e.state == .onLoop)
        ++ bytesOf 2 ((s.berth b).tags.countP fun e => e.state == .delivered)
        ++ bytesOf 2 ((s.berth b).tags.countP fun e => e.state == .inHold)
        ++ bytesOf 2 ((s.berth b).tags.countP fun e => e.state == .strayed)
        ++ bytesOf 2 ((s.berth b).tags.countP fun e => e.state == .offSystem)
        ++ bytesOf 1 (s.router.pendingTags.countP fun t => t.berth == b)
        ++ bytesOf 2 (s.carriers.table.countP fun c => c.identity.any fun d => d.berth == b) := by
  simp [queryBerthData, Carrier.isOf_eq]

/-- Settles O22. -/
theorem manifestQueriesReport : Obligations.ManifestQueriesReport := by
  intro s l tag p hl asked
  refine ⟨fun n e c h => ⟨?_, ?_⟩, fun n b e c h ho => ⟨?_, ?_⟩, fun n b e h ho => ⟨fun he => ?_, fun he hf => ?_, fun x he hf => ?_⟩,
    fun n b c h ho => ⟨fun hc => ?_, fun h1 h2 hf => ?_, fun x h1 h2 hf => ?_⟩, fun n h1 h2 => ?_, fun b => ?_⟩
  · exact State.next_refused hl (asViewer_not_asked h _ _)
  · exact State.next_refused hl (asViewer_not_asked h _ _)
  · exact State.next_refused hl (asViewer_unbound (s := s.setLastServed l) h ho _)
  · exact State.next_refused hl (asViewer_unbound (s := s.setLastServed l) h ho _)
  · exact State.next_refused hl ((asViewer_open (s := s.setLastServed l) h ho _).trans (if_pos (by rw [he]; rfl)))
  · refine State.next_refused hl ((asViewer_open (s := s.setLastServed l) h ho _).trans ?_)
    simp only [State.berth_setLastServed, he, hf]
    rfl
  · refine State.next_ok hl ((asViewer_open (s := s.setLastServed l) h ho _).trans ?_) rfl
    simp only [State.berth_setLastServed, he, hf]
    rfl
  · refine State.next_refused hl ((asViewer_open (s := s.setLastServed l) h ho _).trans (if_pos ?_))
    rw [Bool.not_eq_true', Bool.eq_false_iff, ne_eq, isCabin_iff]
    exact hc
  · refine State.next_refused hl ((asViewer_open (s := s.setLastServed l) h ho _).trans ?_)
    simp only [State.berth_setLastServed, (isCabin_iff c).2 ⟨h1, h2⟩, hf]
    rfl
  · refine State.next_ok (data := (s.berth b).cabinData x) hl ((asViewer_open (s := s.setLastServed l) h ho _).trans ?_) ?_
    · simp only [State.berth_setLastServed, (isCabin_iff c).2 ⟨h1, h2⟩, hf]
      rfl
    · rfl
  · exact State.next_refused hl (by simp only [queryBerthBody, berthOf_none h1 h2])
  · exact State.next_ok hl (by simp only [queryBerthBody, berthOf_number]; rfl) (queryBerthData_eq _ b)

end Sys2Proof.Machine

/-! SUPPORT. The settings that HALL stores: the loop (R8, R18), the limits (R31, R32, R100), read voting and head records
(R38, R51), lanes (R105, R107). -/

namespace Sys2Proof.Machine

/-! ## The loop -/

theorem clampTo_top {high n : Nat} : clampTo 0 high n = min high n := Nat.max_eq_right (Nat.zero_le _)

theorem isOffset_eq_false_iff {count : Nat} {offset : Option Nat} :
    isOffset count offset = false ↔ ∃ d, offset = some d ∧ count ≤ d := by
  cases offset with
  | none => simp [isOffset]
  | some d => simp [isOffset]

theorem isOffset_eq_true_iff {count : Nat} {offset : Option Nat} :
    isOffset count offset = true ↔ ¬∃ d, offset = some d ∧ count ≤ d := by
  rw [← isOffset_eq_false_iff, Bool.not_eq_false]

/-- Every configured offset stands in the list that CONFIGURE LOOP looks through (R18). -/
theorem State.any_offsets_iff (s : State) (count : Nat) :
    s.offsets.any (count ≤ ·) = true ↔
      (∃ i d, (s.point i).offset = some d ∧ count ≤ d) ∨ (∃ n d, (s.station n).offset = some d ∧ count ≤ d)
        ∨ ∃ j d, (s.lane j).offset = some d ∧ count ≤ d := by
  have points : ∀ i : PointNo, i ∈ allPoints := by decide
  have stations : ∀ n : StationNo, n ∈ allStations := by decide
  simp only [State.offsets, List.any_append, List.any_filterMap, Bool.or_eq_true, List.any_eq_true, or_assoc]
  have one (o : Option Nat) : Option.any (fun d => decide (count ≤ d)) o = true ↔ ∃ d, o = some d ∧ count ≤ d := by
    cases o <;> simp
  constructor
  · rintro (⟨i, -, h⟩ | ⟨n, -, h⟩ | ⟨j, -, h⟩)
    · exact .inl ⟨i, (one _).1 h⟩
    · exact .inr (.inl ⟨n, (one _).1 h⟩)
    · exact .inr (.inr ⟨j, (one _).1 h⟩)
  · rintro (⟨i, h⟩ | ⟨n, h⟩ | ⟨j, h⟩)
    · exact .inl ⟨i, points i, (one _).2 h⟩
    · exact .inr (.inl ⟨n, stations n, (one _).2 h⟩)
    · exact .inr (.inr ⟨j, mem_allLanes j, (one _).2 h⟩)

/-- Settles O23. -/
theorem configureLoopStoresGeometry : Obligations.ConfigureLoopStoresGeometry := by
  intro s l tag p count commit hl tooSmall refused
  have offsets : (s.setLastServed l).offsets.any (count ≤ ·) = true ↔ tooSmall := State.any_offsets_iff _ count
  refine ⟨fun hp => State.next_refused hl (if_pos hp), ?_, ?_, ?_⟩
  · rintro rfl hm
    exact State.next_refused hl ((if_neg (not_not.2 rfl)).trans (if_pos hm))
  · rintro rfl hm hbad
    refine State.next_refused hl ((if_neg (not_not.2 rfl)).trans ((if_neg (not_not.2 hm)).trans ?_))
    by_cases hrange : 64 ≤ count ∧ count ≤ 1024
    · have small : tooSmall := by
        rcases hbad with h | h | h
        · exact absurd hrange.1 (Nat.not_le.2 h)
        · exact absurd hrange.2 (Nat.not_le.2 h)
        · exact h
      rw [if_neg (by simp [hrange]), if_pos (offsets.2 small)]
    · exact if_pos (by rw [Bool.not_eq_true', Bool.and_eq_false_iff, decide_eq_false_iff_not, decide_eq_false_iff_not]; omega)
  · rintro rfl hm hlow hhigh hfit k
    refine (State.next_ok hl ((if_neg (not_not.2 rfl)).trans ((if_neg (not_not.2 hm)).trans ((if_neg (by simp [hlow, hhigh])).trans
      (if_neg fun h => hfit (offsets.1 h))))) rfl).trans ?_
    by_cases hc : count = s.loop.count
    · subst hc
      have kept : (s.setLastServed l).resize s.loop.count = s.setLastServed l := if_pos rfl
      simp only [kept, ↓reduceIte]
      rfl
    · have remade : (s.setLastServed l).resize count
          = ((s.setLastServed l).setLoop { s.loop with count := count, position := 0 }).setCarriers
            (CarrierTable.allEmpty count) := if_neg hc
      simp only [remade, hc, ↓reduceIte]
      rfl

/-! ## Limits, voting, heads -/

/-- Settles O24. -/
theorem limitsVotingAndHeadsAreSet : Obligations.LimitsVotingAndHeadsAreSet := by
  constructor
  · intro s l tag n m hl
    exact ⟨State.next_ok hl rfl rfl, State.next_ok hl rfl rfl,
      (State.next_ok hl rfl rfl).trans (by simp only [clampTo_top]; rfl)⟩
  · intro s l tag station n w v h hl x w' v'
    refine ⟨fun hs => ⟨?_, ?_⟩, ?_, fun ho => ?_, fun ho hh => ?_, fun ho hh => ?_⟩
    · exact State.next_refused hl (by simp only [setReadVotingBody, stationOf_none hs]; rfl)
    · exact State.next_refused hl (by simp only [restoreHeadBody, stationOf_none hs]; rfl)
    · exact State.next_ok hl (by simp only [setReadVotingBody, stationOf_val]; rfl) rfl
    · exact State.next_refused hl (by simp only [restoreHeadBody, stationOf_val]; exact if_pos ho)
    · exact State.next_refused hl (by
        simp only [restoreHeadBody, stationOf_val]
        exact (if_neg ho).trans (if_pos hh))
    · exact State.next_ok hl (by
        simp only [restoreHeadBody, stationOf_val]
        exact (if_neg ho).trans (if_neg (Nat.not_le.2 hh))) rfl

/-! ## Lanes -/

/-- A diverter stored as it stands changes nothing. -/
theorem State.setDiverter_same {s : State} {j : LaneNo} {d : Diverter} (h : s.diverter j = d) : s.setDiverter j d = s := by
  subst h
  exact congrArg s.setDiverters (Vector.set_getElem_self j.isLt)

/-- R107: what the capacity is clamped to, by the range that it falls in. -/
theorem Lane.clampCapacity_eq (x : Lane) (n : Nat) :
    x.clampCapacity n = if n < x.fill + x.inbound ∧ x.fill + x.inbound ≤ 255 then x.fill + x.inbound
      else if 255 < n ∨ 255 < x.fill + x.inbound then 255 else n := by
  unfold Lane.clampCapacity
  split <;> [skip; split] <;> omega

/-- Settles O26. -/
theorem laneIsConfiguredAndClamped : Obligations.LaneIsConfiguredAndClamped := by
  constructor
  · intro s l tag lane j offset capacity hl x c refused tooFar inUse y
    have body (lane : Nat) (hm : s.mode = .setup) : configureLaneBody lane offset capacity .hall (s.setLastServed l) = _ :=
      (if_neg (not_not.2 rfl)).trans (if_neg (not_not.2 hm))
    refine ⟨fun hm => State.next_refused hl ((if_neg (not_not.2 rfl)).trans (if_pos hm)), fun hm hj => ?_, fun hm far => ?_,
      fun hm far used => ?_, fun hm far used => ?_⟩
    · exact State.next_refused hl ((body lane hm).trans (by simp only [laneOf_none hj]))
    · refine State.next_refused hl ((body j.val hm).trans ?_)
      simp only [laneOf_val]
      exact if_pos (by rw [Bool.not_eq_true']; exact isOffset_eq_false_iff.2 far)
    · refine State.next_refused hl ((body j.val hm).trans ?_)
      simp only [laneOf_val]
      exact (if_neg (by rw [Bool.not_eq_true, Bool.not_eq_false']; exact isOffset_eq_true_iff.2 far)).trans (if_pos used)
    · refine (State.next_ok hl ((body j.val hm).trans ?_) rfl)
      simp only [laneOf_val]
      refine (if_neg (by rw [Bool.not_eq_true, Bool.not_eq_false']; exact isOffset_eq_true_iff.2 far)).trans ((if_neg used).trans ?_)
      refine congrArg (Taken.ok · y.bytes) ?_
      by_cases ho : x.offset = offset
      · refine (if_pos ho).trans (State.setDiverter_same ?_).symm
        rw [if_pos ho]
        rfl
      · refine (if_neg ho).trans ?_
        rw [if_neg ho]
        rfl
  · intro s l tag p lane j n hl x stored
    refine ⟨fun hp => State.next_refused hl (if_pos hp), ?_, ?_⟩
    · rintro rfl hj
      exact State.next_refused hl (by simp only [setLaneCapacityBody, laneOf_none hj]; rfl)
    rintro rfl
    refine (State.next_ok hl (by simp only [setLaneCapacityBody, laneOf_val]; rfl) rfl).trans ?_
    show _ = Host.Outcome.next (((s.setLastServed l).setLane j { x with capacity := stored }).replyOk l tag 0x1C (bytesOf 1 stored))
    rw [show stored = x.clampCapacity n from (x.clampCapacity_eq n).symm]
    rfl

end Sys2Proof.Machine

/-! SUPPORT. CONFIGURE INDUCTION POINT and CONFIGURE READ STATION (R33, R37). -/

namespace Sys2Proof.Machine

/-! ## Induction points -/

theorem State.offsetTaken_iff (s : State) (i : PointNo) (offset : Option Nat) :
    s.offsetTaken i offset = true ↔ ∃ d q, offset = some d ∧ q ≠ i ∧ (s.point q).offset = some d := by
  have all : ∀ q : PointNo, q ∈ allPoints := by decide
  cases offset with
  | none => simp [State.offsetTaken]
  | some d => simp [State.offsetTaken, all]

theorem State.stationOffsetTaken_iff (s : State) (n : StationNo) (offset : Option Nat) :
    s.stationOffsetTaken n offset = true ↔ ∃ d m, offset = some d ∧ m ≠ n ∧ (s.station m).offset = some d := by
  have all : ∀ m : StationNo, m ∈ allStations := by decide
  cases offset with
  | none => simp [State.stationOffsetTaken]
  | some d => simp [State.stationOffsetTaken, all]

theorem Point.takesPart_configured (x : Point) (offset : Option Nat) (enabled mark : Bool) :
    (x.configured offset enabled mark).takesPart = (offset.isSome && enabled) := by
  cases mark <;> rfl

theorem Point.offset_configured (x : Point) (offset : Option Nat) (enabled mark : Bool) :
    (x.configured offset enabled mark).offset = offset := by
  cases mark <;> rfl

theorem Point.enabled_configured (x : Point) (offset : Option Nat) (enabled mark : Bool) :
    (x.configured offset enabled mark).enabled = enabled := by
  cases mark <;> rfl

theorem Point.mark_configured (x : Point) (offset : Option Nat) (enabled mark : Bool) :
    (x.configured offset enabled mark).mark = mark := by
  cases mark <;> rfl

theorem Point.waiting_configured (x : Point) (offset : Option Nat) (enabled mark : Bool) :
    (x.configured offset enabled mark).waiting
      = x.waiting.map fun w => { w with ticket := if mark then w.ticket else none } := by
  cases mark
  · rfl
  · exact (Option.map_id' (x := x.waiting)).symm

/-- R33: the mark leaves the other points, and nothing else is touched. -/
theorem State.unmarkOthers_frame (s : State) (i : PointNo) :
    s.changesOnly (s.unmarkOthers i) [.induction]
      ∧ (s.unmarkOthers i).induction.loadLimit = s.induction.loadLimit
      ∧ (s.unmarkOthers i).induction.starveLimit = s.induction.starveLimit := by
  refine ⟨forEach_changesOnly (fun s q => ?_) _ _, forEach_same (·.induction.loadLimit) _ _ _ fun s q _ => ?_,
    forEach_same (·.induction.starveLimit) _ _ _ fun s q _ => ?_⟩
  all_goals split
  · exact State.changesOnly_setPoint _ _ _
  · exact s.changesOnly_refl _
  all_goals rfl

/-- The marks after CONFIGURE INDUCTION POINT, before the point itself is stored (R33). -/
def State.remarked (s : State) (i : PointNo) (mark : Bool) : State :=
  if mark then s.unmarkOthers i else s

theorem State.remarked_frame (s : State) (i : PointNo) (mark : Bool) :
    s.changesOnly (s.remarked i mark) [.induction]
      ∧ (s.remarked i mark).induction.loadLimit = s.induction.loadLimit
      ∧ (s.remarked i mark).induction.starveLimit = s.induction.starveLimit := by
  cases mark
  · exact ⟨s.changesOnly_refl _, rfl, rfl⟩
  · exact s.unmarkOthers_frame i

theorem State.point_remarked_same (s : State) (i : PointNo) (mark : Bool) : (s.remarked i mark).point i = s.point i := by
  cases mark
  · rfl
  · exact (s.mark_unmarkOthers i i).trans (if_neg fun h => h.1 rfl)

theorem State.point_remarked_ne (s : State) {i q : PointNo} (mark : Bool) (h : q ≠ i) :
    (s.remarked i mark).point q = if mark = true ∧ (s.point q).mark = true then (s.point q).unmark else s.point q := by
  cases mark
  · simp [State.remarked]
  · simp [State.remarked, s.mark_unmarkOthers i q, h]

theorem State.turnAway_of_not {s : State} {i : PointNo} (h : (s.point i).takesPart = true ∨ (s.point i).waiting = none) :
    s.turnAway i = s := by
  refine if_neg ?_
  rcases h with h | h <;> simp [h]

theorem State.turnAway_of {s : State} {i : PointNo} (h : (s.point i).takesPart = false) (hw : (s.point i).waiting ≠ none) :
    s.turnAway i = ((s.removeWaiting i).endReservation i).handOver (.reject i .closed) :=
  if_pos (by simp [h, Option.isSome_iff_ne_none.2 hw])

/-- R33: what a point stored by CONFIGURE INDUCTION POINT leaves behind. -/
theorem State.point_turnAway (s : State) (i q : PointNo) :
    (s.turnAway i).point q = if q = i ∧ (s.point i).takesPart = false then { s.point q with waiting := none }
      else s.point q := by
  by_cases h : (s.point i).takesPart = false ∧ (s.point i).waiting ≠ none
  · rw [State.turnAway_of h.1 h.2]
    have moved : ((((s.removeWaiting i).endReservation i).handOver (.reject i .closed)).point q) = (s.removeWaiting i).point q := by
      rw [State.handOver_eq]; split <;> rfl
    rw [moved]
    by_cases hq : q = i
    · rw [hq, if_pos ⟨rfl, h.1⟩]; exact State.point_setPoint _ _ _
    · rw [if_neg fun h => hq h.1]; exact State.point_setPoint_ne _ _ hq
  · rw [State.turnAway_of_not (by simpa [or_iff_not_imp_left] using h)]
    split
    next hq =>
      obtain ⟨rfl, ht⟩ := hq
      have none : (s.point q).waiting = none := by simpa [ht] using h
      rw [← none]
    next => rfl

theorem State.turnAway_frame (s : State) (i : PointNo) :
    s.changesOnly (s.turnAway i) [.induction, .carriers, .orders]
      ∧ (s.turnAway i).induction.loadLimit = s.induction.loadLimit
      ∧ (s.turnAway i).induction.starveLimit = s.induction.starveLimit := by
  unfold State.turnAway
  split
  · refine ⟨State.changesOnly_comp (State.changesOnly_comp (s.changesOnly_setPoint i _)
      (State.changesOnly_endReservation _ i) (rs := [.induction, .carriers]) (by simp) (by simp))
      (State.changesOnly_handOver _ _) (by simp) (by simp), ?_, ?_⟩
    all_goals rw [State.handOver_eq]; split <;> rfl
  · exact ⟨s.changesOnly_refl _, rfl, rfl⟩

/-- The state that CONFIGURE INDUCTION POINT leaves (R33). -/
def State.pointConfigured (s : State) (i : PointNo) (offset : Option Nat) (enabled mark : Bool) : State :=
  ((s.remarked i mark).setPoint i ((s.point i).configured offset enabled mark)).turnAway i

theorem State.pointConfigured_frame (s : State) (i : PointNo) (offset : Option Nat) (enabled mark : Bool) :
    s.changesOnly (s.pointConfigured i offset enabled mark) [.induction, .carriers, .orders]
      ∧ (s.pointConfigured i offset enabled mark).induction.loadLimit = s.induction.loadLimit
      ∧ (s.pointConfigured i offset enabled mark).induction.starveLimit = s.induction.starveLimit := by
  obtain ⟨f1, l1, s1⟩ := s.remarked_frame i mark
  obtain ⟨f2, l2, s2⟩ := ((s.remarked i mark).setPoint i ((s.point i).configured offset enabled mark)).turnAway_frame i
  exact ⟨State.changesOnly_comp (State.changesOnly_trans f1 (State.changesOnly_setPoint _ i _)) f2 (by simp) (by simp),
    l2.trans l1, s2.trans s1⟩

theorem State.point_pointConfigured_same (s : State) (i : PointNo) (offset : Option Nat) (enabled mark : Bool) :
    (s.pointConfigured i offset enabled mark).point i
      = if (offset.isSome && enabled) = false then { (s.point i).configured offset enabled mark with waiting := none }
        else (s.point i).configured offset enabled mark := by
  rw [State.pointConfigured, State.point_turnAway, State.point_setPoint, Point.takesPart_configured]
  simp

theorem State.point_pointConfigured_ne (s : State) {i q : PointNo} (offset : Option Nat) (enabled mark : Bool) (h : q ≠ i) :
    (s.pointConfigured i offset enabled mark).point q
      = if mark = true ∧ (s.point q).mark = true then (s.point q).unmark else s.point q := by
  rw [State.pointConfigured, State.point_turnAway, if_neg fun hq => h hq.1, State.point_setPoint_ne _ _ h,
    s.point_remarked_ne mark h]

/-- A point that takes part, or that holds no bag, gives up nothing (R33). -/
theorem State.pointConfigured_keeps (s : State) {i : PointNo} {offset : Option Nat} {enabled : Bool} (mark : Bool)
    (h : (offset.isSome && enabled) = true ∨ (s.point i).waiting = none) :
    (s.pointConfigured i offset enabled mark).carriers = s.carriers
      ∧ (s.pointConfigured i offset enabled mark).orders = s.orders := by
  have kept := (s.remarked_frame i mark).1
  rw [State.pointConfigured, State.turnAway_of_not]
  · exact ⟨kept .carriers (by simp), kept .orders (by simp)⟩
  · rw [State.point_setPoint, Point.takesPart_configured, Point.waiting_configured]
    exact h.imp_right fun hw => by rw [hw]; rfl

/-- A point that no longer takes part gives up its bag and its reservation (R33). -/
theorem State.pointConfigured_gives_up (s : State) {i : PointNo} {offset : Option Nat} {enabled : Bool} (mark : Bool)
    (h : (offset.isSome && enabled) = false) (hw : (s.point i).waiting ≠ none) :
    (s.pointConfigured i offset enabled mark).carriers
        = { s.carriers with table := s.carriers.table.map (·.unreserve i) }
      ∧ (s.pointConfigured i offset enabled mark).orders
        = if s.orders.length < 32 then s.orders ++ [.reject i .closed] else s.orders := by
  have kept := (s.remarked_frame i mark).1
  have carriers : (s.remarked i mark).carriers = s.carriers := kept .carriers (by simp)
  have orders : (s.remarked i mark).orders = s.orders := kept .orders (by simp)
  rw [State.pointConfigured, State.turnAway_of]
  · refine ⟨?_, ?_⟩
    · rw [State.carriers_handOver]
      exact congrArg (fun t : CarrierTable => { t with table := t.table.map (Carrier.unreserve · i) }) carriers
    · rw [State.handOver_eq, ← orders]
      split
      next hlt => exact (if_pos hlt).symm
      next hlt => exact (if_neg hlt).symm
  · rw [State.point_setPoint, Point.takesPart_configured, h]
  · rw [State.point_setPoint, Point.waiting_configured]
    simpa using hw

/-- R33: the checks of CONFIGURE INDUCTION POINT in order. -/
theorem configureInductionPointBody_eq (s : State) (i : PointNo) (offset : Option Nat) (enabled mark : Bool) :
    configureInductionPointBody i.val offset enabled mark .hall s
      = if !isOffset s.loop.count offset then .refused .badValue
        else if s.offsetTaken i offset then .refused .duplicate
        else if enabled ∧ offset = none then .refused .notConfigured
        else if s.mode ≠ .setup ∧ ¬(offset = (s.point i).offset ∧ mark = (s.point i).mark) then .refused .wrongMode
        else .ok (s.pointConfigured i offset enabled mark) (((s.pointConfigured i offset enabled mark).point i).bytes
          ++ bytesOrFF 1 ((s.pointConfigured i offset enabled mark).markedPoint.map Fin.val)) := by
  simp only [configureInductionPointBody, pointOf_val, State.pointConfigured, ← State.point_remarked_same s i mark]
  exact if_neg (not_not.2 rfl)

theorem State.point_pointConfigured_items (s : State) (i : PointNo) (offset : Option Nat) (enabled mark : Bool) :
    ((s.pointConfigured i offset enabled mark).point i).offset = offset
      ∧ ((s.pointConfigured i offset enabled mark).point i).enabled = enabled
      ∧ ((s.pointConfigured i offset enabled mark).point i).mark = mark := by
  rw [State.point_pointConfigured_same]
  have stored : ((s.point i).configured offset enabled mark).offset = offset
      ∧ ((s.point i).configured offset enabled mark).enabled = enabled
      ∧ ((s.point i).configured offset enabled mark).mark = mark :=
    ⟨Point.offset_configured .., Point.enabled_configured .., Point.mark_configured ..⟩
  split <;> exact stored

/-- R37: the checks of CONFIGURE READ STATION in order. -/
theorem configureReadStationBody_eq (s : State) (n : StationNo) (offset : Option Nat) (heads : Nat) (priority : List Nat)
    (enabled : Bool) :
    configureReadStationBody n.val offset heads priority enabled .hall s
      = if !isOffset s.loop.count offset then .refused .badValue
        else if !(1 ≤ heads && heads ≤ 8) then .refused .badValue
        else if !(priority.length ≤ 4 && priority.all (· < heads)) then .refused .badValue
        else if s.stationOffsetTaken n offset then .refused .duplicate
        else if enabled ∧ offset = none then .refused .notConfigured
        else if s.mode ≠ .setup ∧ ¬(offset = (s.station n).offset ∧ heads = (s.station n).heads
          ∧ canonicalSet priority = (s.station n).priority) then .refused .wrongMode
        else if s.mode ≠ .setup ∧ !enabled ∧ !s.otherStationReads n then .refused .badConfig
        else .ok (s.setStation n ((s.station n).configured offset heads (canonicalSet priority) enabled))
          ((s.station n).configured offset heads (canonicalSet priority) enabled).bytes := by
  simp only [configureReadStationBody, stationOf_val]
  exact if_neg (not_not.2 rfl)

/-- The first part of O25. -/
theorem pointIsConfigured (s : State) (l : LinkNo) (tag : Byte) (i : PointNo) (offset : Option Nat) (enabled mark : Bool)
    (hl : (s.link l).state = .attached .hall) :
    let c := Instr.configureInductionPoint l tag i.val offset enabled mark
    let refused (r : RefusalCode) := exec c s = .next ((s.setLastServed l).replyRefused l tag 0x04 r)
    let tooFar := ∃ d, offset = some d ∧ s.loop.count ≤ d
    let shared := ∃ d q, offset = some d ∧ q ≠ i ∧ (s.point q).offset = some d
    let bare := enabled = true ∧ offset = none
    let fixed := s.mode = .setup ∨ (offset = (s.point i).offset ∧ mark = (s.point i).mark)
    let t := (s.setLastServed l).pointConfigured i offset enabled mark
    (tooFar → refused .badValue)
    ∧ (¬tooFar → shared → refused .duplicate)
    ∧ (¬tooFar → ¬shared → bare → refused .notConfigured)
    ∧ (¬tooFar → ¬shared → ¬bare → ¬fixed → refused .wrongMode)
    ∧ (¬tooFar → ¬shared → ¬bare → fixed → exec c s = .next (t.replyOk l tag 0x04 (bytesOrFF 2 offset ++ flagByte enabled
      ++ flagByte mark ++ bytesOrFF 1 ((allPoints.find? fun q => (t.point q).mark).map Fin.val)))) := by
  intro c refused tooFar shared bare fixed t
  have body := configureInductionPointBody_eq (s.setLastServed l) i offset enabled mark
  have far : (!isOffset (s.setLastServed l).loop.count offset) = true ↔ tooFar := by
    rw [Bool.not_eq_true', isOffset_eq_false_iff]; rfl
  have taken : (s.setLastServed l).offsetTaken i offset = true ↔ shared := State.offsetTaken_iff _ i offset
  have wrong : ((s.setLastServed l).mode ≠ .setup ∧ ¬(offset = ((s.setLastServed l).point i).offset
      ∧ mark = ((s.setLastServed l).point i).mark)) ↔ ¬fixed := not_or.symm
  refine ⟨fun h1 => ?_, fun h1 h2 => ?_, fun h1 h2 h3 => ?_, fun h1 h2 h3 h4 => ?_, fun h1 h2 h3 h4 => ?_⟩
  · exact State.next_refused hl (body.trans (if_pos (far.2 h1)))
  · exact State.next_refused hl (body.trans ((if_neg (mt far.1 h1)).trans (if_pos (taken.2 h2))))
  · exact State.next_refused hl (body.trans ((if_neg (mt far.1 h1)).trans ((if_neg (mt taken.1 h2)).trans (if_pos h3))))
  · exact State.next_refused hl (body.trans ((if_neg (mt far.1 h1)).trans ((if_neg (mt taken.1 h2)).trans
      ((if_neg h3).trans (if_pos (wrong.2 h4))))))
  · refine State.next_ok hl (body.trans ((if_neg (mt far.1 h1)).trans ((if_neg (mt taken.1 h2)).trans ((if_neg h3).trans
      (if_neg (mt wrong.1 (not_not.2 h4))))))) ?_
    obtain ⟨ho, he, hm⟩ := State.point_pointConfigured_items (s.setLastServed l) i offset enabled mark
    rw [Point.bytes, ho, he, hm]
    rfl

/-- The second part of O25. -/
theorem stationIsConfigured (s : State) (l : LinkNo) (tag : Byte) (n : StationNo) (offset : Option Nat) (heads : Nat)
    (priority : List Nat) (enabled : Bool) (hl : (s.link l).state = .attached .hall) :
    let c := Instr.configureReadStation l tag n.val offset heads priority enabled
    let refused (r : RefusalCode) := exec c s = .next ((s.setLastServed l).replyRefused l tag 0x08 r)
    let x := s.station n
    let chosen := canonicalSet priority
    let bad := (∃ d, offset = some d ∧ s.loop.count ≤ d) ∨ heads = 0 ∨ 8 < heads ∨ 4 < priority.length
      ∨ ∃ h ∈ priority, heads ≤ h
    let shared := ∃ d m, offset = some d ∧ m ≠ n ∧ (s.station m).offset = some d
    let bare := enabled = true ∧ offset = none
    let fixed := s.mode = .setup ∨ (offset = x.offset ∧ heads = x.heads ∧ chosen = x.priority)
    let last := s.mode ≠ .setup ∧ enabled = false
      ∧ ¬∃ m, m ≠ n ∧ (s.station m).enabled = true ∧ (s.station m).offset ≠ none
    (bad → refused .badValue)
    ∧ (¬bad → shared → refused .duplicate)
    ∧ (¬bad → ¬shared → bare → refused .notConfigured)
    ∧ (¬bad → ¬shared → ¬bare → ¬fixed → refused .wrongMode)
    ∧ (¬bad → ¬shared → ¬bare → fixed → last → refused .badConfig)
    ∧ (¬bad → ¬shared → ¬bare → fixed → ¬last → exec c s = .next (((s.setLastServed l).setStation n
      (x.configured offset heads chosen enabled)).replyOk l tag 0x08 (x.configured offset heads chosen enabled).bytes)) := by
  intro c refused x chosen bad shared bare fixed last
  have body := configureReadStationBody_eq (s.setLastServed l) n offset heads priority enabled
  have far : (!isOffset (s.setLastServed l).loop.count offset) = true ↔ ∃ d, offset = some d ∧ s.loop.count ≤ d := by
    rw [Bool.not_eq_true', isOffset_eq_false_iff]; rfl
  have noHeads : (!(decide (1 ≤ heads) && decide (heads ≤ 8))) = true ↔ heads = 0 ∨ 8 < heads := by
    rw [Bool.not_eq_true', Bool.and_eq_false_iff, decide_eq_false_iff_not, decide_eq_false_iff_not]; omega
  have noSet : (!(decide (priority.length ≤ 4) && priority.all (· < heads))) = true
      ↔ 4 < priority.length ∨ ∃ h ∈ priority, heads ≤ h := by
    rw [Bool.not_eq_true', Bool.and_eq_false_iff, decide_eq_false_iff_not, List.all_eq_false]; simp
  have taken : (s.setLastServed l).stationOffsetTaken n offset = true ↔ shared := State.stationOffsetTaken_iff _ n offset
  have wrong : ((s.setLastServed l).mode ≠ .setup ∧ ¬(offset = ((s.setLastServed l).station n).offset
      ∧ heads = ((s.setLastServed l).station n).heads ∧ canonicalSet priority = ((s.setLastServed l).station n).priority))
      ↔ ¬fixed := not_or.symm
  have reads : (s.setLastServed l).otherStationReads n = true
      ↔ ∃ m, m ≠ n ∧ (s.station m).enabled = true ∧ (s.station m).offset ≠ none := by
    have all : ∀ m : StationNo, m ∈ allStations := by decide
    simp [State.otherStationReads, all, and_assoc, Option.isSome_iff_ne_none]
  have lastOne : ((s.setLastServed l).mode ≠ .setup ∧ (!enabled) = true ∧ (!(s.setLastServed l).otherStationReads n) = true)
      ↔ last := by
    rw [Bool.not_eq_true', Bool.not_eq_true', ← Bool.not_eq_true (State.otherStationReads _ _), reads]; rfl
  have checked (h : ¬bad) : configureReadStationBody n.val offset heads priority enabled .hall (s.setLastServed l) = _ :=
    body.trans ((if_neg fun hf => h (.inl (far.1 hf))).trans ((if_neg fun hf => h (.inr ((noHeads.1 hf).imp_right .inl))).trans
      (if_neg fun hf => h (.inr (.inr (.inr (noSet.1 hf)))))))
  refine ⟨fun h1 => State.next_refused hl (body.trans ?_), fun h1 h2 => State.next_refused hl ?_,
    fun h1 h2 h3 => State.next_refused hl ?_, fun h1 h2 h3 h4 => State.next_refused hl ?_,
    fun h1 h2 h3 h4 h5 => State.next_refused hl ?_, fun h1 h2 h3 h4 h5 => State.next_ok hl ?_ rfl⟩
  · split_ifs with a b c
    · rfl
    · rfl
    · rfl
    all_goals
      rcases h1 with h | h | h | h
      · exact absurd (far.2 h) a
      · exact absurd (noHeads.2 (.inl h)) b
      · exact absurd (noHeads.2 (.inr h)) b
      · exact absurd (noSet.2 h) c
  · exact (checked h1).trans (if_pos (taken.2 h2))
  · exact (checked h1).trans ((if_neg (mt taken.1 h2)).trans (if_pos h3))
  · exact (checked h1).trans ((if_neg (mt taken.1 h2)).trans ((if_neg h3).trans (if_pos (wrong.2 h4))))
  · exact (checked h1).trans ((if_neg (mt taken.1 h2)).trans ((if_neg h3).trans ((if_neg (mt wrong.1 (not_not.2 h4))).trans
      (if_pos (lastOne.2 h5)))))
  · exact (checked h1).trans ((if_neg (mt taken.1 h2)).trans ((if_neg h3).trans ((if_neg (mt wrong.1 (not_not.2 h4))).trans
      (if_neg (mt lastOne.1 h5)))))

/-- Settles O25. -/
theorem pointsAndStationsAreConfigured : Obligations.PointsAndStationsAreConfigured := by
  constructor
  · intro s l tag point i offset enabled mark hl c refused tooFar shared bare fixed takesPart
    obtain ⟨r1, r2, r3, r4, stored⟩ := pointIsConfigured s l tag i offset enabled mark hl
    refine ⟨fun h => State.next_refused hl (by simp only [configureInductionPointBody, pointOf_none h]; rfl),
      r1, r2, r3, r4, fun h1 h2 h3 h4 => ⟨_, stored h1 h2 h3 h4, ?_⟩⟩
    obtain ⟨frame, load, starve⟩ := (s.setLastServed l).pointConfigured_frame i offset enabled mark
    obtain ⟨ho, he, hm⟩ := State.point_pointConfigured_items (s.setLastServed l) i offset enabled mark
    have same := State.point_pointConfigured_same (s.setLastServed l) i offset enabled mark
    have part : takesPart ↔ (offset.isSome && enabled) = true := by
      rw [Bool.and_eq_true, Option.isSome_iff_ne_none, and_comm]
    refine ⟨State.changesOnly_comp (s.changesOnly_setLastServed l) frame (by simp) (by simp), frame .lastServed (by simp),
      load, starve, ho, he, hm, fun ht => ?_, fun ht => ?_, fun ht hw => ?_, fun ht hw => ?_, fun q hq => ?_⟩
    · obtain ⟨hc, hord⟩ := (s.setLastServed l).pointConfigured_keeps mark (i := i) (.inl (part.1 ht))
      refine ⟨hc, hord, ?_⟩
      rw [same, if_neg (by simp [part.1 ht]), Point.waiting_configured]
      rfl
    · rw [same, if_pos (by simpa using mt part.2 ht)]
    · exact (s.setLastServed l).pointConfigured_keeps mark (i := i) (.inr hw)
    · exact (s.setLastServed l).pointConfigured_gives_up mark (i := i) (by simpa using mt part.2 ht) hw
    · exact State.point_pointConfigured_ne (s.setLastServed l) offset enabled mark hq
  · intro s l tag station n offset heads priority enabled hl c refused x chosen bad shared bare fixed last y
    obtain ⟨r1, r2, r3, r4, r5, stored⟩ := stationIsConfigured s l tag n offset heads priority enabled hl
    refine ⟨fun h => State.next_refused hl (by simp only [configureReadStationBody, stationOf_none h]; rfl),
      r1, r2, r3, r4, r5, fun h1 h2 h3 h4 h5 => (stored h1 h2 h3 h4 h5).trans ?_⟩
    simp only [Station.bytes, headSetBytes, ← List.append_assoc]
    rfl

end Sys2Proof.Machine

/-! SUPPORT. The berth lifecycle: opening, closing, completion and forced closing (R54 to R58). -/

namespace Sys2Proof.Machine

/-! ## Notices -/

/-- What is queued depends on the queues and on the timestamp alone. -/
theorem State.principals_post {s t : State} (hp : t.principals = s.principals) (hloop : t.loop = s.loop) (p : Principal)
    (body : NoticeBody) : (t.post p body).principals = (s.post p body).principals := by
  have record (q : Principal) : t.principal q = s.principal q := by simp only [State.principal, hp]
  rw [State.post, State.post, record, hloop]
  rcases p with _ | _ | _ <;> simp only [State.setPrincipal, State.setPrincipals_principals, hp]

theorem State.principals_postHallAnd {s t : State} (hp : t.principals = s.principals) (hloop : t.loop = s.loop)
    (b : BerthId) (body : NoticeBody) : (t.postHallAnd b body).principals = (s.postHallAnd b body).principals :=
  State.principals_post (State.principals_post hp hloop _ _)
    ((t.changesOnly_post _ _ .loop (by simp)).trans (hloop.trans (s.changesOnly_post _ _ .loop (by simp)).symm)) _ _

theorem State.changesOnly_postHallAnd (s : State) (b : BerthId) (body : NoticeBody) :
    s.changesOnly (s.postHallAnd b body) [.principals] :=
  State.changesOnly_trans (s.changesOnly_post _ _) (State.changesOnly_post _ _ _)

/-! ## Opening -/

theorem isShip_iff {n : Nat} : isShip n = true ↔ 1 ≤ n ∧ n ≤ 63 := by
  rw [isShip, Bool.and_eq_true, decide_eq_true_eq, decide_eq_true_eq]; rfl

theorem State.berthOfShip_isSome_iff (s : State) (ship : Nat) :
    (s.berthOfShip ship).isSome = true ↔ ∃ o : BerthId, (s.berth o).state.ship = some ship := by
  have all : ∀ o : BerthId, o ∈ allBerths := by intro o; cases o <;> decide
  simp [State.berthOfShip, all]

/-- R54: the checks of OPEN BERTH in order. -/
theorem openBerthBody_eq (s : State) (b : BerthId) (ship : Nat) :
    openBerthBody b.number ship .hall s
      = if !isShip ship then .refused .badValue
        else if (s.berth b).state ≠ .unbound then .refused .inUse
        else if (s.berthOfShip ship).isSome then .refused .duplicate
        else .ok ((s.setBerth b { s.berth b with state := .bound ship }).postHallAnd b (.berthState b (.bound ship) false))
          (bytesOf 1 b.number ++ bytesOf 1 ship) := by
  simp only [openBerthBody, berthOf_number]
  exact if_neg (not_not.2 rfl)

/-- Settles O28. -/
theorem berthIsOpened : Obligations.BerthIsOpened := by
  intro s l tag p n ship b hl refused valid held
  have noShip : (!isShip ship) = true ↔ ¬valid := by rw [Bool.not_eq_true', ← Bool.not_eq_true, isShip_iff]
  have isHeld : ((s.setLastServed l).berthOfShip ship).isSome = true ↔ held := State.berthOfShip_isSome_iff _ ship
  have body := openBerthBody_eq (s.setLastServed l) b ship
  refine ⟨fun hp => State.next_refused hl (if_pos hp), ?_, ?_, ?_, ?_, ?_⟩
  · rintro rfl h1 h2
    exact State.next_refused hl (by simp only [openBerthBody, berthOf_none h1 h2]; rfl)
  · rintro rfl hv
    refine State.next_refused hl ?_
    unfold openBerthBody
    rw [if_neg (not_not.2 rfl)]
    split
    · rfl
    · exact if_pos (noShip.2 hv)
  · rintro rfl hv hu
    exact State.next_refused hl (body.trans ((if_neg (mt noShip.1 (not_not.2 hv))).trans (if_pos hu)))
  · rintro rfl hv hu hh
    exact State.next_refused hl (body.trans ((if_neg (mt noShip.1 (not_not.2 hv))).trans
      ((if_neg (not_not.2 hu)).trans (if_pos (isHeld.2 hh)))))
  · rintro rfl hv hu hh
    exact State.next_ok hl (body.trans ((if_neg (mt noShip.1 (not_not.2 hv))).trans
      ((if_neg (not_not.2 hu)).trans (if_neg (mt isHeld.1 hh))))) rfl

/-! ## Choices do not see the last served link -/

theorem State.dropTarget_setLastServed (s : State) (l : LinkNo) (k : Nat) :
    (s.setLastServed l).dropTarget k = (s.dropTarget k).setLastServed l := by
  rw [State.dropTarget, State.dropTarget, State.carrier_setLastServed]
  cases (s.carrier k).target <;> rfl

theorem State.chooseTarget_setLastServed (s : State) (l : LinkNo) (k : Nat) :
    (s.setLastServed l).chooseTarget k = (s.chooseTarget k).setLastServed l := by
  have best : (s.setLastServed l).bestLane k = s.bestLane k := rfl
  rw [State.chooseTarget, State.chooseTarget, best, apply_ite (State.setLastServed · l)]
  cases s.bestLane k <;> rfl

theorem State.enterDisposition_setLastServed (s : State) (l : LinkNo) (k : Nat) (d : Disposition) :
    (s.setLastServed l).enterDisposition k d = (s.enterDisposition k d).setLastServed l := by
  rw [State.enterDisposition, State.dropTarget_setLastServed]; rfl

theorem State.giveDisposition_setLastServed (s : State) (l : LinkNo) (k : Nat) (d : Disposition) :
    (s.setLastServed l).giveDisposition k d = (s.giveDisposition k d).setLastServed l := by
  rw [State.giveDisposition, State.enterDisposition_setLastServed, State.chooseTarget_setLastServed]; rfl

theorem forEach_setLastServed {α : Type} {f : State → α → State} {l : LinkNo}
    (hf : ∀ s a, f (s.setLastServed l) a = (f s a).setLastServed l) (xs : List α) (s : State) :
    forEach xs f (s.setLastServed l) = (forEach xs f s).setLastServed l := by
  induction xs generalizing s with
  | nil => rfl
  | cons a xs ih => exact (congrArg (forEach xs f) (hf s a)).trans (ih _)

theorem State.giveAll_setLastServed (s : State) (l : LinkNo) (ks : List Nat) (d : Disposition) :
    (s.setLastServed l).giveAll ks d = (s.giveAll ks d).setLastServed l :=
  forEach_setLastServed (fun s k => s.giveDisposition_setLastServed l k d) ks s

theorem State.strayUnlisted_setLastServed (s : State) (l : LinkNo) (k : Nat) (r : StrayReason) :
    (s.setLastServed l).strayUnlisted k r = (s.strayUnlisted k r).setLastServed l :=
  (s.setCarrier k { s.carrier k with identity := none }).giveDisposition_setLastServed l k (.stray r)

/-! ## The clear of a berth -/

/-- R58, for a state that has changed since in no berth but the one cleared, and in the lanes by inbounds alone. -/
theorem State.berthCleared_of {s u : State} {b : BerthId} (hb : ∀ o, o ≠ b → u.berth o = s.berth o)
    (hc : u.coding = s.coding) (hl : ∀ j, (s.lane j).rebooked (u.lane j)) : s.berthCleared (u.perBerthClear b) b := by
  refine ⟨?_, fun o ho => ?_, ?_, fun j => ?_⟩
  · rw [State.berth_perBerthClear, if_pos rfl]; rfl
  · rw [State.berth_perBerthClear, if_neg ho, hb o ho]
  · rw [State.coding_perBerthClear, hc]
    simp only [Coding.forget, Coding.mk.injEq]
    exact ⟨(List.map_congr_left fun r _ => by simp [StrayRecord.forget]),
      (List.map_congr_left fun r _ => by simp [ReinjectRecord.forget]), trivial, trivial, trivial⟩
  · have h := hl j
    rw [State.lane_perBerthClear]
    unfold Lane.rebooked at *
    rw [h]
    by_cases ho : (s.lane j).owner = .berth b
    · rw [if_pos ho, if_pos (by simpa using ho)]; rfl
    · rw [if_neg ho, if_neg (by simpa using ho)]

theorem State.berthCleared_of_frame {s t u : State} {b : BerthId} (h : s.berthCleared t b)
    (hf : t.changesOnly u [.principals]) : s.berthCleared u b := by
  obtain ⟨own, other, coding, lanes⟩ := h
  have berths := State.berth_eq_of_berths (hf .berths (by simp))
  refine ⟨(berths b).trans own, fun o ho => (berths o).trans (other o ho), (hf .coding (by simp)).trans coding, fun j => ?_⟩
  rw [State.lane_eq_of_lanes (hf .lanes (by simp)) j]
  exact lanes j

theorem State.lane_perBerthClear_eq (s : State) (b : BerthId) (j : LaneNo) :
    (s.perBerthClear b).lane j = if (s.lane j).owner = .berth b then (s.lane j).handedBack else s.lane j := by
  rw [State.lane_perBerthClear]
  by_cases ho : (s.lane j).owner = .berth b
  · rw [if_pos ho, if_pos (by simpa using ho)]; rfl
  · rw [if_neg ho, if_neg (by simpa using ho)]

theorem State.testClosing_of {s : State} {b : BerthId} (hc : (s.berth b).state.isClosing = true)
    (hb : s.holdsBags b = false) :
    s.testClosing b = (s.perBerthClear b).postHallAnd b (.berthState b .unbound false) :=
  if_pos (by simp [hc, hb])

theorem State.testClosing_of_not {s : State} {b : BerthId}
    (h : ¬((s.berth b).state.isClosing = true ∧ s.holdsBags b = false)) : s.testClosing b = s :=
  if_neg (by simpa using h)

theorem State.holdsBags_eq_false_iff (s : State) (b : BerthId) :
    s.holdsBags b = false ↔ (∀ c ∈ s.carriers.table, c.isOf b = false) ∧ ∀ r ∈ s.router.pendingTags, r.berth ≠ b := by
  simp [State.holdsBags]

theorem State.any_table_iff (s : State) (p : Carrier → Bool) :
    s.carriers.table.any p = true ↔ ∃ k, k < s.carriers.table.length ∧ p (s.carrier k) = true := by
  rw [List.any_eq_true]
  constructor
  · rintro ⟨c, hc, hp⟩
    obtain ⟨k, hk, rfl⟩ := List.mem_iff_getElem.1 hc
    exact ⟨k, hk, by simpa [State.carrier, hk] using hp⟩
  · rintro ⟨k, hk, hp⟩
    exact ⟨s.carriers.table[k], List.getElem_mem hk, by simpa [State.carrier, hk] using hp⟩

/-- A test that a change of the records keeps holds of as many. -/
theorem State.any_table_congr {s t : State} {p : Carrier → Bool}
    (hlen : t.carriers.table.length = s.carriers.table.length) (h : ∀ k, p (t.carrier k) = p (s.carrier k)) :
    t.carriers.table.any p = s.carriers.table.any p := by
  rw [Bool.eq_iff_iff, State.any_table_iff, State.any_table_iff]
  simp only [hlen, h]

theorem Carrier.entered_isOf {c c' : Carrier} {d : Disposition} (h : c.entered c' d) (b : BerthId) : c'.isOf b = c.isOf b := by
  unfold Carrier.entered at h
  rw [h]
  rfl

theorem State.carriersEnter_isOf {s t : State} {ks : List Nat} {d : Disposition} (h : s.carriersEnter t ks d) (b : BerthId)
    (k : Nat) : (t.carrier k).isOf b = (s.carrier k).isOf b := by
  obtain ⟨-, others, these⟩ := h
  by_cases hk : k ∈ ks
  · exact Carrier.entered_isOf (these k hk) b
  · rw [others k hk]

theorem State.pendingCarriers_lt {s : State} {b : BerthId} {k : Nat} (h : k ∈ s.pendingCarriers b) :
    k < s.carriers.table.length :=
  List.mem_range.1 (List.mem_filter.1 h).1

theorem State.carriersEnter_of_carriers {s s' t t' : State} {ks : List Nat} {d : Disposition}
    (h : s'.carriers = s.carriers) (h' : t'.carriers = t.carriers) (he : s.carriersEnter t ks d) :
    s'.carriersEnter t' ks d := by
  simpa only [State.carriersEnter, State.carrier, h, h'] using he

/-- R55 before its choices: the berth is CLOSING and its pending records are gone. -/
def State.startClosing (s : State) (b : BerthId) (ship : Nat) : State :=
  { s.setBerth b { s.berth b with state := .closing ship } with
    router := { s.router with pendingTags := s.router.pendingTags.filter fun r => r.berth != b } }

/-- R55: what CLOSE SAILING leaves, before the test of R56. -/
def State.sailingClosed (s : State) (b : BerthId) (ship : Nat) : State :=
  (s.startClosing b ship).giveAll (s.pendingCarriers b) (.stray .berthClosing)

theorem State.changesOnly_startClosing (s : State) (b : BerthId) (ship : Nat) :
    s.changesOnly (s.startClosing b ship) [.berths, .router] :=
  State.changesOnly_comp (s.changesOnly_setBerth b { s.berth b with state := .closing ship })
    (State.changesOnly_setRouter _ { s.router with pendingTags := s.router.pendingTags.filter fun r => r.berth != b })
    (by simp) (by simp)

theorem State.startClosing_disposes (s : State) (b : BerthId) (ship : Nat) :
    (s.startClosing b ship).disposes (s.sailingClosed b ship) (s.pendingCarriers b) (.stray .berthClosing) :=
  State.disposes_giveAll _ _ _ fun k hk => by
    rw [show (s.startClosing b ship).carriers = s.carriers from s.changesOnly_startClosing b ship .carriers (by simp)]
    exact State.pendingCarriers_lt hk

/-- R55: what CLOSE SAILING leaves of the state before the test of R56. -/
theorem State.sailingClosed_spec (s : State) (b : BerthId) (ship : Nat) :
    s.changesOnly (s.sailingClosed b ship) [.carriers, .lanes, .router, .berths]
      ∧ (s.sailingClosed b ship).router
        = { s.router with pendingTags := s.router.pendingTags.filter fun r => r.berth != b }
      ∧ (s.sailingClosed b ship).berth b = { s.berth b with state := .closing ship }
      ∧ (∀ o, o ≠ b → (s.sailingClosed b ship).berth o = s.berth o)
      ∧ (∀ j, (s.lane j).rebooked ((s.sailingClosed b ship).lane j))
      ∧ s.carriersEnter (s.sailingClosed b ship) (s.pendingCarriers b) (.stray .berthClosing) := by
  have start := s.changesOnly_startClosing b ship
  obtain ⟨frame, rebooked, enter⟩ := s.startClosing_disposes b ship
  have berths := fun o => State.berth_eq_of_berths (frame .berths (by simp)) o
  refine ⟨State.changesOnly_comp start frame (by simp) (by simp), frame .router (by simp), ?_, fun o ho => ?_,
    fun j => ?_, State.carriersEnter_of_carriers (start .carriers (by simp)).symm rfl enter⟩
  · exact (berths b).trans (State.berth_setBerth s b _)
  · exact (berths o).trans (State.berth_setBerth_ne s _ ho)
  · rw [← State.lane_eq_of_lanes (start .lanes (by simp))]; exact rebooked j

theorem closeSailingBody_bound {s : State} {b : BerthId} {ship : Nat} (l : LinkNo) (h : (s.berth b).state = .bound ship) :
    let t := (((s.sailingClosed b ship).setLastServed l).postHallAnd b (.berthState b (.closing ship) false)).testClosing b
    closeSailingBody (.berth b) (s.setLastServed l) = .ok t (bytesOf 1 (t.berth b).state.code) := by
  intro t
  have begun : (((s.setLastServed l).setBerth b { s.berth b with state := .closing ship }).strayPending b .berthClosing)
      = (s.sailingClosed b ship).setLastServed l := by
    refine Eq.trans ?_ (State.giveAll_setLastServed (s.startClosing b ship) l _ _)
    cases b <;> rfl
  simp only [closeSailingBody, State.berth_setLastServed, h, begun]
  rfl

theorem State.sailingClosed_holdsBags (s : State) (b : BerthId) (ship : Nat) :
    (s.sailingClosed b ship).holdsBags b = s.carriers.table.any fun c => c.isOf b := by
  obtain ⟨-, router, -, -, -, enter⟩ := s.sailingClosed_spec b ship
  have carriers : (s.sailingClosed b ship).carriers.table.any (·.isOf b) = s.carriers.table.any (·.isOf b) :=
    State.any_table_congr enter.1 fun k => State.carriersEnter_isOf enter b k
  rw [State.holdsBags, carriers, router]
  simp

/-- Settles O29. -/
theorem sailingClosesAndCompletes : Obligations.SailingClosesAndCompletes := by
  constructor
  · intro s l tag b ship hl refused carried closing chosen
    refine ⟨fun h => ?_, fun h => ?_, fun h => ?_⟩
    · exact State.next_refused hl (by simp only [closeSailingBody, State.berth_setLastServed, h])
    · exact State.next_refused hl (by simp only [closeSailingBody, State.berth_setLastServed, h])
    have body := closeSailingBody_bound l h
    obtain ⟨frame, router, own, other, rebooked, enter⟩ := s.sailingClosed_spec b ship
    have bags : (s.sailingClosed b ship).holdsBags b = carried := s.sailingClosed_holdsBags b ship
    have post := ((s.sailingClosed b ship).setLastServed l).changesOnly_postHallAnd b (.berthState b (.closing ship) false)
    have posts : (((s.sailingClosed b ship).setLastServed l).postHallAnd b (.berthState b (.closing ship) false)).principals
        = closing.principals :=
      State.principals_postHallAnd (t := (s.sailingClosed b ship).setLastServed l) (frame .principals (by simp))
        (frame .loop (by simp)) _ _
    generalize hv : ((s.sailingClosed b ship).setLastServed l).postHallAnd b (.berthState b (.closing ship) false) = v
      at body post posts
    have told : s.changesOnly v [.carriers, .lanes, .router, .berths, .principals, .lastServed] :=
      State.changesOnly_comp (State.changesOnly_comp frame (State.changesOnly_setLastServed _ l) (rs := [.carriers, .lanes,
        .router, .berths, .lastServed]) (by simp) (by simp)) post (by simp) (by simp)
    have vown : v.berth b = { s.berth b with state := .closing ship } :=
      (State.berth_eq_of_berths (post .berths (by simp)) b).trans own
    have vother (o) (ho : o ≠ b) : v.berth o = s.berth o :=
      (State.berth_eq_of_berths (post .berths (by simp)) o).trans (other o ho)
    have vlane (j) : v.lane j = chosen.lane j := State.lane_eq_of_lanes (post .lanes (by simp)) j
    have vcarriers : v.carriers = chosen.carriers := post .carriers (by simp)
    have venter : s.carriersEnter v (s.pendingCarriers b) (.stray .berthClosing) :=
      State.carriersEnter_of_carriers rfl vcarriers enter
    have vbags : v.holdsBags b = carried := by
      rw [← bags, State.holdsBags, State.holdsBags, vcarriers, show v.router = _ from post .router (by simp)]
      rfl
    by_cases hc : carried = true
    · rw [State.testClosing_of_not (by simp [vbags, hc])] at body
      refine ⟨v, State.next_ok hl body (by rw [vown, if_pos hc]; rfl), State.changesOnly_mono told (by simp),
        post .lastServed (by simp), (post .router (by simp)).trans router, venter, vcarriers, fun j => ?_, fun _ => ?_,
        fun hf => ?_⟩
      · rw [if_neg fun hf => by simp [hc] at hf, vlane]
      · exact ⟨vown, vother, told .coding (by simp), fun j => by rw [vlane]; exact rebooked j, posts⟩
      · exact absurd (hc.symm.trans hf) (by simp)
    · have hf : carried = false := Bool.eq_false_iff.2 hc
      rw [State.testClosing_of (by rw [vown]; rfl) (vbags.trans hf)] at body
      have cleared := v.changesOnly_perBerthClear b
      have posted := (v.perBerthClear b).changesOnly_postHallAnd b (.berthState b .unbound false)
      have last : v.changesOnly ((v.perBerthClear b).postHallAnd b (.berthState b .unbound false))
          [.berths, .coding, .lanes, .principals] := State.changesOnly_comp cleared posted (by simp) (by simp)
      have isCleared : s.berthCleared (v.perBerthClear b) b :=
        State.berthCleared_of vother (told .coding (by simp)) fun j => by rw [vlane]; exact rebooked j
      refine ⟨_, State.next_ok hl body ?_, State.changesOnly_comp told last (by simp) (by simp),
        (last .lastServed (by simp)).trans (post .lastServed (by simp)),
        (last .router (by simp)).trans ((post .router (by simp)).trans router),
        State.carriersEnter_of_carriers rfl (last .carriers (by simp)) venter, (last .carriers (by simp)).trans vcarriers,
        fun j => ?_, fun ht => absurd ht hc, fun _ => ⟨State.berthCleared_of_frame isCleared posted, ?_⟩⟩
      · rw [show ((v.perBerthClear b).postHallAnd b _).berth b = (v.perBerthClear b).berth b from
          State.berth_eq_of_berths (posted .berths (by simp)) b, State.berth_perBerthClear, if_pos rfl, if_neg hc]
        rfl
      · rw [State.lane_eq_of_lanes (posted .lanes (by simp)) j, State.lane_perBerthClear_eq, vlane]
        have owner : (chosen.lane j).owner = (s.lane j).owner := by
          have h := rebooked j
          unfold Lane.rebooked at h
          rw [show chosen.lane j = _ from h]
        simp only [hf, owner, true_and]
      · exact (State.principals_postHallAnd (cleared .principals (by simp)) (cleared .loop (by simp)) _ _).trans
          (State.principals_postHallAnd posts ((told .loop (by simp)).trans
            (State.changesOnly_postHallAnd _ _ _ .loop (by simp)).symm) _ _)
  · intro s n b ready
    have ready_iff : ready ↔ (s.berth b).state.isClosing = true ∧ s.holdsBags b = false := by
      rw [State.holdsBags_eq_false_iff]
    refine ⟨fun h1 h2 => ?_, fun h => ?_, fun h => ?_⟩
    · show execClosingComplete n s = _
      rw [execClosingComplete, berthOf_none h1 h2]
    · show execClosingComplete b.number s = _
      simp only [execClosingComplete, berthOf_number]
      rw [State.testClosing_of_not (mt ready_iff.2 h)]
    · obtain ⟨hc, hb⟩ := ready_iff.1 h
      refine ⟨_, by show execClosingComplete b.number s = _; simp only [execClosingComplete, berthOf_number]; rw [State.testClosing_of hc hb], ?_, ?_, ?_, ?_⟩
      · exact State.changesOnly_comp (s.changesOnly_perBerthClear b) (State.changesOnly_postHallAnd _ _ _) (by simp) (by simp)
      · exact State.berthCleared_of_frame (State.berthCleared_of (fun _ _ => rfl) rfl fun _ => rfl)
          (State.changesOnly_postHallAnd _ _ _)
      · exact State.principals_postHallAnd (s.changesOnly_perBerthClear b .principals (by simp))
          (s.changesOnly_perBerthClear b .loop (by simp)) _ _
      · intro j
        rw [State.lane_eq_of_lanes (State.changesOnly_postHallAnd (s.perBerthClear b) b _ .lanes (by simp)) j,
          State.lane_perBerthClear]
        split <;> rfl

end Sys2Proof.Machine

/-! SUPPORT. FORCE CLOSE (R57) and what it shares with WITHDRAW TAG: bags that leave the manifest (R72). -/

namespace Sys2Proof.Machine

/-! ## Bags that leave the manifest -/

/-- Some carriers lost their identities and entered a disposition, with their choices; of the lanes only inbounds changed,
and no other part of the state (R57, R72). -/
def State.unlists (s t : State) (ks : List Nat) (d : Disposition) : Prop :=
  s.changesOnly t [.carriers, .lanes] ∧ (∀ j, (s.lane j).rebooked (t.lane j))
    ∧ t.carriers.table.length = s.carriers.table.length ∧ (∀ k, k ∉ ks → t.carrier k = s.carrier k)
    ∧ ∀ k ∈ ks, Carrier.entered { s.carrier k with identity := none } (t.carrier k) d

theorem State.unlists_strayUnlisted (s : State) {k : Nat} (r : StrayReason) (hk : k < s.carriers.table.length) :
    s.unlists (s.strayUnlisted k r) [k] (.stray r) := by
  have length : (s.setCarrier k { s.carrier k with identity := none }).carriers.table.length = s.carriers.table.length :=
    CarrierTable.store_length _ _ _
  obtain ⟨frame, rebooked, len, others, these⟩ :=
    (s.setCarrier k { s.carrier k with identity := none }).disposes_giveDisposition (.stray r) (k := k) (length ▸ hk)
  refine ⟨State.changesOnly_trans (s.changesOnly_setCarrier _ _) frame, rebooked, len.trans length, fun i hi => ?_,
    fun i hi => ?_⟩
  · exact (others i hi).trans (s.carrier_setCarrier_ne _ (by simpa using hi))
  · obtain rfl : i = k := by simpa using hi
    have h := these i hi
    rwa [State.carrier_setCarrier_same _ _ hk] at h

theorem Carrier.entered_of_unlisted {a b c : Carrier} {d : Disposition}
    (h : Carrier.entered { a with identity := none } b d) (h' : Carrier.entered { b with identity := none } c d) :
    Carrier.entered { a with identity := none } c d := by
  unfold Carrier.entered at *
  rw [h', h]

theorem State.unlists_append {s t u : State} {ks ls : List Nat} {d : Disposition} (h : s.unlists t ks d)
    (h' : t.unlists u ls d) : s.unlists u (ks ++ ls) d := by
  obtain ⟨h1, h2, h3, h4, h5⟩ := h
  obtain ⟨g1, g2, g3, g4, g5⟩ := h'
  refine ⟨State.changesOnly_trans h1 g1, fun j => Lane.rebooked_trans (h2 j) (g2 j), g3.trans h3, fun k hk => ?_,
    fun k hk => ?_⟩
  · rw [List.mem_append, not_or] at hk
    exact (g4 k hk.2).trans (h4 k hk.1)
  · by_cases hl : k ∈ ls
    · by_cases hs : k ∈ ks
      · exact Carrier.entered_of_unlisted (h5 k hs) (g5 k hl)
      · rw [← h4 k hs]; exact g5 k hl
    · rw [g4 k hl]; exact h5 k ((List.mem_append.1 hk).resolve_right hl)

theorem State.unlists_all (s : State) (ks : List Nat) (r : StrayReason) (hk : ∀ k ∈ ks, k < s.carriers.table.length) :
    s.unlists (forEach ks (fun s k => s.strayUnlisted k r) s) ks (.stray r) := by
  induction ks generalizing s with
  | nil => exact ⟨s.changesOnly_refl _, fun _ => rfl, rfl, fun _ _ => rfl, fun _ h => by simp at h⟩
  | cons k ks ih =>
    have h := s.unlists_strayUnlisted r (hk k (by simp))
    exact State.unlists_append h (ih _ fun i hi => h.2.2.1 ▸ hk i (by simp [hi]))

/-- An armed or FIRED carrier whose bag leaves the manifest (R57, R72, log 37). -/
def Carrier.disowned (c : Carrier) (r : StrayReason) : Carrier :=
  { c with identity := none, disposition := some (.stray r), laps := 0 }

/-- R57: the committed carriers lose their identities in place, in whatever order. -/
theorem State.disownAll_spec (s : State) (ks : List Nat) (r : StrayReason) (hk : ∀ k ∈ ks, k < s.carriers.table.length) :
    s.changesOnly (forEach ks (fun s k => s.disown k r) s) [.carriers]
      ∧ (forEach ks (fun s k => s.disown k r) s).carriers.table.length = s.carriers.table.length
      ∧ ∀ k, (forEach ks (fun s k => s.disown k r) s).carrier k
        = if k ∈ ks then (s.carrier k).disowned r else s.carrier k := by
  induction ks generalizing s with
  | nil => exact ⟨s.changesOnly_refl _, rfl, fun k => (if_neg (by simp)).symm⟩
  | cons i ks ih =>
    have length : (s.disown i r).carriers.table.length = s.carriers.table.length := CarrierTable.store_length _ _ _
    obtain ⟨frame, len, each⟩ := ih (s.disown i r) fun k h => length ▸ hk k (by simp [h])
    refine ⟨State.changesOnly_trans (s.changesOnly_storeCarrier _ _) frame, len.trans length, fun k => (each k).trans ?_⟩
    by_cases hi : k = i
    · subst hi
      have own : (s.disown k r).carrier k = (s.carrier k).disowned r :=
        s.carrier_setCarrier_same _ (hk k (by simp))
      rw [own, if_pos (List.mem_cons_self : k ∈ k :: ks)]
      split <;> rfl
    · have other : (s.disown i r).carrier k = s.carrier k := s.carrier_setCarrier_ne _ hi
      simp [other, hi]

/-! ## FORCE CLOSE -/

/-- R57, the pending records: their carriers become strays. -/
def State.pendedStray (s : State) (b : BerthId) : State :=
  State.giveAll { s with
    router := { s.router with pendingTags := s.router.pendingTags.filter fun r => r.berth != b } }
    (s.pendingCarriers b) (.stray .berthClosed)

/-- The carriers of the berth that are CARRYING and not armed, once its pending records are gone (R57). -/
def State.unarmedOf (s : State) (b : BerthId) : List Nat :=
  (List.range s.carriers.table.length).filter fun k =>
    ((s.pendedStray b).carrier k).isOf b && ((s.pendedStray b).carrier k).isReachable

/-- R57, the carriers not armed: they become strays, with their choices. -/
def State.unarmedStray (s : State) (b : BerthId) : State :=
  forEach (s.unarmedOf b) (fun s k => s.strayUnlisted k .berthClosed) (s.pendedStray b)

theorem State.pendedStray_disposes (s : State) (b : BerthId) :
    State.disposes { s with
      router := { s.router with pendingTags := s.router.pendingTags.filter fun r => r.berth != b } }
      (s.pendedStray b) (s.pendingCarriers b) (.stray .berthClosed) :=
  State.disposes_giveAll _ _ _ fun _ hk => State.pendingCarriers_lt (s := s) hk

theorem State.pendedStray_isOf (s : State) (b : BerthId) (k : Nat) :
    ((s.pendedStray b).carrier k).isOf b = (s.carrier k).isOf b :=
  State.carriersEnter_isOf (s := s) (s.pendedStray_disposes b).2.2 b k

theorem State.pendedStray_length (s : State) (b : BerthId) :
    (s.pendedStray b).carriers.table.length = s.carriers.table.length := (s.pendedStray_disposes b).2.2.1

theorem State.unarmedOf_lt {s : State} {b : BerthId} {k : Nat} (h : k ∈ s.unarmedOf b) : k < s.carriers.table.length :=
  List.mem_range.1 (List.mem_filter.1 h).1

theorem State.unarmedStray_unlists (s : State) (b : BerthId) :
    (s.pendedStray b).unlists (s.unarmedStray b) (s.unarmedOf b) (.stray .berthClosed) :=
  State.unlists_all _ _ _ fun k hk => by rw [s.pendedStray_length b]; exact State.unarmedOf_lt hk

theorem Carrier.isOf_lt {s : State} {k : Nat} {b : BerthId} (h : (s.carrier k).isOf b = true) :
    k < s.carriers.table.length :=
  s.lt_of_carrier_ne fun he => by rw [he] at h; cases h

theorem State.mem_unarmedOf_iff (s : State) (b : BerthId) (k : Nat) :
    k ∈ s.unarmedOf b ↔ (s.carrier k).isOf b = true ∧ ((s.pendedStray b).carrier k).isReachable = true := by
  rw [State.unarmedOf, List.mem_filter, List.mem_range, Bool.and_eq_true, s.pendedStray_isOf b k]
  exact and_iff_right_of_imp fun h => Carrier.isOf_lt h.1

/-- After the carriers not armed, the berth's identities are those of the committed carriers. -/
theorem State.unarmedStray_isOf (s : State) (b : BerthId) (k : Nat) :
    ((s.unarmedStray b).carrier k).isOf b = ((s.carrier k).isOf b && !((s.pendedStray b).carrier k).isReachable) := by
  obtain ⟨-, -, -, others, these⟩ := s.unarmedStray_unlists b
  by_cases hk : k ∈ s.unarmedOf b
  · obtain ⟨ho, hr⟩ := (s.mem_unarmedOf_iff b k).1 hk
    rw [Carrier.entered_isOf (these k hk), ho, hr]
    rfl
  · rw [others k hk, s.pendedStray_isOf b k]
    rw [s.mem_unarmedOf_iff b k, not_and] at hk
    cases ho : (s.carrier k).isOf b with
    | false => rfl
    | true => simp [hk ho]

/-- R57: what FORCE CLOSE makes of the carriers of the berth. -/
theorem State.disownBerth_spec (s : State) (b : BerthId) :
    s.changesOnly (s.disownBerth b) [.carriers, .lanes, .router]
      ∧ (s.disownBerth b).router = { s.router with pendingTags := s.router.pendingTags.filter fun r => r.berth != b }
      ∧ (s.disownBerth b).lanes = (s.unarmedStray b).lanes
      ∧ (∀ j, (s.lane j).rebooked ((s.disownBerth b).lane j))
      ∧ (s.disownBerth b).carriers.table.length = s.carriers.table.length
      ∧ ∀ k, (s.disownBerth b).carrier k = if ((s.unarmedStray b).carrier k).isOf b then
          ((s.unarmedStray b).carrier k).disowned .berthClosed else (s.unarmedStray b).carrier k := by
  obtain ⟨frame1, rebooked1, len1, -, -⟩ := s.pendedStray_disposes b
  obtain ⟨frame2, rebooked2, len2, -, -⟩ := s.unarmedStray_unlists b
  have ks : (s.pendedStray b).carriersWith (fun c => c.isOf b && c.isReachable) = s.unarmedOf b := by
    rw [State.carriersWith, State.carrierNumbers, s.pendedStray_length b]; rfl
  have made : s.disownBerth b = forEach ((s.pendedStray b).carriersWith fun c => c.isOf b && !c.isReachable)
      (fun s k => s.disown k .berthClosed) (s.unarmedStray b) := by
    rw [State.unarmedStray, ← ks]; rfl
  have mem (k : Nat) : k ∈ (s.pendedStray b).carriersWith (fun c => c.isOf b && !c.isReachable)
      ↔ ((s.unarmedStray b).carrier k).isOf b = true := by
    rw [State.carriersWith, List.mem_filter, State.carrierNumbers, List.mem_range, s.pendedStray_length b,
      s.unarmedStray_isOf b k, s.pendedStray_isOf b k]
    exact and_iff_right_of_imp fun h => Carrier.isOf_lt (Bool.and_eq_true_iff.1 h).1
  obtain ⟨frame3, len3, each⟩ := (s.unarmedStray b).disownAll_spec _ .berthClosed fun k hk => Carrier.isOf_lt ((mem k).1 hk)
  rw [← made] at frame3 len3 each
  have lanes : (s.disownBerth b).lanes = (s.unarmedStray b).lanes := frame3 .lanes (by simp)
  refine ⟨?_, ?_, lanes, fun j => ?_, len3.trans (len2.trans len1), fun k => ?_⟩
  · refine State.changesOnly_comp (State.changesOnly_comp (State.changesOnly_setRouter s
      { s.router with pendingTags := s.router.pendingTags.filter fun r => r.berth != b })
      (State.changesOnly_trans frame1 frame2) (rs := [.carriers, .lanes, .router]) (by simp) (by simp)) frame3 (by simp)
      (by simp)
  · exact (frame3 .router (by simp)).trans ((frame2 .router (by simp)).trans (frame1 .router (by simp)))
  · rw [State.lane_eq_of_lanes lanes]
    exact Lane.rebooked_trans (rebooked1 j) (rebooked2 j)
  · rw [each k]
    simp only [mem k]

theorem State.pendedStray_setLastServed (s : State) (l : LinkNo) (b : BerthId) :
    (s.setLastServed l).pendedStray b = (s.pendedStray b).setLastServed l :=
  State.giveAll_setLastServed { s with
    router := { s.router with pendingTags := s.router.pendingTags.filter fun r => r.berth != b } } l _ _

theorem State.unarmedStray_setLastServed (s : State) (l : LinkNo) (b : BerthId) :
    (s.setLastServed l).unarmedStray b = (s.unarmedStray b).setLastServed l := by
  have same : (s.setLastServed l).unarmedOf b = s.unarmedOf b := by
    rw [State.unarmedOf, State.pendedStray_setLastServed]; rfl
  rw [State.unarmedStray, State.pendedStray_setLastServed, same]
  exact forEach_setLastServed (fun s k => s.strayUnlisted_setLastServed l k _) _ _

/-- R57: the four fates of a carrier at FORCE CLOSE. -/
theorem State.disownBerth_carrier (s : State) (b : BerthId) (k : Nat) :
    (k ∉ s.pendingCarriers b → (s.carrier k).isOf b = false → (s.disownBerth b).carrier k = s.carrier k)
    ∧ (k ∈ s.pendingCarriers b → (s.carrier k).isOf b = false →
      (s.carrier k).entered ((s.disownBerth b).carrier k) (.stray .berthClosed))
    ∧ (k ∉ s.pendingCarriers b → (s.carrier k).isOf b = true → (s.carrier k).isReachable = true →
      Carrier.entered { s.carrier k with identity := none } ((s.disownBerth b).carrier k) (.stray .berthClosed))
    ∧ (k ∉ s.pendingCarriers b → (s.carrier k).isOf b = true → (s.carrier k).isReachable = false →
      (s.disownBerth b).carrier k = (s.carrier k).disowned .berthClosed) := by
  obtain ⟨-, -, -, others1, these1⟩ := s.pendedStray_disposes b
  obtain ⟨-, -, -, others2, these2⟩ := s.unarmedStray_unlists b
  obtain ⟨-, -, -, -, -, each⟩ := s.disownBerth_spec b
  have keeps (hp : k ∉ s.pendingCarriers b) : (s.pendedStray b).carrier k = s.carrier k := others1 k hp
  have unheld (h : (s.carrier k).isOf b = false) : k ∉ s.unarmedOf b :=
    fun hm => absurd ((s.mem_unarmedOf_iff b k).1 hm).1 (by simp [h])
  have same (h : (s.carrier k).isOf b = false) : (s.disownBerth b).carrier k = (s.pendedStray b).carrier k := by
    rw [each k, s.unarmedStray_isOf b k, h, others2 k (unheld h)]
    rfl
  refine ⟨fun hp ho => (same ho).trans (keeps hp), fun hp ho => same ho ▸ these1 k hp, fun hp ho hr => ?_, fun hp ho hr => ?_⟩
  · have hm : k ∈ s.unarmedOf b := (s.mem_unarmedOf_iff b k).2 ⟨ho, by rw [keeps hp, hr]⟩
    rw [each k, s.unarmedStray_isOf b k, ho, keeps hp, hr, ← keeps hp]
    exact these2 k hm
  · have hm : k ∉ s.unarmedOf b := fun h =>
      absurd ((s.mem_unarmedOf_iff b k).1 h).2 (by simp [keeps hp, hr])
    rw [each k, s.unarmedStray_isOf b k, ho, others2 k hm, keeps hp, hr]
    rfl

/-- Settles O30. -/
theorem forceCloseClearsBerth : Obligations.ForceCloseClearsBerth := by
  intro s l tag n b hl refused pended unarmed chosen
  refine ⟨fun h1 h2 => ?_, fun h => ?_, fun h => ?_⟩
  · exact State.next_refused hl (by simp only [forceCloseBody, berthOf_none h1 h2]; rfl)
  · exact State.next_refused hl (by simp only [forceCloseBody, berthOf_number, State.berth_setLastServed, h]; rfl)
  have isOpen : ((s.setLastServed l).berth b).state.isOpen = true := BerthState.isOpen_iff.2 h
  have body : forceCloseBody b.number .hall (s.setLastServed l)
      = .ok ((((s.setLastServed l).disownBerth b).perBerthClear b).postHallAnd b (.berthState b .unbound true))
        (bytesOf 2 (s.router.pendingTags.countP (fun r => r.berth == b) + s.carriers.table.countP fun c => c.isOf b)) := by
    simp only [forceCloseBody, berthOf_number, isOpen]
    rfl
  obtain ⟨frame, router, lanes, rebooked, length, each⟩ := (s.setLastServed l).disownBerth_spec b
  have fates := (s.setLastServed l).disownBerth_carrier b
  have stray : (s.setLastServed l).unarmedStray b = chosen.setLastServed l := s.unarmedStray_setLastServed l b
  rw [stray] at lanes each
  generalize (s.setLastServed l).disownBerth b = u at body frame router lanes rebooked length each fates
  have cleared := u.changesOnly_perBerthClear b
  have posted := (u.perBerthClear b).changesOnly_postHallAnd b (.berthState b .unbound true)
  have last : u.changesOnly ((u.perBerthClear b).postHallAnd b (.berthState b .unbound true))
      [.berths, .coding, .lanes, .principals] := State.changesOnly_comp cleared posted (by simp) (by simp)
  have carriers := State.carrier_eq_of_carriers (last .carriers (by simp))
  have whole : s.changesOnly u [.carriers, .lanes, .router, .lastServed] :=
    State.changesOnly_comp (s.changesOnly_setLastServed l) frame (by simp) (by simp)
  refine ⟨_, State.next_ok hl body rfl, State.changesOnly_comp whole last (by simp) (by simp),
    (last .lastServed (by simp)).trans (frame .lastServed (by simp)), (last .router (by simp)).trans router, ?_, ?_, ?_,
    fun k => (carriers k).trans (each k), fun j => ?_, fun k => ?_⟩
  · exact State.berthCleared_of_frame (State.berthCleared_of
      (fun o _ => State.berth_eq_of_berths (whole .berths (by simp)) o) (whole .coding (by simp)) rebooked) posted
  · exact State.principals_postHallAnd ((cleared .principals (by simp)).trans (whole .principals (by simp)))
      ((cleared .loop (by simp)).trans (whole .loop (by simp))) _ _
  · rw [show CarrierTable.table _ = _ from congrArg _ (last .carriers (by simp))]
    exact length
  · rw [State.lane_eq_of_lanes (posted .lanes (by simp)) j, State.lane_perBerthClear_eq]
    have owner : (u.lane j).owner = (s.lane j).owner := by
      have h := rebooked j
      unfold Lane.rebooked at h
      rw [h]
      rfl
    rw [owner, State.lane_eq_of_lanes lanes j]
    rfl
  · rw [carriers k]
    exact fates k

end Sys2Proof.Machine

/-! SUPPORT. What the edits of a berth's tables make of its look-ups (R59 to R61). -/

namespace Sys2Proof.Machine

/-! ## Look-ups by a key -/

section
variable {α : Type} {key : α → Nat}

theorem find_mapKey (l : List α) (n m : Nat) {f : α → α} (hf : ∀ a, key a = n → key (f a) = n) :
    (l.map fun a => if key a == n then f a else a).find? (key · == m)
      = (l.find? (key · == m)).map fun a => if m = n then f a else a := by
  induction l with
  | nil => rfl
  | cons a l ih =>
    have hk : key (if key a == n then f a else a) = key a := by
      split
      next h => rw [beq_iff_eq] at h; rw [hf a h, h]
      next => rfl
    simp only [List.map_cons, List.find?_cons, hk]
    cases h : key a == m with
    | false => exact ih
    | true =>
      obtain rfl : key a = m := by simpa using h
      by_cases hn : key a = n <;> simp [hn]

theorem find_insertKey (l : List α) (p : α → Bool) (a : α) (m : Nat) (ha : l.find? (key · == key a) = none) :
    (l.takeWhile p ++ a :: l.dropWhile p).find? (key · == m) = if m = key a then some a else l.find? (key · == m) := by
  by_cases hm : m = key a
  · have before : (l.takeWhile p).find? (key · == key a) = none := by
      rw [List.find?_eq_none] at ha ⊢
      exact fun x hx => ha x ((List.takeWhile_prefix p).subset hx)
    rw [if_pos hm, hm, List.find?_append, before, List.find?_cons_of_pos (by simp)]
    rfl
  · rw [if_neg hm, List.find?_append, List.find?_cons_of_neg (by simpa using Ne.symm hm), ← List.find?_append,
      List.takeWhile_append_dropWhile]

theorem find_filterKey (l : List α) (i m : Nat) :
    (l.filter (key · != i)).find? (key · == m) = if m = i then none else l.find? (key · == m) := by
  by_cases hm : m = i
  · rw [if_pos hm, List.find?_eq_none]
    intro x hx
    have := (List.mem_filter.1 hx).2
    simp_all
  · rw [if_neg hm, List.find?_filter]
    congr 1
    funext x
    by_cases hx : key x = m
    · simp [hx, hm]
    · simp [hx]

end

/-! ## Cabins and entries -/

theorem Berth.findCabin_modifyCabin (r : Berth) (n m : Nat) {f : Cabin → Cabin} (hf : ∀ c, (f c).number = c.number) :
    (r.modifyCabin n f).findCabin m = (r.findCabin m).map fun c => if m = n then f c else c :=
  find_mapKey r.cabins n m fun c hc => (hf c).trans hc

theorem Berth.findCabin_insertCabin (r : Berth) (c : Cabin) (n : Nat) (h : r.findCabin c.number = none) :
    (r.insertCabin c).findCabin n = if n = c.number then some c else r.findCabin n :=
  find_insertKey r.cabins _ c n h

/-- One cabin of a table put in place of another of its number. -/
theorem Berth.findCabin_replaceCabin {r : Berth} {n : Nat} {old new : Cabin} (h : r.findCabin n = some old)
    (hn : new.number = n) (m : Nat) :
    (r.modifyCabin n fun _ => new).findCabin m = if m = n then some new else r.findCabin m := by
  rw [show (r.modifyCabin n fun _ => new).findCabin m = _ from find_mapKey r.cabins n m fun _ _ => hn]
  by_cases hm : m = n
  · subst hm
    rw [if_pos rfl, show r.cabins.find? _ = _ from h, Option.map_some, if_pos rfl]
  · simp [hm, Berth.findCabin]

theorem Berth.findEntry_modifyCabin (r : Berth) (n m : Nat) (f : Cabin → Cabin) :
    (r.modifyCabin n f).findEntry m = r.findEntry m := rfl

theorem Berth.findEntry_modifyEntry (r : Berth) (i m : Nat) {f : Entry → Entry} (hf : ∀ e, (f e).index = e.index) :
    (r.modifyEntry i f).findEntry m = (r.findEntry m).map fun e => if m = i then f e else e :=
  find_mapKey r.tags i m fun e he => (hf e).trans he

/-! ## Making, removing, moving, marking -/

theorem Berth.freeIndex_of_free {r : Berth} {i : Nat} (hfree : ∀ e ∈ r.tags, e.index ≠ i)
    (hlow : ∀ m, m < i → ∃ e ∈ r.tags, e.index = m) : r.freeIndex = i := by
  have taken : r.freeIndex ∉ r.tags.map (·.index) := r.freeIndex_not_mem
  have low : ∀ m, m < r.freeIndex → m ∈ r.tags.map (·.index) := by
    intro m hm
    unfold Berth.freeIndex at hm
    cases h : (List.range (r.tags.length + 1)).find? (fun i => r.tags.all (·.index != i)) with
    | none => simp [h] at hm
    | some k =>
      rw [h, Option.getD_some] at hm
      obtain ⟨-, -, before⟩ := List.find?_range_eq_some.1 h
      have := before m hm
      simpa using this
  rcases Nat.lt_trichotomy r.freeIndex i with h | h | h
  · obtain ⟨e, he, hi⟩ := hlow _ h
    exact absurd (List.mem_map.2 ⟨e, he, hi⟩) taken
  · exact h
  · obtain ⟨e, he, hi⟩ := List.mem_map.1 (low i h)
    exact absurd hi (hfree e he)

theorem Berth.findEntry_makeEntry (r : Berth) (serial : Option Nat) (cabin : Nat) (st : EntryState) (ticket : Option Nat)
    (m : Nat) :
    (r.makeEntry serial cabin st ticket).findEntry m
      = if m = r.freeIndex then some ⟨r.freeIndex, serial, cabin, st, ticket⟩ else r.findEntry m := by
  refine find_insertKey (key := Entry.index) r.tags _ ⟨r.freeIndex, serial, cabin, st, ticket⟩ m ?_
  rw [List.find?_eq_none]
  intro e he h
  exact r.freeIndex_not_mem (List.mem_map.2 ⟨e, he, by simpa using h⟩)

theorem Berth.findCabin_makeEntry (r : Berth) (serial : Option Nat) (cabin : Nat) (st : EntryState) (ticket : Option Nat)
    (n : Nat) :
    (r.makeEntry serial cabin st ticket).findCabin n = (r.findCabin n).map fun c =>
      if n = cabin then { c.countIn st with entries := c.entries ++ [r.freeIndex] } else c :=
  Berth.findCabin_modifyCabin _ cabin n fun _ => rfl

theorem Berth.findEntry_removeEntry (r : Berth) (e : Entry) (m : Nat) :
    (r.removeEntry e).findEntry m = if m = e.index then none else r.findEntry m :=
  find_filterKey r.tags e.index m

theorem Berth.findCabin_removeEntry (r : Berth) (e : Entry) (n : Nat) :
    (r.removeEntry e).findCabin n = (r.findCabin n).map fun c =>
      if n = e.cabin then { c.countOut e.state with entries := c.entries.filter (· != e.index) } else c :=
  Berth.findCabin_modifyCabin _ e.cabin n fun _ => rfl

theorem Berth.findEntry_moveEntry (r : Berth) (e : Entry) (cabin m : Nat) :
    (r.moveEntry e cabin).findEntry m = (r.findEntry m).map fun x =>
      if m = e.index then { x with cabin := cabin } else x :=
  r.findEntry_modifyEntry e.index m fun _ => rfl

theorem Berth.findCabin_moveEntry (r : Berth) {e : Entry} {cabin : Nat} (h : e.cabin ≠ cabin) (n : Nat) :
    (r.moveEntry e cabin).findCabin n = (r.findCabin n).map fun c =>
      if n = cabin then { c.countIn e.state with entries := c.entries ++ [e.index] }
      else if n = e.cabin then { c.countOut e.state with entries := c.entries.filter (· != e.index) } else c := by
  unfold Berth.moveEntry
  rw [Berth.findCabin_modifyCabin, Berth.findCabin_modifyCabin, Option.map_map]
  · refine congrArg (Option.map · (r.findCabin n)) (funext fun c => ?_)
    by_cases hn : n = cabin
    · subst hn; simp [Ne.symm h]
    · simp [hn]
  · exact fun _ => rfl
  · exact fun _ => rfl

theorem Berth.setEntryState_of {r : Berth} {i : Nat} {e : Entry} (h : r.findEntry i = some e) (st : EntryState)
    (ticket : Option Nat) :
    r.setEntryState i st ticket
      = (r.modifyEntry i fun x => { x with state := st, ticket := ticket }).modifyCabin e.cabin (·.recount e.state st) := by
  rw [Berth.setEntryState, h]

theorem Berth.findEntry_setEntryState (r : Berth) (i : Nat) (st : EntryState) (ticket : Option Nat) (m : Nat) :
    (r.setEntryState i st ticket).findEntry m
      = (r.findEntry m).map fun e => if m = i then { e with state := st, ticket := ticket } else e := by
  cases h : r.findEntry i with
  | none =>
    rw [Berth.setEntryState, h]
    by_cases hm : m = i
    · rw [hm, h]; rfl
    · simp [hm]
  | some e =>
    rw [Berth.setEntryState_of h, Berth.findEntry_modifyCabin]
    exact r.findEntry_modifyEntry i m fun _ => rfl

theorem Berth.findCabin_setEntryState {r : Berth} {i : Nat} {e : Entry} (h : r.findEntry i = some e) (st : EntryState)
    (ticket : Option Nat) (n : Nat) :
    (r.setEntryState i st ticket).findCabin n
      = (r.findCabin n).map fun c => if n = e.cabin then c.recount e.state st else c := by
  rw [Berth.setEntryState_of h]
  exact Berth.findCabin_modifyCabin _ e.cabin n fun _ => rfl

end Sys2Proof.Machine

/-! SUPPORT. The manifest commands on cabins and decks (R64 to R67, R74). -/

namespace Sys2Proof.Machine

/-! ## The checks of R64 -/

theorem asManifest_unbound {s : State} {b : BerthId} (h : (s.berth b).state = .unbound) (body : BerthId → Berth → Taken) :
    asManifest (.berth b) s body = .refused .notConfigured := by
  simp only [asManifest, h]
  rfl

theorem asManifest_open {s : State} {b : BerthId} (h : (s.berth b).state ≠ .unbound) (body : BerthId → Berth → Taken) :
    asManifest (.berth b) s body = body b (s.berth b) :=
  if_pos (BerthState.isOpen_iff.2 h)

/-! ## Carriers that an edit reaches -/

/-- An edit that leaves the entries' answers to the test leaves the carriers that it reaches. -/
theorem State.reached_setBerth (s : State) (b : BerthId) {r : Berth} {p : Entry → Bool}
    (h : ∀ i, (r.findEntry i).any p = ((s.berth b).findEntry i).any p) :
    (s.setBerth b r).reached b p = s.reached b p := by
  unfold State.reached State.carriersWith State.carrierNumbers
  simp only [State.setBerth_carriers, State.carrier_setBerth]
  refine List.filter_congr fun k _ => congrArg ((s.carrier k).isReachable && ·) ?_
  cases (s.carrier k).identity with
  | none => rfl
  | some d =>
    by_cases hd : d.berth = b
    · subst hd
      simp only [State.entryOf, State.berth_setBerth, h]
    · dsimp only
      rw [beq_false_of_ne hd]
      rfl

theorem State.reached_lt {s : State} {b : BerthId} {p : Entry → Bool} {k : Nat} (h : k ∈ s.reached b p) :
    k < s.carriers.table.length :=
  List.mem_range.1 (List.mem_filter.1 h).1

theorem isDeck_iff {n : Nat} : isDeck n = true ↔ 1 ≤ n ∧ n ≤ 24 := by
  rw [isDeck, Bool.and_eq_true, decide_eq_true_eq, decide_eq_true_eq]

theorem isGroup_iff {g : Option Nat} : isGroup g = true ↔ ∀ n, g = some n → n ≤ 15 := by
  cases g <;> simp [isGroup]

/-! ## LOAD CABIN -/

theorem loadCabinBody_open {s : State} {b : BerthId} (cabin deck expected : Nat) (h : (s.berth b).state ≠ .unbound) :
    loadCabinBody cabin deck expected (.berth b) s
      = if !(isCabin cabin && isDeck deck) then .refused .badValue
        else match (s.berth b).findCabin cabin with
        | none =>
          if Config.cabinPlaces ≤ (s.berth b).cabins.length then .refused .full
          else .ok (s.setBerth b ((s.berth b).insertCabin ⟨cabin, deck, min 15 expected, 0, 0, false, []⟩))
            (Cabin.bytes ⟨cabin, deck, min 15 expected, 0, 0, false, []⟩)
        | some old =>
          let c := { old with deck := deck, expected := min 15 expected }
          let t := s.setBerth b ((s.berth b).modifyCabin cabin fun _ => c)
          .ok (if old.deck = deck then t else t.rechooseAll (s.reached b fun e => e.cabin == cabin)) c.bytes := by
  refine (asManifest_open h _).trans ?_
  dsimp only
  congr 1
  cases (s.berth b).findCabin cabin with
  | none => rfl
  | some old =>
    dsimp only
    rw [State.reached_setBerth]
    exact fun _ => rfl

theorem setCabinHoldBody_open {s : State} {b : BerthId} (cabin : Nat) (held : Bool) (h : (s.berth b).state ≠ .unbound) :
    setCabinHoldBody cabin held (.berth b) s
      = if !isCabin cabin then .refused .badValue
        else match (s.berth b).findCabin cabin with
        | none => .refused .notFound
        | some c =>
          if c.held = held then .ok s (flagByte held ++ bytesOf 2 0)
          else
            let t := s.setBerth b ((s.berth b).modifyCabin cabin fun c => { c with held := held })
            let ks := (s.reached b fun e => e.cabin == cabin).filter
              fun k => (s.carrier k).disposition == some (dispositionOf (!held))
            .ok (t.giveAll ks (dispositionOf held)) (flagByte held ++ bytesOf 2 ks.length) := by
  refine (asManifest_open h _).trans ?_
  dsimp only
  congr 1
  cases (s.berth b).findCabin cabin with
  | none => rfl
  | some c =>
    dsimp only
    rw [State.reached_setBerth]
    · simp only [State.carrier_setBerth]
    · exact fun _ => rfl

/-- Settles O31. -/
theorem cabinIsLoadedAndHeld : Obligations.CabinIsLoadedAndHeld := by
  constructor
  · intro s l tag b cabin deck expected old hl r c refused valid new kept stored moved
    have bad : (!(isCabin cabin && isDeck deck)) = true ↔ ¬valid := by
      rw [Bool.not_eq_true', ← Bool.not_eq_true, Bool.and_eq_true, isCabin_iff, isDeck_iff, and_assoc]
    have body (ho : r.state ≠ .unbound) (hv : valid) :
        loadCabinBody cabin deck expected (.berth b) (s.setLastServed l) = _ :=
      (loadCabinBody_open (s := s.setLastServed l) cabin deck expected ho).trans (if_neg (mt bad.1 (not_not.2 hv)))
    refine ⟨fun h => State.next_refused hl (asManifest_unbound (s := s.setLastServed l) h _), fun ho hv => ?_,
      fun ho hv hf hfull => ?_, fun ho hv hf hroom => ⟨?_, fun n => ?_⟩, fun hf => ⟨rfl, rfl, rfl, fun n => ?_⟩,
      fun ho hv hf hd => ?_, fun ho hv hf hd => ⟨?_, ?_⟩⟩
    · exact State.next_refused hl ((loadCabinBody_open (s := s.setLastServed l) cabin deck expected ho).trans
        (if_pos (bad.2 hv)))
    · refine State.next_refused hl ((body ho hv).trans ?_)
      simp only [State.berth_setLastServed, show (s.berth b).findCabin cabin = none from hf]
      exact if_pos hfull
    · refine State.next_ok hl ((body ho hv).trans ?_) rfl
      simp only [State.berth_setLastServed, show (s.berth b).findCabin cabin = none from hf]
      exact if_neg (Nat.not_le.2 hroom)
    · exact r.findCabin_insertCabin new n hf
    · exact Berth.findCabin_replaceCabin (new := kept) hf (Berth.number_of_findCabin (c := old) hf) n
    · refine State.next_ok (data := kept.bytes) hl ((body ho hv).trans ?_) rfl
      simp only [State.berth_setLastServed, show (s.berth b).findCabin cabin = some old from hf, if_pos hd]
      rfl
    · refine State.next_ok (data := kept.bytes) hl ((body ho hv).trans ?_) rfl
      simp only [State.berth_setLastServed, show (s.berth b).findCabin cabin = some old from hf, if_neg hd]
      rfl
    · exact State.retargets_rechooseAll stored moved
  · intro s l tag b cabin held x hl r c refused valid stored was now changed
    have bad : (!isCabin cabin) = true ↔ ¬valid := by
      rw [Bool.not_eq_true', ← Bool.not_eq_true, isCabin_iff]
    have body (ho : r.state ≠ .unbound) (hv : valid) :
        setCabinHoldBody cabin held (.berth b) (s.setLastServed l) = _ :=
      (setCabinHoldBody_open (s := s.setLastServed l) cabin held ho).trans (if_neg (mt bad.1 (not_not.2 hv)))
    have wasEq : was = dispositionOf (!held) := by cases held <;> rfl
    refine ⟨fun h => State.next_refused hl (asManifest_unbound (s := s.setLastServed l) h _), fun ho hv => ?_,
      fun ho hv hf => ?_, fun ho hv hf hh => ?_, fun hf => ⟨rfl, rfl, rfl, fun n => ?_⟩, fun ho hv hf hh => ⟨?_, ?_⟩⟩
    · exact State.next_refused hl ((setCabinHoldBody_open (s := s.setLastServed l) cabin held ho).trans (if_pos (bad.2 hv)))
    · refine State.next_refused hl ((body ho hv).trans ?_)
      simp only [State.berth_setLastServed, show (s.berth b).findCabin cabin = none from hf]
    · refine State.next_ok hl ((body ho hv).trans ?_) rfl
      simp only [State.berth_setLastServed, show (s.berth b).findCabin cabin = some x from hf, if_pos hh]
    · rw [r.findCabin_modifyCabin cabin n (f := fun c => { c with held := held }) fun _ => rfl]
      by_cases hn : n = cabin
      · subst hn; simp [hf]
      · simp [hn]
    · refine State.next_ok hl ((body ho hv).trans ?_) rfl
      simp only [State.berth_setLastServed, show (s.berth b).findCabin cabin = some x from hf, if_neg hh, ← wasEq]
      rfl
    · refine State.disposes_giveAll stored changed now fun k hk => ?_
      have : k < s.carriers.table.length := State.reached_lt (List.mem_filter.1 hk).1
      simpa [stored] using this

/-! ## SET DECK GROUP -/

theorem Berth.groupOf_mapDeck (r : Berth) {deck d : Nat} (group : Option Nat) (hd : 1 ≤ deck) (hd' : deck ≤ 24)
    (h1 : 1 ≤ d) : (r.mapDeck deck group).groupOf d = if d = deck then group else r.groupOf d := by
  unfold Berth.mapDeck Berth.groupOf
  rw [Vector.getElem?_setIfInBounds]
  by_cases h : d = deck
  · subst h
    rw [if_pos rfl, if_pos rfl, if_pos (by omega)]
    rfl
  · rw [if_neg h, if_neg (by omega)]

/-- Settles O35. -/
theorem deckGroupIsSet : Obligations.DeckGroupIsSet := by
  intro s l tag b deck group hl r c refused valid stored moved
  have bad : (!(isDeck deck && isGroup group)) = true ↔ ¬valid := by
    rw [Bool.not_eq_true', ← Bool.not_eq_true, Bool.and_eq_true, isDeck_iff, isGroup_iff, and_assoc]
  have opened (ho : r.state ≠ .unbound) : setDeckGroupBody deck group (.berth b) (s.setLastServed l) = _ :=
    asManifest_open (s := s.setLastServed l) ho _
  refine ⟨fun h => State.next_refused hl (asManifest_unbound (s := s.setLastServed l) h _), fun ho hv => ?_,
    fun ho hv hg => ?_, fun ho hv hg => ⟨?_, fun d h1 _ => ?_, rfl, rfl, rfl, ?_⟩⟩
  · exact State.next_refused hl ((opened ho).trans (if_pos (bad.2 hv)))
  · exact State.next_ok hl ((opened ho).trans ((if_neg (mt bad.1 (not_not.2 hv))).trans (if_pos hg))) rfl
  · refine State.next_ok hl ((opened ho).trans ((if_neg (mt bad.1 (not_not.2 hv))).trans ((if_neg hg).trans ?_))) rfl
    dsimp only
    rw [State.reached_setBerth]
    · rfl
    · exact fun _ => rfl
  · exact r.groupOf_mapDeck group hv.1 hv.2.1 h1
  · exact State.retargets_rechooseAll stored moved

end Sys2Proof.Machine

/-! SUPPORT. The manifest commands on tag entries (R68 to R73). -/

namespace Sys2Proof.Machine

/-! ## LOAD TAG -/

/-- The entry that LOAD TAG makes for a pending tag is made ON_LOOP, in two actions (R63, R69). -/
theorem Berth.setEntryState_makeEntry (r : Berth) (serial : Option Nat) (cabin : Nat) :
    (r.makeEntry serial cabin .expected none).setEntryState r.freeIndex .onLoop none
      = r.makeEntry serial cabin .onLoop none := by
  have found := r.findEntry_makeEntry serial cabin .expected none r.freeIndex
  rw [if_pos rfl] at found
  rw [Berth.setEntryState_of found]
  have tags : ∀ (l : List Entry), (∀ e ∈ l, e.index ≠ r.freeIndex) →
      l.map (fun e => if e.index == r.freeIndex then { e with state := .onLoop, ticket := none } else e) = l := by
    intro l hl
    refine (List.map_congr_left fun e he => ?_).trans (List.map_id l)
    rw [beq_false_of_ne (hl e he)]
    rfl
  have free (e : Entry) (he : e ∈ r.tags) : e.index ≠ r.freeIndex := fun h =>
    r.freeIndex_not_mem (List.mem_map.2 ⟨e, he, h⟩)
  unfold Berth.makeEntry Berth.modifyEntry Berth.modifyCabin
  dsimp only
  rw [Berth.mk.injEq]
  refine ⟨rfl, ?_, ?_, rfl⟩
  · rw [List.map_map]
    refine List.map_congr_left fun c _ => ?_
    by_cases hc : c.number = cabin <;> simp [hc, Cabin.recount, Cabin.countIn, oneIf]
  · rw [List.map_append, List.map_cons, tags _ fun e he => free e ((List.takeWhile_prefix _).subset he),
      tags _ fun e he => free e ((List.dropWhile_suffix _).subset he)]
    simp

theorem loadTagBody_open {s : State} {b : BerthId} (serial cabin : Nat) (h : (s.berth b).state ≠ .unbound) :
    loadTagBody serial cabin (.berth b) s
      = if !(serial ≤ Config.lastSerial && isCabin cabin) then .refused .badValue
        else match (s.berth b).findCabin cabin with
        | none => .refused .notFound
        | some c =>
          if ((s.berth b).findSerial serial).isSome then .refused .duplicate
          else if Config.cabinEntries ≤ c.entries.length ∨ Config.tagPlaces ≤ (s.berth b).tags.length then .refused .full
          else
            let t := s.setBerth b ((s.berth b).makeEntry (some serial) cabin .expected none)
            match s.router.pendingTags.find? fun t => t.berth == b && t.serial == serial with
            | none => .ok t (bytesOf 2 (s.berth b).freeIndex ++ bytesOrFF 2 none)
            | some r => .ok (t.matchPending r.carrier ⟨b, (s.berth b).freeIndex⟩)
              (bytesOf 2 (s.berth b).freeIndex ++ bytesOf 2 r.carrier) := by
  refine (asManifest_open h _).trans ?_
  simp only [State.setBerth_router] <;> rfl

/-- R69: a pending carrier is matched in place to the entry made for it. -/
theorem State.matchPending_eq (s : State) (b : BerthId) (serial cabin k : Nat) {x : Cabin}
    (hx : (s.berth b).findCabin cabin = some x) :
    (s.setBerth b ((s.berth b).makeEntry (some serial) cabin .expected none)).matchPending k ⟨b, (s.berth b).freeIndex⟩
      = (State.setCarrier { s.setBerth b ((s.berth b).makeEntry (some serial) cabin .onLoop none) with
          router := { s.router with pendingTags := s.router.pendingTags.filter fun r => r.carrier != k } } k
          { s.carrier k with identity := some ⟨b, (s.berth b).freeIndex⟩ }).giveDisposition k
        (if x.held then .hold else .delivery) := by
  have own : ((s.setBerth b ((s.berth b).makeEntry (some serial) cabin .expected none)).removePending k).berth b
      = (s.berth b).makeEntry (some serial) cabin .expected none := State.berth_setBerth s b _
  have entry := (s.berth b).findEntry_makeEntry (some serial) cabin .expected none (s.berth b).freeIndex
  rw [if_pos rfl] at entry
  have cab := (s.berth b).findCabin_makeEntry (some serial) cabin .expected none cabin
  rw [hx, Option.map_some, if_pos rfl] at cab
  have held : ((s.setBerth b ((s.berth b).makeEntry (some serial) cabin .expected none)).removePending k).cabinOf
      ⟨b, (s.berth b).freeIndex⟩ = some { x.countIn .expected with entries := x.entries ++ [(s.berth b).freeIndex] } := by
    rw [State.cabinOf, State.entryOf, own, entry]
    exact cab
  rw [State.matchPending, State.matchEntry, held, State.setEntryState, own, Berth.setEntryState_makeEntry]
  cases b <;> rfl

/-- Settles O32. -/
theorem tagIsLoaded : Obligations.TagIsLoaded := by
  intro s l tag b serial cabin i x t hl r c refused valid free made found
  have bad : (!(decide (serial ≤ Config.lastSerial) && isCabin cabin)) = true ↔ ¬valid := by
    rw [Bool.not_eq_true', ← Bool.not_eq_true, Bool.and_eq_true, decide_eq_true_eq, isCabin_iff]; rfl
  have body (ho : r.state ≠ .unbound) := loadTagBody_open (s := s.setLastServed l) serial cabin ho
  simp only [State.berth_setLastServed] at body
  have known (ho : r.state ≠ .unbound) (hv : valid) (hx : r.findCabin cabin = some x) :
      loadTagBody serial cabin (.berth b) (s.setLastServed l) = _ :=
    ((body ho).trans (if_neg (mt bad.1 (not_not.2 hv)))).trans (by rw [show (s.berth b).findCabin cabin = some x from hx])
  refine ⟨fun h => State.next_refused hl (asManifest_unbound (s := s.setLastServed l) h _), fun ho hv => ?_,
    fun ho hv hx => ?_, fun ho hv hx hs => ?_, fun ho hv hx hs hf => ?_, fun ho hv hx hs hlen htags hfree => ?_⟩
  · exact State.next_refused hl ((body ho).trans (if_pos (bad.2 hv)))
  · refine State.next_refused hl (((body ho).trans (if_neg (mt bad.1 (not_not.2 hv)))).trans ?_)
    rw [show (s.berth b).findCabin cabin = none from hx]
  · exact State.next_refused hl ((known ho hv hx).trans (if_pos (Option.isSome_iff_ne_none.2 hs)))
  · exact State.next_refused hl ((known ho hv hx).trans
      ((if_neg (mt Option.isSome_iff_ne_none.1 (not_not.2 hs))).trans (if_pos hf)))
  obtain rfl : r.freeIndex = i := Berth.freeIndex_of_free hfree.1 hfree.2
  have room : ¬(Config.cabinEntries ≤ x.entries.length ∨ Config.tagPlaces ≤ (s.berth b).tags.length) :=
    not_or.2 ⟨Nat.not_le.2 hlen, Nat.not_le.2 htags⟩
  have stored : loadTagBody serial cabin (.berth b) (s.setLastServed l) = _ :=
    (known ho hv hx).trans ((if_neg (mt Option.isSome_iff_ne_none.1 (not_not.2 hs))).trans (if_neg room))
  refine ⟨fun st hst => ⟨rfl, rfl, ?_, ?_, fun n hn => ?_, fun n hn => ?_⟩, fun hf => ?_, fun hf hlt => ?_⟩
  · exact (r.findEntry_makeEntry (some serial) cabin st none r.freeIndex).trans (if_pos rfl)
  · refine (r.findCabin_makeEntry (some serial) cabin st none cabin).trans ?_
    rw [hx, Option.map_some, if_pos rfl]
    rcases hst with rfl | rfl <;> rfl
  · exact (r.findEntry_makeEntry (some serial) cabin st none n).trans (if_neg hn)
  · refine (r.findCabin_makeEntry (some serial) cabin st none n).trans ?_
    simp [hn]
  · refine State.next_ok hl (stored.trans ?_) rfl
    rw [show (s.setLastServed l).router.pendingTags.find? _ = none from hf]
    rfl
  · intro joined
    have matched := State.matchPending_eq (s.setLastServed l) b serial cabin t.carrier hx
    refine ⟨_, State.next_ok hl (stored.trans ?_) rfl, matched, ?_⟩
    · rw [show (s.setLastServed l).router.pendingTags.find? _ = some t from hf]
      rfl
    have start : s.changesOnly joined [.berths, .router, .lastServed] :=
      State.changesOnly_comp (State.changesOnly_comp (s.changesOnly_setLastServed l)
        (State.changesOnly_setBerth (s.setLastServed l) b (made .onLoop)) (rs := [.berths, .lastServed]) (by simp) (by simp))
        (State.changesOnly_setRouter _
          { s.router with pendingTags := s.router.pendingTags.filter fun r => r.carrier != t.carrier })
        (by simp) (by simp)
    have carriers : joined.carriers = s.carriers := start .carriers (by simp)
    have identified := joined.changesOnly_storeCarrier t.carrier
      { s.carrier t.carrier with identity := some ⟨b, r.freeIndex⟩ }
    have inTable : t.carrier < joined.carriers.table.length := carriers ▸ hlt
    have same := joined.carrier_setCarrier_same { s.carrier t.carrier with identity := some ⟨b, r.freeIndex⟩ } inTable
    have others (k : Nat) (hk : k ≠ t.carrier) :=
      joined.carrier_setCarrier_ne { s.carrier t.carrier with identity := some ⟨b, r.freeIndex⟩ } hk
    have length : (joined.setCarrier t.carrier { s.carrier t.carrier with identity := some ⟨b, r.freeIndex⟩
        }).carriers.table.length = joined.carriers.table.length := CarrierTable.store_length _ _ _
    obtain ⟨frame, rebooked, -, rest, entered⟩ := State.disposes_giveDisposition
      (joined.setCarrier t.carrier { s.carrier t.carrier with identity := some ⟨b, r.freeIndex⟩ })
      (if x.held then .hold else .delivery) (k := t.carrier) (length ▸ inTable)
    rw [show State.matchPending _ _ _ = _ from matched]
    have own : joined.berth b = made .onLoop := State.berth_setBerth (s.setLastServed l) b _
    have given := State.changesOnly_comp identified frame (rs := [.carriers, .lanes]) (by simp) (by simp)
    refine ⟨State.changesOnly_comp start given (by simp) (by simp), ?_, ?_, fun o ho => ?_, ?_, fun j => ?_,
      fun k hk => ?_, ?_⟩
    · refine (given .lastServed (by simp)).trans ?_
      cases b <;> rfl
    · exact (State.berth_eq_of_berths (given .berths (by simp)) b).trans own
    · exact (State.berth_eq_of_berths (given .berths (by simp)) o).trans (State.berth_setBerth_ne (s.setLastServed l) _ ho)
    · exact given .router (by simp)
    · rw [← State.lane_eq_of_lanes (start .lanes (by simp)) j]
      exact rebooked j
    · exact (rest k (by simpa using hk)).trans ((others k hk).trans (State.carrier_eq_of_carriers carriers k))
    · have h := entered t.carrier (by simp)
      rwa [same] at h

end Sys2Proof.Machine

/-! SUPPORT. MOVE TAG, RELEASE HOLD BAG and WITHDRAW TAG (R70 to R73). -/

namespace Sys2Proof.Machine

/-! ## MOVE TAG -/

/-- R70: the carriers of a moved entry follow it, by re-choice where their disposition stands and by a new one elsewhere. -/
def State.followAll (s : State) (ks : List Nat) (d : Disposition) : State :=
  ks.foldl (fun u k => if (u.carrier k).disposition = some d then u.rechoose k else u.giveDisposition k d) s

theorem State.followAll_spec (s : State) (ks : List Nat) (d : Disposition) (hk : ∀ k ∈ ks, k < s.carriers.table.length)
    (hn : ks.Nodup) :
    s.changesOnly (s.followAll ks d) [.carriers, .lanes] ∧ (∀ j, (s.lane j).rebooked ((s.followAll ks d).lane j))
      ∧ (∀ k, k ∉ ks → (s.followAll ks d).carrier k = s.carrier k)
      ∧ ∀ k ∈ ks, if (s.carrier k).disposition = some d then (s.carrier k).retargeted ((s.followAll ks d).carrier k)
        else (s.carrier k).entered ((s.followAll ks d).carrier k) d := by
  induction ks generalizing s with
  | nil => exact ⟨s.changesOnly_refl _, fun _ => rfl, fun _ _ => rfl, fun _ h => by simp at h⟩
  | cons i ks ih =>
    obtain ⟨hi, hn⟩ := List.nodup_cons.1 hn
    have step : ∃ u, u = (if (s.carrier i).disposition = some d then s.rechoose i else s.giveDisposition i d)
        ∧ s.changesOnly u [.carriers, .lanes] ∧ (∀ j, (s.lane j).rebooked (u.lane j))
        ∧ u.carriers.table.length = s.carriers.table.length ∧ (∀ k, k ≠ i → u.carrier k = s.carrier k)
        ∧ if (s.carrier i).disposition = some d then (s.carrier i).retargeted (u.carrier i)
          else (s.carrier i).entered (u.carrier i) d := by
      refine ⟨_, rfl, ?_⟩
      split
      · obtain ⟨frame, rebooked, len, -, -, these, others⟩ := s.retargets_rechoose i
        exact ⟨frame, rebooked, len, fun k hk => others k (by simpa using hk), these i⟩
      · obtain ⟨frame, rebooked, len, others, these⟩ := s.disposes_giveDisposition d (hk i (by simp))
        exact ⟨frame, rebooked, len, fun k hk => others k (by simpa using hk), these i (by simp)⟩
    obtain ⟨u, hu, frame, rebooked, len, others, own⟩ := step
    have whole : s.followAll (i :: ks) d = u.followAll ks d := by rw [hu]; rfl
    obtain ⟨frame', rebooked', others', these'⟩ := ih u (fun k h => len ▸ hk k (by simp [h])) hn
    rw [whole]
    refine ⟨State.changesOnly_trans frame frame', fun j => Lane.rebooked_trans (rebooked j) (rebooked' j), fun k h => ?_,
      fun k h => ?_⟩
    · exact (others' k fun hm => h (by simp [hm])).trans (others k fun he => h (by simp [he]))
    · by_cases hki : k = i
      · subst hki
        rw [others' k hi]
        exact own
      · rw [← others k hki]
        exact these' k ((List.mem_cons.1 h).resolve_left hki)

theorem State.reached_nodup (s : State) (b : BerthId) (p : Entry → Bool) : (s.reached b p).Nodup :=
  List.Nodup.filter _ List.nodup_range

theorem State.followMove_eq (s : State) (b : BerthId) (i : Nat) (held : Bool) :
    s.followMove b i held = s.followAll (s.reached b fun e => e.index == i) (dispositionOf held) := by
  unfold State.followMove State.followAll forEach
  congr 1
  funext u k
  simp

theorem moveTagBody_open {s : State} {b : BerthId} (ref : EntryRef) (cabin : Nat) (h : (s.berth b).state ≠ .unbound) :
    moveTagBody ref cabin (.berth b) s
      = if !(isEntryRef ref && isCabin cabin) then .refused .badValue
        else match (s.berth b).findRef ref, (s.berth b).findCabin cabin with
        | some e, some c =>
          if e.cabin = cabin then .ok s e.bytes
          else if Config.cabinEntries ≤ c.entries.length then .refused .full
          else .ok ((s.setBerth b ((s.berth b).moveEntry e cabin)).followAll (s.reached b fun y => y.index == e.index)
            (dispositionOf c.held)) { e with cabin := cabin }.bytes
        | _, _ => .refused .notFound := by
  refine (asManifest_open h _).trans ?_
  congr 1
  cases (s.berth b).findRef ref with
  | none => rfl
  | some e =>
    cases (s.berth b).findCabin cabin with
    | none => rfl
    | some c =>
      dsimp only
      rw [State.followMove_eq, State.reached_setBerth]
      intro i
      rw [Berth.findEntry_moveEntry]
      cases (s.berth b).findEntry i with
      | none => rfl
      | some x => by_cases hi : i = e.index <;> simp [hi]

theorem releaseHoldBagBody_open {s : State} {b : BerthId} (ref : EntryRef) (h : (s.berth b).state ≠ .unbound) :
    releaseHoldBagBody ref (.berth b) s
      = if !isEntryRef ref then .refused .badValue
        else match (s.berth b).findRef ref with
        | none => .refused .notFound
        | some e =>
          if e.state ≠ .inHold then .refused .inUse
          else .ok (s.setEntryState b e.index .expected none) { e with state := .expected, ticket := none }.bytes :=
  asManifest_open h _

/-- Settles O33. -/
theorem entriesAreMovedAndReleased : Obligations.EntriesAreMovedAndReleased := by
  intro s l tag b ref cabin e x old hl r move release notMoved notReleased known moved stored held now one bytes freed
  have bad : (!(isEntryRef ref && isCabin cabin)) = true ↔ ¬known := by
    rw [Bool.not_eq_true', ← Bool.not_eq_true, Bool.and_eq_true, isCabin_iff]
  have toMove (ho : r.state ≠ .unbound) := moveTagBody_open (s := s.setLastServed l) ref cabin ho
  have toRelease (ho : r.state ≠ .unbound) := releaseHoldBagBody_open (s := s.setLastServed l) ref ho
  simp only [State.berth_setLastServed] at toMove toRelease
  have wellMoved (ho : r.state ≠ .unbound) (hv : known) := (toMove ho).trans (if_neg (mt bad.1 (not_not.2 hv)))
  have wellReleased (ho : r.state ≠ .unbound) (hv : isEntryRef ref = true) := (toRelease ho).trans (if_neg (by simp [hv]))
  refine ⟨fun h => ⟨?_, ?_⟩, fun ho hv => ?_, fun ho hv => ?_, fun ho hv hf => ?_, fun ho hv hf => ?_,
    fun ho hv hf hx => ⟨fun hc => ?_, fun hc hfull => ?_, fun hc hroom => ?_, fun hc he => ⟨rfl, rfl, ?_, fun n hn => ?_, ?_,
      fun hold => ?_, fun n hn hn' => ?_⟩⟩, fun ho hv hf => ⟨fun hs => ?_, fun hs he => ⟨?_, ?_, fun n hn => ?_, ?_, fun n hn => ?_⟩⟩⟩
  · exact State.next_refused hl (asManifest_unbound (s := s.setLastServed l) h _)
  · exact State.next_refused hl (asManifest_unbound (s := s.setLastServed l) h _)
  · exact State.next_refused hl ((toMove ho).trans (if_pos (bad.2 hv)))
  · exact State.next_refused hl ((toRelease ho).trans (if_pos (by simp [hv])))
  · refine State.next_refused hl ((wellMoved ho hv).trans ?_)
    rcases hf with hf | hf
    · rw [show (s.berth b).findRef ref = none from hf]
    · rw [show (s.berth b).findCabin cabin = none from hf]
      cases (s.berth b).findRef ref <;> rfl
  · refine State.next_refused hl ((wellReleased ho hv).trans ?_)
    rw [show (s.berth b).findRef ref = none from hf]
  · refine State.next_ok hl ((wellMoved ho hv).trans ?_) rfl
    rw [show (s.berth b).findRef ref = some e from hf, show (s.berth b).findCabin cabin = some x from hx]
    exact if_pos hc
  · refine State.next_refused hl ((wellMoved ho hv).trans ?_)
    rw [show (s.berth b).findRef ref = some e from hf, show (s.berth b).findCabin cabin = some x from hx]
    exact (if_neg hc).trans (if_pos hfull)
  · have frame : (s.setLastServed l).changesOnly stored [.berths] := State.changesOnly_setBerth _ _ _
    have carriers : stored.carriers = s.carriers := frame .carriers (by simp)
    obtain ⟨only, rebooked, others, these⟩ := stored.followAll_spec held now
      (fun k hk => by rw [carriers]; exact State.reached_lt hk) (s.reached_nodup b _)
    refine ⟨_, State.next_ok hl ((wellMoved ho hv).trans ?_) rfl, rfl, only, fun j => ?_, fun k hk => ?_, fun k hk => ?_⟩
    · rw [show (s.berth b).findRef ref = some e from hf, show (s.berth b).findCabin cabin = some x from hx]
      exact (if_neg hc).trans (if_neg (Nat.not_le.2 hroom))
    · rw [show s.lane j = stored.lane j from (State.lane_eq_of_lanes (frame .lanes (by simp)) j).symm]
      exact rebooked j
    · exact (others k hk).trans (State.carrier_eq_of_carriers carriers k)
    · have h := these k hk
      rwa [State.carrier_eq_of_carriers carriers k] at h
  · refine (r.findEntry_moveEntry e cabin e.index).trans ?_
    rw [he, Option.map_some, if_pos rfl]
  · refine (r.findEntry_moveEntry e cabin n).trans ?_
    simp [hn]
  · refine (r.findCabin_moveEntry hc cabin).trans ?_
    rw [hx, Option.map_some, if_pos rfl]
    simp [one, Cabin.countIn, oneIf]
  · refine (r.findCabin_moveEntry hc e.cabin).trans ?_
    rw [hold, Option.map_some, if_neg hc, if_pos rfl]
    simp [one, Cabin.countOut, oneIf]
  · refine (r.findCabin_moveEntry hc n).trans ?_
    simp [hn, hn']
  · refine State.next_refused hl ((wellReleased ho hv).trans ?_)
    rw [show (s.berth b).findRef ref = some e from hf]
    exact if_pos hs
  · refine State.next_ok (data := Entry.bytes { e with state := .expected, ticket := none }) hl ((wellReleased ho hv).trans ?_) rfl
    rw [show (s.berth b).findRef ref = some e from hf]
    exact if_neg (not_not.2 hs)
  · have own : freed.berth b = r.setEntryState e.index .expected none := State.berth_setBerth (s.setLastServed l) b _
    rw [own, r.findEntry_setEntryState, he, Option.map_some, if_pos rfl]
  · have own : freed.berth b = r.setEntryState e.index .expected none := State.berth_setBerth (s.setLastServed l) b _
    rw [own, r.findEntry_setEntryState]
    simp [hn]
  · have own : freed.berth b = r.setEntryState e.index .expected none := State.berth_setBerth (s.setLastServed l) b _
    rw [own, Berth.findCabin_setEntryState he]
    simp [hs, Cabin.recount, oneIf]
  · have own : freed.berth b = r.setEntryState e.index .expected none := State.berth_setBerth (s.setLastServed l) b _
    rw [own, Berth.findCabin_setEntryState he]
    simp [hn]

end Sys2Proof.Machine

/-! SUPPORT. WITHDRAW TAG (R71, R72). -/

namespace Sys2Proof.Machine

theorem withdrawTagBody_open {s : State} {b : BerthId} (ref : EntryRef) (h : (s.berth b).state ≠ .unbound) :
    withdrawTagBody ref (.berth b) s
      = if !isEntryRef ref then .refused .badValue
        else match (s.berth b).findRef ref with
        | none => .refused .notFound
        | some e =>
          let s' := s.setBerth b ((s.berth b).removeEntry e)
          match e.state with
          | .onLoop =>
            let k := s.holderOf b e.index
            let s' := match k with
              | none => s'
              | some k => s'.withdrawFrom k
            .ok (s'.testClosing b) (bytesOf 1 e.state.code ++ bytesOrFF 2 k)
          | .strayed => .ok (s'.setCoding (s'.coding.forgetEntry b e.index)) (bytesOf 1 e.state.code ++ bytesOrFF 2 none)
          | .expected | .delivered | .inHold | .offSystem => .ok s' (bytesOf 1 e.state.code ++ bytesOrFF 2 none) :=
  asManifest_open h _

/-- R72: what becomes of the carrier of a withdrawn entry. -/
theorem State.withdrawFrom_spec (s : State) {k : Nat} (hk : k < s.carriers.table.length) :
    s.changesOnly (s.withdrawFrom k) [.carriers, .lanes] ∧ (∀ j, (s.lane j).rebooked ((s.withdrawFrom k).lane j))
      ∧ (∀ m, m ≠ k → (s.withdrawFrom k).carrier m = s.carrier m) ∧ ((s.withdrawFrom k).carrier k).identity = none
      ∧ ((s.carrier k).isReachable = true →
        Carrier.entered { s.carrier k with identity := none } ((s.withdrawFrom k).carrier k) (.stray .withdrawn))
      ∧ ((s.carrier k).isReachable = false → (s.withdrawFrom k).carrier k = (s.carrier k).disowned .withdrawn) := by
  unfold State.withdrawFrom
  cases hr : (s.carrier k).isReachable with
  | true =>
    obtain ⟨frame, rebooked, -, others, these⟩ := s.unlists_strayUnlisted .withdrawn hk
    have own := these k (by simp)
    refine ⟨frame, rebooked, fun m hm => others m (by simpa using hm), ?_, fun _ => own, fun h => absurd h (by simp)⟩
    have h := own
    unfold Carrier.entered at h
    rw [if_pos rfl, h]
  | false =>
    have own : (s.disown k .withdrawn).carrier k = (s.carrier k).disowned .withdrawn := s.carrier_setCarrier_same _ hk
    refine ⟨s.changesOnly_setCarrier _ _, fun _ => rfl, fun m hm => s.carrier_setCarrier_ne _ hm, ?_,
      fun h => absurd h (by simp), fun _ => own⟩
    rw [if_neg (by simp), own]
    rfl

theorem Coding.forgetEntry_eq (c : Coding) (b : BerthId) (i : Nat) :
    c.forgetEntry b i = { c with
      strays := c.strays.map fun y => if y.berth = some b ∧ y.entry = some i then { y with berth := none, entry := none } else y
      reinject := c.reinject.map fun y =>
        if y.berth = some b ∧ y.entry = some i then { y with berth := none, entry := none } else y } := by
  simp only [Coding.forgetEntry, Coding.mk.injEq]
  exact ⟨(List.map_congr_left fun y _ => by simp [StrayRecord.forgetEntry]),
    (List.map_congr_left fun y _ => by simp [ReinjectRecord.forgetEntry]), trivial, trivial, trivial⟩

/-- The berth holds a bag when some carrier other than the one disowned does, or a pending record. -/
theorem State.holdsBags_of_disowned {s t : State} {k : Nat} {b : BerthId} (hc : ∀ m, m ≠ k → t.carrier m = s.carrier m)
    (hk : (t.carrier k).identity = none) (hp : t.router = s.router) :
    t.holdsBags b = false
      ↔ (∀ m, m ≠ k → (s.carrier m).isOf b = false) ∧ ∀ r ∈ s.router.pendingTags, r.berth ≠ b := by
  have own : (t.carrier k).isOf b = false := by rw [Carrier.isOf_eq, hk]; rfl
  have carriers : t.carriers.table.any (·.isOf b) = false ↔ ∀ m, m ≠ k → (s.carrier m).isOf b = false := by
    rw [← Bool.not_eq_true, State.any_table_iff]
    constructor
    · intro h m hm
      rw [← hc m hm, ← Bool.not_eq_true]
      exact fun ho => h ⟨m, Carrier.isOf_lt ho, ho⟩
    · rintro h ⟨m, -, ho⟩
      by_cases hm : m = k
      · rw [hm, own] at ho; cases ho
      · rw [hc m hm, h m hm] at ho; cases ho
  rw [State.holdsBags, Bool.or_eq_false_iff, carriers, hp]
  simp

/-- Settles O34. -/
theorem tagIsWithdrawn : Obligations.TagIsWithdrawn := by
  intro s l tag b ref e k hl r c refused stored holder ready unheld chosen
  have body (ho : r.state ≠ .unbound) := withdrawTagBody_open (s := s.setLastServed l) ref ho
  simp only [State.berth_setLastServed] at body
  have found (ho : r.state ≠ .unbound) (hv : isEntryRef ref = true) := (body ho).trans (if_neg (by simp [hv]))
  refine ⟨fun h => State.next_refused hl (asManifest_unbound (s := s.setLastServed l) h _), fun ho hv => ?_,
    fun ho hv hf => ?_, fun ho hv hf => ⟨?_, fun n hn => ?_, rfl, rfl, ?_, fun n hn => ?_, fun h1 h2 => ?_, fun hs => ?_,
      fun hs hk => ?_⟩⟩
  · exact State.next_refused hl ((body ho).trans (if_pos (by simp [hv])))
  · refine State.next_refused hl ((found ho hv).trans ?_)
    rw [show (s.berth b).findRef ref = none from hf]
  · exact (r.findEntry_removeEntry e e.index).trans (if_pos rfl)
  · exact (r.findEntry_removeEntry e n).trans (if_neg hn)
  · refine (r.findCabin_removeEntry e e.cabin).trans (congrArg (Option.map · (r.findCabin e.cabin)) (funext fun y => ?_))
    rw [if_pos rfl]
    simp [Cabin.countOut, oneIf]
  · refine (r.findCabin_removeEntry e n).trans ?_
    simp [hn]
  · refine State.next_ok (data := bytesOf 1 e.state.code ++ bytesOrFF 2 none) hl ((found ho hv).trans ?_) rfl
    rw [show (s.berth b).findRef ref = some e from hf]
    cases hst : e.state with
    | onLoop => exact absurd hst h1
    | strayed => exact absurd hst h2
    | expected | delivered | inHold | offSystem => simp only [hst]; rfl
  · refine State.next_ok (data := bytesOf 1 e.state.code ++ bytesOrFF 2 none) hl ((found ho hv).trans ?_) (by rw [hs]; rfl)
    rw [show (s.berth b).findRef ref = some e from hf]
    dsimp only
    rw [hs]
    dsimp only
    rw [Coding.forgetEntry_eq]
    cases b <;> rfl
  · have inTable : k < s.carriers.table.length :=
      List.mem_range.1 (List.mem_filter.1 (List.mem_of_head? hk)).1
    have frame0 : (s.setLastServed l).changesOnly stored [.berths] := State.changesOnly_setBerth _ _ _
    have carriers0 : stored.carriers = s.carriers := frame0 .carriers (by simp)
    have carrier0 (m) : stored.carrier m = s.carrier m := State.carrier_eq_of_carriers carriers0 m
    have body' : withdrawTagBody ref (.berth b) (s.setLastServed l)
        = .ok ((stored.withdrawFrom k).testClosing b) (bytesOf 1 e.state.code ++ bytesOrFF 2 (some k)) := by
      refine (found ho hv).trans ?_
      rw [show (s.berth b).findRef ref = some e from hf]
      simp only [hs, show (s.setLastServed l).holderOf b e.index = some k from hk]
      rfl
    obtain ⟨frame1, rebooked, others, unheldNow, reach, kept⟩ := stored.withdrawFrom_spec (k := k) (carriers0 ▸ inTable)
    have same : stored.withdrawFrom k = chosen := by
      unfold State.withdrawFrom State.strayUnlisted State.disown
      simp only [carrier0]
      rfl
    rw [carrier0] at reach kept
    have frame : s.changesOnly (stored.withdrawFrom k) [.carriers, .lanes, .berths, .lastServed] :=
      State.changesOnly_comp (State.changesOnly_comp (s.changesOnly_setLastServed l) frame0 (rs := [.berths, .lastServed])
        (by simp) (by simp)) frame1 (by simp) (by simp)
    have own : (stored.withdrawFrom k).berth b = r.removeEntry e :=
      (State.berth_eq_of_berths (frame1 .berths (by simp)) b).trans (State.berth_setBerth (s.setLastServed l) b _)
    have other (o) (h : o ≠ b) : (stored.withdrawFrom k).berth o = s.berth o :=
      (State.berth_eq_of_berths (frame1 .berths (by simp)) o).trans (State.berth_setBerth_ne (s.setLastServed l) _ h)
    have lane0 (j) : stored.lane j = s.lane j := State.lane_eq_of_lanes (frame0 .lanes (by simp)) j
    have rebooked' (j) : (s.lane j).rebooked ((stored.withdrawFrom k).lane j) := lane0 j ▸ rebooked j
    have last : (stored.withdrawFrom k).lastServed = l :=
      (frame1 .lastServed (by simp)).trans (frame0 .lastServed (by simp))
    have others' (m) (hm : m ≠ k) : (stored.withdrawFrom k).carrier m = s.carrier m := (others m hm).trans (carrier0 m)
    have ready_iff : ((stored.withdrawFrom k).berth b).state.isClosing = true ∧ (stored.withdrawFrom k).holdsBags b = false
        ↔ ready := by
      rw [State.holdsBags_of_disowned others' unheldNow (frame .router (by simp)), own]
      rfl
    rw [← same]
    generalize stored.withdrawFrom k = u at *
    by_cases hr : ready
    · obtain ⟨hc, hb⟩ := ready_iff.2 hr
      rw [State.testClosing_of hc hb] at body'
      have cleared := u.changesOnly_perBerthClear b
      have posted := (u.perBerthClear b).changesOnly_postHallAnd b (.berthState b .unbound false)
      have after : u.changesOnly ((u.perBerthClear b).postHallAnd b (.berthState b .unbound false))
          [.berths, .coding, .lanes, .principals] := State.changesOnly_comp cleared posted (by simp) (by simp)
      have carriers := State.carrier_eq_of_carriers (after .carriers (by simp))
      refine ⟨_, State.next_ok hl body' (by rw [hs]; rfl), State.changesOnly_comp frame after (by simp) (by simp),
        (after .lastServed (by simp)).trans last, fun m hm => (carriers m).trans (others' m hm), after .carriers (by simp),
        fun _ j => ?_, fun h => absurd hr h, fun h => (carriers k).symm ▸ reach h, fun h => (carriers k).trans (kept h),
        fun _ => ⟨?_, ?_⟩, fun h => absurd hr h⟩
      · rw [State.lane_eq_of_lanes (posted .lanes (by simp)) j, State.lane_perBerthClear_eq]
        have owner : (u.lane j).owner = (s.lane j).owner := by
          have h := rebooked' j
          unfold Lane.rebooked at h
          rw [h]
        rw [owner]
      · exact State.berthCleared_of_frame (State.berthCleared_of other (frame .coding (by simp)) rebooked') posted
      · exact State.principals_postHallAnd ((cleared .principals (by simp)).trans (frame .principals (by simp)))
          ((cleared .loop (by simp)).trans (frame .loop (by simp))) _ _
    · rw [State.testClosing_of_not (mt ready_iff.1 hr)] at body'
      exact ⟨_, State.next_ok hl body' (by rw [hs]; rfl), State.changesOnly_mono frame (by simp), last, others', rfl,
        fun h => absurd h hr, fun _ => rfl, reach, kept, fun h => absurd h hr,
        fun _ => ⟨own, other, frame .coding (by simp), frame .principals (by simp), rebooked'⟩⟩

end Sys2Proof.Machine

/-! SUPPORT. The lane commands and lane events (R108 to R117, R120, R121). -/

namespace Sys2Proof.Machine

/-! ## The checks of R108 -/

theorem asOwner_none {n : Nat} (h : 40 ≤ n) (p : Principal) (s : State) (body : LaneNo → Lane → Taken) :
    asOwner p s n body = .refused .badValue := by
  rw [asOwner, laneOf_none h]

theorem asOwner_other {s : State} {j : LaneNo} {p : Principal} (h : (s.lane j).owner ≠ p) (body : LaneNo → Lane → Taken) :
    asOwner p s j.val body = .refused .notOwner := by
  simp only [asOwner, laneOf_val, if_neg h]

theorem asOwner_own {s : State} {j : LaneNo} {p : Principal} (h : (s.lane j).owner = p) (body : LaneNo → Lane → Taken) :
    asOwner p s j.val body = body j (s.lane j) := by
  simp only [asOwner, laneOf_val, if_pos h]

/-! ## Re-choices after a lane change -/

theorem State.opened_of_bestLane {s : State} {k : Nat} {j : LaneNo} (h : s.bestLane k = some j) :
    (s.lane j).state = .opened := by
  have admits : s.laneAdmits (s.carrier k) (s.lane j) = true := by
    rcases s.bestLane_spec k with ⟨i, hi, -, -, ⟨-, ok⟩, -⟩ | ⟨-, hbest⟩
    · obtain rfl : i = j := Option.some.inj (hi.symm.trans h)
      exact (Bool.and_eq_true_iff.1 ok).2
    · rw [h] at hbest
      obtain ⟨-, -, ⟨-, ok⟩, -⟩ := hbest
      exact (Bool.and_eq_true_iff.1 ok).2
  exact ((s.laneAdmits_iff _ _).1 admits).1

/-- A choice gives nobody a lane that is not OPEN. -/
theorem State.chooseTarget_not_at {s : State} {j : LaneNo} (hj : (s.lane j).state ≠ .opened) (k m : Nat)
    (hm : (s.carrier m).target ≠ some j) : ((s.chooseTarget k).carrier m).target ≠ some j := by
  unfold State.chooseTarget
  split
  · split
    · exact hm
    next i hi =>
      have hij : i ≠ j := fun he => hj (he ▸ State.opened_of_bestLane hi)
      show ((s.setCarrier k { s.carrier k with target := some i, armed := false }).carrier m).target ≠ some j
      rw [State.carrier_setCarrier]
      split
      · exact fun he => hij (Option.some.inj he)
      · exact hm
  · exact hm

theorem Lane.rebooked_state {x y : Lane} (h : x.rebooked y) : y.state = x.state := by
  unfold Lane.rebooked at h; rw [h]

theorem Lane.rebooked_owner {x y : Lane} (h : x.rebooked y) : y.owner = x.owner := by
  unfold Lane.rebooked at h; rw [h]

theorem State.chooseAll_not_at {j : LaneNo} (ks : List Nat) {s : State} (hj : (s.lane j).state ≠ .opened) {m : Nat}
    (h : (s.carrier m).target ≠ some j) : ((s.chooseAll ks).carrier m).target ≠ some j := by
  induction ks generalizing s with
  | nil => exact h
  | cons k ks ih =>
    refine ih (s := s.chooseTarget k) ?_ (State.chooseTarget_not_at hj k m h)
    rw [Lane.rebooked_state ((s.retargets_chooseTarget k).2.1 j)]
    exact hj

/-- R96: with the lane not OPEN, the re-choices leave no tentative target at it. -/
theorem State.tentativeAt_rechooseLane {s : State} {j : LaneNo} (hj : (s.lane j).state ≠ .opened) :
    (s.rechooseLane j).tentativeAt j = [] := by
  have own : ∀ k ∈ s.tentativeAt j, (s.carrier k).target = some j := fun k hk => by
    have := (List.mem_filter.1 (s.tentativeAt_eq j ▸ hk)).2
    simp only [Bool.and_eq_true, beq_iff_eq] at this
    exact this.2
  obtain ⟨each, -, -⟩ := State.dropTargets_at (s.tentativeAt j) s (s.nodup_carriersWith _) own
  have closed : ((s.dropTargets (s.tentativeAt j)).lane j).state ≠ .opened := by
    rw [Lane.rebooked_state ((s.retargets_dropTargets _).2.1 j)]; exact hj
  rw [List.eq_nil_iff_forall_not_mem]
  intro k hk
  rw [State.tentativeAt_eq] at hk
  obtain ⟨hlt, hk⟩ := List.mem_filter.1 hk
  have target : ((s.rechooseLane j).carrier k).target = some j := by
    simp only [Bool.and_eq_true, beq_iff_eq] at hk
    exact hk.2
  have before : ((s.dropTargets (s.tentativeAt j)).carrier k).target = some j :=
    not_not.1 fun h => State.chooseAll_not_at (s.tentativeAt j) closed h target
  have notHeld : k ∉ s.tentativeAt j := fun hm => by rw [each, if_pos hm] at before; cases before
  have same : (s.rechooseLane j).carrier k = s.carrier k := (s.retargets_rechooseLane j).2.2.2.2.2.2 k notHeld
  refine notHeld ?_
  rw [State.tentativeAt_eq, State.carriersWith, List.mem_filter]
  refine ⟨List.mem_range.2 (s.lt_of_carrier_ne fun he => ?_), same ▸ hk⟩
  rw [same, he] at target
  cases target

/-! ## RELEASE LANE and RECLAIM LANE -/

theorem State.rechosen_owner (s : State) (j : LaneNo) (x : Lane) : (((s.setLane j x).rechooseLane j).lane j).owner = x.owner := by
  rw [Lane.rebooked_owner ((State.retargets_rechooseLane _ j).2.1 j), State.lane_setLane]

/-- A change of a lane that is not OPEN afterwards: who is re-chosen, and that none is for the lane (R96). -/
theorem State.rechosen_spec (s : State) (j : LaneNo) (x : Lane) (h : x.state ≠ .opened) :
    (s.setLane j x).retargets ((s.setLane j x).rechooseLane j) (s.tentativeAt j)
      ∧ ((s.setLane j x).rechooseLane j).tentativeAt j = [] :=
  ⟨State.retargets_rechooseLane _ j, State.tentativeAt_rechooseLane (by rw [State.lane_setLane]; exact h)⟩

theorem releaseLaneBody_berth (n : Nat) (b : BerthId) (s : State) :
    releaseLaneBody n (.berth b) s = asOwner (.berth b) s n fun j _ =>
      .ok ((s.returnLane j).postHallAnd b ((s.returnLane j).laneStateOf j .releaseLane none))
        (((s.returnLane j).lane j).bytes ++ s.rechosenBytes j) := rfl

/-- Settles O37. -/
theorem laneIsHandedBack : Obligations.LaneIsHandedBack := by
  intro s l tag p lane j b hl noRelease noReclaim back t count
  refine ⟨?_, ?_, ?_, ?_, ?_, ?_, fun ho => ⟨?_, ?_, ?_⟩⟩
  · rintro rfl
    exact State.next_refused hl rfl
  · rintro rfl
    exact State.next_refused hl rfl
  · rintro rfl hn
    exact State.next_refused hl ((releaseLaneBody_berth _ b _).trans (asOwner_none hn _ _ _))
  · rintro rfl ho
    exact State.next_refused hl ((releaseLaneBody_berth _ b _).trans (asOwner_other (s := s.setLastServed l) ho _))
  · rintro rfl hn
    exact State.next_refused hl (by simp only [reclaimLaneBody, laneOf_none hn]; rfl)
  · rintro rfl ho
    exact State.next_refused hl (by simp only [reclaimLaneBody, laneOf_val, State.lane_setLastServed, ho]; rfl)
  · rintro rfl
    exact State.next_ok hl ((releaseLaneBody_berth _ b _).trans (asOwner_own (s := s.setLastServed l) ho _)) rfl
  · rintro rfl
    refine State.next_ok (data := (t.lane j).bytes ++ bytesOf 1 (Principal.berth b).code ++ count) hl ?_ ?_
    · simp only [reclaimLaneBody, laneOf_val, State.lane_setLastServed, ho]
      rfl
    · rw [show (Principal.berth b).code = b.number by cases b <;> rfl]
  · exact (s.setLastServed l).rechosen_spec j (s.lane j).handedBack (fun h => by cases h)

/-! ## OPEN LANE, CLOSE LANE, RESET LANE FAULT and the events -/

theorem State.postLaneState_eq {s : State} {j : LaneNo} {p : Principal} (h : (s.lane j).owner = p) (cause : LaneCause) :
    s.postLaneState j cause = s.postOwner p (laneNotice s j cause none) := by
  rw [State.postLaneState, h]; rfl

theorem State.changeLane_eq {s : State} {j : LaneNo} {x : Lane} {p : Principal} (h : x.owner = p) (cause : LaneCause) :
    s.changeLane j x cause = ((s.setLane j x).rechooseLane j).postOwner p
      (laneNotice ((s.setLane j x).rechooseLane j) j cause none) :=
  State.postLaneState_eq ((s.rechosen_owner j x).trans h) cause

theorem State.changesOnly_postOwner (s : State) (p : Principal) (body : NoticeBody) :
    s.changesOnly (s.postOwner p body) [.principals] := by
  cases p with
  | hall => exact s.changesOnly_post _ _
  | berth b => exact s.changesOnly_postHallAnd b body

/-- Settles O38. -/
theorem lanesChangeState : Obligations.LanesChangeState := by
  constructor
  · intro s l tag p lane j hl x s' noOpen noClose opened closed t mended
    have toOpen (ho : x.owner = p) : openLaneBody j.val p s' = _ := asOwner_own (s := s') ho _
    have toClose (ho : x.owner = p) : closeLaneBody j.val p s' = _ := asOwner_own (s := s') ho _
    have told (ho : x.owner = p) (u : State) (y : Lane) (hy : y.owner = x.owner) (cause : LaneCause) :
        (u.setLane j y).postLaneState j cause = (u.setLane j y).postOwner p (laneNotice (u.setLane j y) j cause none) :=
      State.postLaneState_eq ((congrArg Lane.owner (State.lane_setLane u j y)).trans (hy.trans ho)) cause
    refine ⟨fun hn => ⟨?_, ?_⟩, fun ho => ⟨?_, ?_⟩, fun ho hx => ?_, fun ho hx => ⟨fun hs => ?_, fun hs => ?_, fun hs => ?_,
      fun hs => ?_⟩, fun ho => ⟨fun hs => ⟨?_, ?_⟩, fun hs => ?_, fun hs => ?_, fun hs => ?_⟩, ?_, ?_⟩
    · exact State.next_refused hl (asOwner_none hn _ _ _)
    · exact State.next_refused hl (asOwner_none hn _ _ _)
    · exact State.next_refused hl (asOwner_other (s := s') ho _)
    · exact State.next_refused hl (asOwner_other (s := s') ho _)
    · exact State.next_refused hl ((toOpen ho).trans (if_pos hx))
    · refine State.next_ok hl ((toOpen ho).trans ((if_neg hx).trans ?_)) rfl
      rw [show (s'.lane j).state = .closed from hs]
      exact congrArg (Taken.ok · []) (told ho s' { x with state := .opened } rfl .openLane)
    · refine State.next_ok hl ((toOpen ho).trans ((if_neg hx).trans ?_)) rfl
      rw [show (s'.lane j).state = .opened from hs]
    · refine State.next_refused hl ((toOpen ho).trans ((if_neg hx).trans ?_))
      rw [show (s'.lane j).state = .full from hs]
    · refine State.next_refused hl ((toOpen ho).trans ((if_neg hx).trans ?_))
      rw [show (s'.lane j).state = .faulted from hs]
    · refine State.next_ok hl ((toClose ho).trans ?_) rfl
      rw [show (s'.lane j).state = .opened from hs]
      exact congrArg (Taken.ok · (s'.rechosenBytes j)) (State.changeLane_eq (s := s') (x := { x with state := .closed }) ho .closeLane)
    · exact s'.rechosen_spec j { x with state := .closed } (fun h => by cases h)
    · refine State.next_ok hl ((toClose ho).trans ?_) rfl
      rw [show (s'.lane j).state = .full from hs]
      exact congrArg (Taken.ok · []) (told ho s' { x with state := .closed } rfl .closeLane)
    · refine State.next_ok hl ((toClose ho).trans ?_) rfl
      rw [show (s'.lane j).state = .closed from hs]
    · refine State.next_refused hl ((toClose ho).trans ?_)
      rw [show (s'.lane j).state = .faulted from hs]
    · rintro rfl hn
      exact State.next_refused hl (by simp only [resetLaneFaultBody, laneOf_none hn]; rfl)
    · rintro rfl
      have zeroByte : bytesOf 1 0 = [0] := by decide
      by_cases hs : x.state = .faulted
      · have hmended : mended = closed.setDiverter j { s.diverter j with score := 0 } :=
          congrArg (State.setDiverter · j { s.diverter j with score := 0 }) (if_pos hs)
        have post := State.changesOnly_postOwner mended x.owner (laneNotice mended j .resetFault none)
        have told' : mended.postLaneState j .resetFault = mended.postOwner x.owner (laneNotice mended j .resetFault none) :=
          State.postLaneState_eq (by
            rw [hmended]
            show (closed.lane j).owner = x.owner
            rw [show closed.lane j = _ from State.lane_setLane s' j _]) .resetFault
        have body : resetLaneFaultBody j.val .hall s' = .ok (mended.postLaneState j .resetFault)
            (((mended.postLaneState j .resetFault).lane j).bytes
              ++ bytesOf 1 ((mended.postLaneState j .resetFault).diverter j).score) := by
          simp only [resetLaneFaultBody, laneOf_val]
          refine (if_neg (not_not.2 rfl)).trans ?_
          rw [if_pos (show ((s'.setDiverter j { s'.diverter j with score := 0 }).lane j).state = .faulted from hs), hmended]
          rfl
        rw [if_pos hs]
        rw [told'] at body
        refine State.next_ok hl body ?_
        rw [State.lane_eq_of_lanes (post .lanes (by simp)) j, State.diverter_eq_of_diverters (post .diverters (by simp)) j,
          hmended, State.diverter_setDiverter, zeroByte]
      · have hmended : mended = s'.setDiverter j { s.diverter j with score := 0 } :=
          congrArg (State.setDiverter · j { s.diverter j with score := 0 }) (if_neg hs)
        have body : resetLaneFaultBody j.val .hall s' = .ok mended ((mended.lane j).bytes
            ++ bytesOf 1 (mended.diverter j).score) := by
          simp only [resetLaneFaultBody, laneOf_val]
          refine (if_neg (not_not.2 rfl)).trans ?_
          rw [if_neg (show ¬((s'.setDiverter j { s'.diverter j with score := 0 }).lane j).state = .faulted from hs), hmended]
          rfl
        rw [if_neg hs]
        refine State.next_ok hl body ?_
        rw [hmended, State.diverter_setDiverter, zeroByte]
  · intro s lane j x full t emptied
    have toFull : exec (.laneFull j.val) s = .next (s.laneFull j) := by
      show execLaneFull j.val s = _
      simp only [execLaneFull, laneOf_val]
    refine ⟨fun hn => ⟨?_, ?_⟩, fun hs => ⟨?_, ?_⟩, fun hs => ?_, fun hs => ?_, ?_⟩
    · show execLaneFull lane s = _
      rw [execLaneFull, laneOf_none hn]
    · show execLaneEmptied lane s = _
      rw [execLaneEmptied, laneOf_none hn]
    · refine toFull.trans (congrArg _ ?_)
      rw [State.laneFull, show (s.lane j).state = .opened from hs]
      exact State.changeLane_eq (x := { x with state := .full }) rfl .laneFull
    · exact s.rechosen_spec j { x with state := .full } (fun h => by cases h)
    · refine toFull.trans (congrArg _ ?_)
      rw [State.laneFull, show (s.lane j).state = .closed from hs]
      exact State.postLaneState_eq (congrArg Lane.owner (State.lane_setLane s j { x with state := .full })) .laneFull
    · refine toFull.trans (congrArg _ ?_)
      rw [State.laneFull]
      rcases hs with hs | hs <;> rw [show (s.lane j).state = _ from hs]
    · show execLaneEmptied j.val s = _
      simp only [execLaneEmptied, laneOf_val]
      exact congrArg Host.Outcome.next (State.postLaneState_eq (congrArg Lane.owner (State.lane_setLane s j x.emptied)) .laneEmptied)

/-! ## SET LANE FUNCTION and SET LANE GROUP -/

theorem functionOf_none {n : Nat} (h : 4 ≤ n) : functionOf n = none := by
  match n with
  | 0 | 1 | 2 | 3 => omega
  | n + 4 => rfl

theorem Principal.mayChoose_iff (p : Principal) (f : LaneFunction) :
    p.mayChoose f = true ↔ (p = .hall ∧ (f = .makeup ∨ f = .stray)) ∨ (p ≠ .hall ∧ f ≠ .stray) := by
  rcases p with _ | b <;> cases f <;> simp [Principal.mayChoose]

/-- R113 with the checks of R108, for a berth principal. -/
theorem setLaneGroupBody_berth {p : Principal} (h : p ≠ .hall) (n : Nat) (group : Option Nat) (s : State) :
    setLaneGroupBody n group p s = asOwner p s n fun j x =>
      if !isGroup group then .refused .badValue
      else if x.function ≠ .makeup then .refused .badValue
      else if x.group = group then .ok s (x.bytes ++ bytesOf 2 0)
      else .ok (s.changeLane j { x with group := group } .setGroup)
        (((s.changeLane j { x with group := group } .setGroup).lane j).bytes ++ s.rechosenBytes j) :=
  if_neg h

/-- Settles O39. -/
theorem laneFunctionAndGroupAreSet : Obligations.LaneFunctionAndGroupAreSet := by
  intro s l tag p lane n j f group hl x s' noFunction noGroup allowed valid withFunction withGroup t u count
  have toGroup (ho : x.owner = p) (hp : p ≠ .hall) : setLaneGroupBody j.val group p s' = _ :=
    (setLaneGroupBody_berth hp _ _ s').trans (asOwner_own (s := s') ho _)
  have toFunction (n : Nat) (ho : x.owner = p) : setLaneFunctionBody j.val n p s' = _ := asOwner_own (s := s') ho _
  have mayChoose : (!p.mayChoose f) = true ↔ ¬allowed := by
    rw [Bool.not_eq_true', ← Bool.not_eq_true, Principal.mayChoose_iff]
  have noValid : (!isGroup group) = true ↔ ¬valid := by
    rw [Bool.not_eq_true', ← Bool.not_eq_true, isGroup_iff]
  have shown (y : Lane) (hy : y.owner = p) (cause : LaneCause) :
      ((s'.changeLane j y cause).lane j) = ((s'.setLane j y).rechooseLane j).lane j := by
    rw [State.changeLane_eq hy]
    exact State.lane_eq_of_lanes (State.changesOnly_postOwner _ _ _ .lanes (by simp)) j
  refine ⟨fun hp => ?_, fun hn => ⟨?_, fun hp => ?_⟩, fun ho => ⟨?_, fun hp => ?_⟩, fun ho hn => ?_, fun ho ha => ?_,
    fun ho ha hf => ?_, fun ho ha hf => ⟨?_, State.retargets_rechooseLane _ j⟩, fun ho hp hv => ?_, fun ho hp hv hm hg => ?_,
    fun ho hp hv hm hg => ⟨?_, State.retargets_rechooseLane _ j⟩⟩
  · exact State.next_refused hl (if_pos hp)
  · exact State.next_refused hl (asOwner_none hn _ _ _)
  · exact State.next_refused hl ((setLaneGroupBody_berth hp _ _ s').trans (asOwner_none hn _ _ _))
  · exact State.next_refused hl (asOwner_other (s := s') ho _)
  · exact State.next_refused hl ((setLaneGroupBody_berth hp _ _ s').trans (asOwner_other (s := s') ho _))
  · refine State.next_refused hl ((toFunction n ho).trans ?_)
    rw [functionOf_none hn]
  · refine State.next_refused hl ((toFunction f.code ho).trans ?_)
    rw [functionOf_code]
    exact if_pos (mayChoose.2 ha)
  · refine State.next_ok hl ((toFunction f.code ho).trans ?_) rfl
    rw [functionOf_code]
    exact (if_neg (mt mayChoose.1 (not_not.2 ha))).trans (if_pos hf)
  · refine State.next_ok (data := ((s'.changeLane j { x with function := f, group := none } .setFunction).lane j).bytes
      ++ s'.rechosenBytes j) hl ((toFunction f.code ho).trans ?_) ?_
    · rw [functionOf_code, ← State.changeLane_eq (s := s') (x := { x with function := f, group := none }) ho]
      exact (if_neg (mt mayChoose.1 (not_not.2 ha))).trans (if_neg hf)
    · rw [shown { x with function := f, group := none } ho]
      rfl
  · refine State.next_refused hl ((toGroup ho hp).trans ?_)
    by_cases hv' : valid
    · exact (if_neg (mt noValid.1 (not_not.2 hv'))).trans (if_pos (hv.resolve_left (not_not.2 hv')))
    · exact if_pos (noValid.2 hv')
  · exact State.next_ok hl ((toGroup ho hp).trans ((if_neg (mt noValid.1 (not_not.2 hv))).trans
      ((if_neg (not_not.2 hm)).trans (if_pos hg)))) rfl
  · refine State.next_ok (data := ((s'.changeLane j { x with group := group } .setGroup).lane j).bytes
      ++ s'.rechosenBytes j) hl ((toGroup ho hp).trans ((if_neg (mt noValid.1 (not_not.2 hv))).trans
      ((if_neg (not_not.2 hm)).trans ((if_neg hg).trans ?_)))) ?_
    · rw [← State.changeLane_eq (s := s') (x := { x with group := group }) ho]
      rfl
    · rw [shown { x with group := group } ho]
      rfl

end Sys2Proof.Machine

/-! SUPPORT. Changes of mode and the completion of a drain (R152 to R156). -/

namespace Sys2Proof.Machine

theorem State.changeMode_withMode (s : State) (new : Mode) (cause : ModeCause) : s.changeMode new cause = s.withMode new cause := by
  unfold State.changeMode State.withMode
  by_cases h : s.mode = .run
  · rw [if_pos (beq_iff_eq.2 h), if_pos h]
    rfl
  · rw [if_neg (mt beq_iff_eq.1 h), if_neg h]
    rfl

theorem State.testDrain_of {s : State} (hm : s.mode = .draining) (hc : s.carriers.loaded = 0) :
    s.testDrain = s.withMode .setup .drainComplete :=
  (if_pos (by simp [hm, hc])).trans (s.changeMode_withMode _ _)

theorem State.testDrain_of_not {s : State} (h : s.mode ≠ .draining ∨ s.carriers.loaded ≠ 0) : s.testDrain = s :=
  if_neg (by rw [Bool.and_eq_true, beq_iff_eq, beq_iff_eq, not_and_or]; exact h)

/-- R153: the configuration that RUN asks for. -/
theorem State.configurationValid_iff (s : State) :
    s.configurationValid = true ↔ (∃ m, (s.station m).enabled = true ∧ (s.station m).offset ≠ none)
      ∧ (∀ i d, (s.point i).offset = some d → d < s.loop.count)
      ∧ (∀ m d, (s.station m).offset = some d → d < s.loop.count)
      ∧ ∀ j d, (s.lane j).offset = some d → d < s.loop.count := by
  have points : ∀ i : PointNo, i ∈ allPoints := by decide
  have stations : ∀ n : StationNo, n ∈ allStations := by decide
  have below (o : Option Nat) : isOffset s.loop.count o = true ↔ ∀ d, o = some d → d < s.loop.count := by
    cases o <;> simp [isOffset]
  simp only [State.configurationValid, Bool.and_eq_true, List.any_eq_true, List.all_eq_true, below, points, stations,
    mem_allLanes, true_and, forall_const, Option.isSome_iff_ne_none, and_assoc]

/-- A mode asked for by its code (R152). -/
theorem setModeBody_hall (n : Nat) (s : State) :
    setModeBody n .hall s = match modeOf n with
      | some .run => s.requestMode .run
      | some .hold => s.requestMode .hold
      | some .setup => s.requestMode .setup
      | _ => .refused .badValue :=
  if_neg (not_not.2 rfl)

theorem modeOf_refused {n : Nat} (h : 3 ≤ n) : modeOf n = some .draining ∨ modeOf n = some .halted ∨ modeOf n = none := by
  match n with
  | 0 | 1 | 2 => omega
  | 3 => exact .inl rfl
  | 4 => exact .inr (.inl rfl)
  | n + 5 => exact .inr (.inr rfl)

/-- Settles O40. -/
theorem modeIsSet : Obligations.ModeIsSet := by
  intro s l tag n hl s' refused taken valid draining
  have body (m : Nat) := setModeBody_hall m s'
  have isValid : s'.configurationValid = true ↔ valid := s'.configurationValid_iff
  have ask1 : setModeBody 1 .hall s' = s'.requestMode .run := body 1
  have ask2 : setModeBody 2 .hall s' = s'.requestMode .hold := body 2
  have ask0 : setModeBody 0 .hall s' = s'.requestMode .setup := body 0
  unfold State.requestMode at ask0 ask1 ask2
  simp only [State.changeMode_withMode] at ask0 ask1 ask2
  refine ⟨fun hn => ?_, ?_, ?_, ?_, ?_, ?_, ?_, ?_, ?_, ?_, ?_, ?_⟩
  · refine State.next_refused hl ((body n).trans ?_)
    rcases modeOf_refused hn with h | h | h <;> rw [h]
  · rintro rfl hm hv
    rw [show s'.mode = .setup from hm] at ask1
    exact State.next_refused hl (ask1.trans (if_neg (mt isValid.1 hv)))
  · rintro rfl hm hv
    rw [show s'.mode = .setup from hm] at ask1
    exact State.next_ok hl (ask1.trans (if_pos (isValid.2 hv))) rfl
  · rintro rfl hm
    rw [show s'.mode = .run from hm] at ask1
    exact State.next_ok hl ask1 rfl
  · rintro rfl (hm | hm)
    · rw [show s'.mode = .hold from hm] at ask1
      exact State.next_ok hl ask1 rfl
    · rw [show s'.mode = .draining from hm] at ask1
      exact State.next_ok hl ask1 rfl
  · rintro rfl hm
    rw [show s'.mode = .run from hm] at ask2
    exact State.next_ok hl ask2 rfl
  · rintro rfl hm
    rw [show s'.mode = .hold from hm] at ask2
    exact State.next_ok hl ask2 rfl
  · rintro rfl (hm | hm | hm)
    · rw [show s'.mode = .setup from hm] at ask2
      exact State.next_refused hl ask2
    · rw [show s'.mode = .draining from hm] at ask2
      exact State.next_refused hl ask2
    · rw [show s'.mode = .halted from hm] at ask2
      exact State.next_refused hl ask2
  · rintro rfl hm hc
    have stays : draining.testDrain = draining := State.testDrain_of_not (.inr hc)
    rcases hm with hm | hm
    · rw [show s'.mode = .run from hm, show (s'.withMode .draining .setMode).testDrain = _ from stays] at ask0
      exact State.next_ok hl ask0 rfl
    · rw [show s'.mode = .hold from hm, show (s'.withMode .draining .setMode).testDrain = _ from stays] at ask0
      exact State.next_ok hl ask0 rfl
  · rintro rfl hm hc
    have ends : draining.testDrain = draining.withMode .setup .drainComplete := State.testDrain_of rfl hc
    rcases hm with hm | hm
    · rw [show s'.mode = .run from hm, show (s'.withMode .draining .setMode).testDrain = _ from ends] at ask0
      exact State.next_ok hl ask0 rfl
    · rw [show s'.mode = .hold from hm, show (s'.withMode .draining .setMode).testDrain = _ from ends] at ask0
      exact State.next_ok hl ask0 rfl
  · rintro rfl (hm | hm)
    · rw [show s'.mode = .setup from hm] at ask0
      exact State.next_ok hl ask0 rfl
    · rw [show s'.mode = .draining from hm] at ask0
      exact State.next_ok hl ask0 rfl
  · rintro rfl hm
    rw [show s'.mode = .halted from hm] at ask0
    exact State.next_refused hl ask0

end Sys2Proof.Machine

/-! SUPPORT. What a loss of track, FORCE SETUP and CLEAR SORT make of entries, carriers and lanes (R14, R15, R58, R159 to
R161). -/

namespace Sys2Proof.Machine

/-! ## Entries returned to EXPECTED -/

/-- A tag entry returned to EXPECTED (Table 4-4). -/
def Entry.returned (e : Entry) : Entry := { e with state := .expected, ticket := none }

/-- The entries of some indexes are EXPECTED, and the berth is otherwise as it was. -/
structure Berth.Returned (r r' : Berth) (touched : Nat → Bool) : Prop where
  state : r'.state = r.state
  deckMap : r'.deckMap = r.deckMap
  tags : r'.tags = r.tags.map fun e => if touched e.index then e.returned else e
  cabins : r.keepsCabins r' touched

theorem Berth.Returned.refl (r : Berth) : r.Returned r fun _ => false where
  state := rfl
  deckMap := rfl
  tags := by simp
  cabins := ⟨rfl, fun _ => rfl⟩

theorem Cabin.recount_expected {c : Cabin} {st : EntryState} (h : st ≠ .delivered ∧ st ≠ .inHold) :
    c.recount st .expected = c := by
  obtain ⟨h1, h2⟩ := h
  cases st <;> simp_all [Cabin.recount, oneIf]

theorem Berth.Returned.step {r r' : Berth} {touched : Nat → Bool} (h : r.Returned r' touched) (i : Nat) :
    r.Returned (r'.setEntryState i .expected none) fun m => touched m || m == i := by
  cases hf : r'.findEntry i with
  | none =>
    have absent : ∀ e ∈ r.tags, e.index ≠ i := by
      intro e he hi
      have hmem : (if touched e.index then e.returned else e) ∈ r'.tags := h.tags ▸ List.mem_map_of_mem he
      refine List.find?_eq_none.1 hf _ hmem ?_
      split
      · exact beq_iff_eq.2 hi
      · exact beq_iff_eq.2 hi
    have same : r'.setEntryState i .expected none = r' := by rw [Berth.setEntryState, hf]
    rw [same]
    refine ⟨h.state, h.deckMap, ?_, h.cabins.1, fun hall => h.cabins.2 fun e he ht => hall e he (by simp [ht])⟩
    rw [h.tags]
    refine List.map_congr_left fun e he => ?_
    simp [absent e he]
  | some e =>
    rw [Berth.setEntryState_of hf]
    refine ⟨h.state, h.deckMap, ?_, ?_, fun hall => ?_⟩
    · show (r'.modifyEntry i _).tags = _
      simp only [Berth.modifyEntry, h.tags, List.map_map]
      refine List.map_congr_left fun x _ => ?_
      by_cases hi : x.index = i
      · subst hi
        cases ht : touched x.index <;> simp [ht, Entry.returned]
      · cases ht : touched x.index <;> simp [ht, hi, Entry.returned]
    · refine Eq.trans ?_ h.cabins.1
      show (List.map _ r'.cabins).map _ = _
      rw [List.map_map]
      refine List.map_congr_left fun c _ => ?_
      by_cases hc : c.number = e.cabin <;> simp [hc, Cabin.recount, Cabin.uncounted]
    · have he := Berth.mem_of_findEntry hf
      have hi := Berth.index_of_findEntry hf
      rw [h.tags, List.mem_map] at he
      obtain ⟨x, hx, rfl⟩ := he
      have fine : ∀ y ∈ r.tags, touched y.index = true → y.state ≠ .delivered ∧ y.state ≠ .inHold :=
        fun y hy ht => hall y hy (by simp [ht])
      have hstate : (if touched x.index then x.returned else x).state ≠ .delivered
          ∧ (if touched x.index then x.returned else x).state ≠ .inHold := by
        split
        · simp [Entry.returned]
        next ht =>
          rw [if_neg ht] at hi
          exact hall x hx (by simp [hi])
      generalize (if touched x.index then x.returned else x) = y at hstate
      refine Eq.trans ?_ (h.cabins.2 fine)
      refine (List.map_congr_left fun c _ => ?_).trans (List.map_id _)
      split
      · exact Cabin.recount_expected hstate
      · rfl

theorem Berth.Returned.trans {r r' r'' : Berth} {p q : Nat → Bool} (h : r.Returned r' p) (h' : r'.Returned r'' q) :
    r.Returned r'' fun i => p i || q i := by
  refine ⟨h'.state.trans h.state, h'.deckMap.trans h.deckMap, ?_, h'.cabins.1.trans h.cabins.1, fun hall => ?_⟩
  · rw [h'.tags, h.tags, List.map_map]
    refine List.map_congr_left fun e _ => ?_
    cases hp : p e.index <;> cases hq : q e.index <;> simp [hp, hq, Entry.returned]
  · refine (h'.cabins.2 fun e he hq => ?_).trans (h.cabins.2 fun e he hp => hall e he (by simp [hp]))
    rw [h.tags, List.mem_map] at he
    obtain ⟨x, hx, rfl⟩ := he
    split
    · simp [Entry.returned]
    next hp =>
      rw [if_neg hp] at hq
      exact hall x hx (by simp [hq])

theorem Berth.Returned.findEntry {r r' : Berth} {touched : Nat → Bool} (h : r.Returned r' touched) (i : Nat) :
    r'.findEntry i = (r.findEntry i).map fun e => if touched i then e.returned else e := by
  unfold Berth.findEntry
  rw [h.tags, List.find?_map]
  have key : ((fun e => e.index == i) ∘ fun e : Entry => if touched e.index then e.returned else e) = fun e => e.index == i := by
    funext e
    simp only [Function.comp]
    split <;> rfl
  rw [key]
  cases hf : r.tags.find? (·.index == i) with
  | none => rfl
  | some e =>
    have hi : e.index = i := by simpa using List.find?_some hf
    simp [hi]

theorem Berth.Returned.congr {r r' : Berth} {p q : Nat → Bool} (h : r.Returned r' p) (hpq : ∀ i, p i = q i) : r.Returned r' q :=
  funext hpq ▸ h

/-- Some entries returned to EXPECTED: no part but the berths, and of them nothing else (Table 4-4). -/
def State.Returns (s t : State) (touched : BerthId → Nat → Bool) : Prop :=
  ∀ b, (s.berth b).Returned (t.berth b) (touched b)

theorem State.Returns.refl (s : State) : s.Returns s fun _ _ => false := fun b => Berth.Returned.refl (s.berth b)

theorem State.Returns.step {s t : State} {touched : BerthId → Nat → Bool} (h : s.Returns t touched) (d : Identity) :
    s.Returns (t.setEntryState d.berth d.entry .expected none) fun b i => touched b i || (⟨b, i⟩ : Identity) == d := by
  intro b
  by_cases hb : b = d.berth
  · subst hb
    rw [State.setEntryState, State.berth_setBerth]
    refine ((h d.berth).step d.entry).congr fun i => congrArg (touched d.berth i || ·) ?_
    rw [Bool.eq_iff_iff, beq_iff_eq, beq_iff_eq]
    exact ⟨fun he => by rw [he], fun he => by rw [← he]⟩
  · rw [State.setEntryState, State.berth_setBerth_ne _ _ hb]
    refine (h b).congr fun i => ?_
    have : ((⟨b, i⟩ : Identity) == d) = false := beq_false_of_ne fun he => hb (by rw [← he])
    show touched b i = (touched b i || _)
    rw [this, Bool.or_false]

/-! ## Carriers that are lost track of -/

/-- A carrier record as R14 and R159 leave a loaded carrier that is not FIRED. -/
def Carrier.strayed (c : Carrier) : Carrier :=
  { c with
    state := .unverified, identity := none, candidate := none, disposition := none, target := none, armed := false
    laps := 0, tries := 0 }

/-- The units that some carriers release at a lane. -/
def State.released (s : State) (ks : List Nat) (j : LaneNo) : Nat :=
  ((ks.filter fun k => (s.carrier k).target == some j).map fun k => (s.carrier k).units).sum

/-- Some carrier of the list holds an entry as its identity. -/
def State.heldBy (s : State) (ks : List Nat) (b : BerthId) (i : Nat) : Bool :=
  ks.any fun k => (s.carrier k).identity == some ⟨b, i⟩

/-- R95: a dropped target, its units released. -/
theorem State.dropTarget_spec (s : State) {k : Nat} (hk : k < s.carriers.table.length) :
    s.changesOnly (s.dropTarget k) [.carriers, .lanes]
      ∧ (s.dropTarget k).carriers.table.length = s.carriers.table.length
      ∧ (s.dropTarget k).carrier k = { s.carrier k with
        target := none, armed := if (s.carrier k).target = none then (s.carrier k).armed else false }
      ∧ (∀ m, m ≠ k → (s.dropTarget k).carrier m = s.carrier m)
      ∧ ∀ j, (s.dropTarget k).lane j = { s.lane j with
        inbound := (s.lane j).inbound - if (s.carrier k).target = some j then (s.carrier k).units else 0 } := by
  obtain ⟨frame, -, len, -, -, -, others⟩ := s.retargets_dropTarget k
  refine ⟨frame, len, ?_, fun m hm => others m (by simpa using hm), fun j => ?_⟩
  · cases ht : (s.carrier k).target with
    | none => rw [State.dropTarget_none ht, if_pos rfl, ← ht]
    | some i =>
      rw [State.dropTarget_some ht, if_neg (by simp)]
      exact s.carrier_setCarrier_same _ hk
  · cases ht : (s.carrier k).target with
    | none => rw [State.dropTarget_none ht, if_neg (by simp)]; rfl
    | some i =>
      rw [State.dropTarget_some ht]
      by_cases hj : j = i
      · subst hj
        rw [State.lane_setLane, if_pos rfl]
      · rw [State.lane_setLane_ne _ _ hj, if_neg fun he => hj (Option.some.inj he).symm]
        rfl

theorem State.dropIdentity_none {s : State} {k : Nat} (h : (s.carrier k).identity = none) (st : EntryState) :
    s.dropIdentity k st = s := by
  rw [State.dropIdentity, h]

theorem State.dropIdentity_some {s : State} {k : Nat} {d : Identity} (h : (s.carrier k).identity = some d) (st : EntryState) :
    s.dropIdentity k st
      = (s.setCarrier k { s.carrier k with identity := none }).setEntryState d.berth d.entry st none := by
  rw [State.dropIdentity, h]

/-- R10: a dropped identity, its entry EXPECTED. -/
theorem State.dropIdentity_spec (s : State) {k : Nat} (hk : k < s.carriers.table.length) :
    s.changesOnly (s.dropIdentity k .expected) [.carriers, .berths]
      ∧ (s.dropIdentity k .expected).carriers.table.length = s.carriers.table.length
      ∧ (s.dropIdentity k .expected).carrier k = { s.carrier k with identity := none }
      ∧ (∀ m, m ≠ k → (s.dropIdentity k .expected).carrier m = s.carrier m)
      ∧ s.Returns (s.dropIdentity k .expected) fun b i => (s.carrier k).identity == some ⟨b, i⟩ := by
  cases hd : (s.carrier k).identity with
  | none =>
    rw [State.dropIdentity_none hd]
    exact ⟨s.changesOnly_refl _, rfl, by rw [← hd], fun _ _ => rfl, State.Returns.refl s⟩
  | some d =>
    rw [State.dropIdentity_some hd]
    have stored := s.changesOnly_storeCarrier k { s.carrier k with identity := none }
    have entered := (s.setCarrier k { s.carrier k with identity := none }).changesOnly_setBerth d.berth
      (((s.setCarrier k { s.carrier k with identity := none }).berth d.berth).setEntryState d.entry .expected none)
    have carriers := entered .carriers (by simp)
    refine ⟨State.changesOnly_comp stored entered (by simp) (by simp), ?_, ?_, fun m hm => ?_, ?_⟩
    · exact (congrArg (fun t : CarrierTable => t.table.length) carriers).trans (CarrierTable.store_length _ _ _)
    · exact (State.carrier_eq_of_carriers carriers k).trans (s.carrier_setCarrier_same _ hk)
    · exact (State.carrier_eq_of_carriers carriers m).trans (s.carrier_setCarrier_ne _ hm)
    · have none : s.Returns (s.setCarrier k { s.carrier k with identity := none }) fun _ _ => false := State.Returns.refl s
      refine fun b => (none.step d b).congr fun i => ?_
      show (false || (⟨b, i⟩ : Identity) == d) = (some d == some ⟨b, i⟩)
      rw [Bool.false_or, Bool.eq_iff_iff, beq_iff_eq, beq_iff_eq, Option.some.injEq]
      exact eq_comm

/-- R14, R159: what becomes of one carrier, its lane and its entry. -/
theorem State.unverify_spec (s : State) {k : Nat} (hk : k < s.carriers.table.length) :
    s.changesOnly (s.unverify k) [.carriers, .lanes, .berths]
      ∧ (s.unverify k).carriers.table.length = s.carriers.table.length
      ∧ (s.unverify k).carrier k = (s.carrier k).strayed
      ∧ (∀ m, m ≠ k → (s.unverify k).carrier m = s.carrier m)
      ∧ (∀ j, (s.unverify k).lane j = { s.lane j with
        inbound := (s.lane j).inbound - if (s.carrier k).target = some j then (s.carrier k).units else 0 })
      ∧ s.Returns (s.unverify k) fun b i => (s.carrier k).identity == some ⟨b, i⟩ := by
  obtain ⟨f1, len1, own1, other1, lane1⟩ := s.dropTarget_spec hk
  obtain ⟨f2, len2, own2, other2, ret2⟩ := (s.dropTarget k).dropIdentity_spec (k := k) (len1 ▸ hk)
  have f3 := ((s.dropTarget k).dropIdentity k .expected).changesOnly_storeCarrier k
    { ((s.dropTarget k).dropIdentity k .expected).carrier k with
      state := .unverified, disposition := none, candidate := none, armed := false, laps := 0, tries := 0 }
  refine ⟨State.changesOnly_comp (State.changesOnly_comp f1 f2 (rs := [.carriers, .lanes, .berths]) (by simp) (by simp)) f3
    (by simp) (by simp), (CarrierTable.store_length _ _ _).trans (len2.trans len1), ?_, fun m hm => ?_, fun j => ?_, fun b => ?_⟩
  · refine (State.carrier_setCarrier_same _ _ (len2.trans len1 ▸ hk)).trans ?_
    rw [own2, own1]
    rfl
  · exact (State.carrier_setCarrier_ne _ _ hm).trans ((other2 m hm).trans (other1 m hm))
  · exact (State.lane_eq_of_lanes (f2 .lanes (by simp)) j).trans (lane1 j)
  · have h := ret2 b
    rw [State.berth_eq_of_berths (f1 .berths (by simp)) b, own1] at h
    exact h

/-- R14, R159: what becomes of several carriers, their lanes and their entries. -/
theorem State.forEach_unverify (ks : List Nat) (s : State) (hk : ∀ k ∈ ks, k < s.carriers.table.length) (hn : ks.Nodup) :
    s.changesOnly (forEach ks (fun s k => s.unverify k) s) [.carriers, .lanes, .berths]
      ∧ (forEach ks (fun s k => s.unverify k) s).carriers.table.length = s.carriers.table.length
      ∧ (∀ m, (forEach ks (fun s k => s.unverify k) s).carrier m = if m ∈ ks then (s.carrier m).strayed else s.carrier m)
      ∧ (∀ j, (forEach ks (fun s k => s.unverify k) s).lane j = { s.lane j with
        inbound := (s.lane j).inbound - s.released ks j })
      ∧ s.Returns (forEach ks (fun s k => s.unverify k) s) (s.heldBy ks) := by
  induction ks generalizing s with
  | nil => exact ⟨s.changesOnly_refl _, rfl, fun _ => rfl, fun _ => rfl, State.Returns.refl s⟩
  | cons k ks ih =>
    obtain ⟨hnot, hn⟩ := List.nodup_cons.1 hn
    obtain ⟨f1, len1, own1, other1, lane1, ret1⟩ := s.unverify_spec (hk k (by simp))
    obtain ⟨f2, len2, each2, lane2, ret2⟩ := ih (s.unverify k) (fun m hm => len1 ▸ hk m (by simp [hm])) hn
    have later (m : Nat) (hm : m ∈ ks) : (s.unverify k).carrier m = s.carrier m := other1 m fun he => hnot (he ▸ hm)
    refine ⟨State.changesOnly_trans f1 f2, len2.trans len1, fun m => (each2 m).trans ?_, fun j => (lane2 j).trans ?_, fun b => ?_⟩
    · by_cases hm : m = k
      · subst hm
        rw [if_neg hnot, own1, if_pos (by simp)]
      · simp [hm, other1 m hm]
    · have rest : (s.unverify k).released ks j = s.released ks j := by
        unfold State.released
        rw [List.filter_congr fun m hm => by rw [later m hm],
          List.map_congr_left fun m hm => by rw [later m (List.mem_filter.1 hm).1]]
      have first : s.released (k :: ks) j = (if (s.carrier k).target = some j then (s.carrier k).units else 0) + s.released ks j := by
        unfold State.released
        by_cases ht : (s.carrier k).target = some j <;> simp [ht]
      rw [rest, first, lane1 j, Nat.sub_add_eq]
    · have h := ret2 b
      refine ((ret1 b).trans h).congr fun i => ?_
      have rest : (s.unverify k).heldBy ks b i = s.heldBy ks b i := by
        unfold State.heldBy
        rw [Bool.eq_iff_iff, List.any_eq_true, List.any_eq_true]
        exact exists_congr fun m => and_congr_right fun hm => by rw [later m hm]
      rw [rest]
      rfl

/-! ## The test of both closings -/

/-- R56: the effect of one test, by whether its condition holds. -/
theorem State.testClosing_spec (s : State) (b : BerthId) {c : Bool}
    (hc : ((s.berth b).state.isClosing && !s.holdsBags b) = c) :
    s.changesOnly (s.testClosing b) [.berths, .coding, .lanes, .principals]
      ∧ (∀ a, (s.testClosing b).berth a = if c = true ∧ a = b then Berth.clear else s.berth a)
      ∧ (s.testClosing b).coding = (if c then s.coding.forget b else s.coding)
      ∧ (∀ j, (s.testClosing b).lane j
        = if c = true ∧ (s.lane j).owner = .berth b then (s.lane j).handedBack else s.lane j)
      ∧ (s.testClosing b).principals
        = (if c then s.postHallAnd b (.berthState b .unbound false) else s).principals := by
  cases c with
  | false =>
    rw [State.testClosing, if_neg (by simp [hc])]
    exact ⟨s.changesOnly_refl _, fun a => by simp, rfl, fun j => by simp, rfl⟩
  | true =>
    have cleared := s.changesOnly_perBerthClear b
    have posted := (s.perBerthClear b).changesOnly_postHallAnd b (.berthState b .unbound false)
    rw [State.testClosing, if_pos hc]
    refine ⟨State.changesOnly_comp cleared posted (by simp) (by simp), fun a => ?_, ?_, fun j => ?_, ?_⟩
    · rw [State.berth_eq_of_berths (posted .berths (by simp)), State.berth_perBerthClear]
      simp
    · exact (posted .coding (by simp)).trans (s.coding_perBerthClear b)
    · rw [State.lane_eq_of_lanes (posted .lanes (by simp)), State.lane_perBerthClear_eq]
      simp
    · exact State.principals_postHallAnd (cleared .principals (by simp)) (cleared .loop (by simp)) _ _

/-- The references of a list record to berths that are gone (R148, log 11). -/
def Coding.forgetAll (c : Coding) (gone : BerthId → Bool) : Coding :=
  { c with
    strays := c.strays.map fun r => if r.berth.any gone then { r with berth := none, entry := none } else r
    reinject := c.reinject.map fun r => if r.berth.any gone then { r with berth := none, entry := none } else r }

theorem Coding.forgetAll_none (c : Coding) : c.forgetAll (fun _ => false) = c := by
  have no (b : Option BerthId) : b.any (fun _ => false) = false := by cases b <;> rfl
  simp [Coding.forgetAll, no]

theorem Coding.forget_eq (c : Coding) (b : BerthId) : c.forget b = c.forgetAll (· == b) := by
  have one (a : Option BerthId) : (a == some b) = a.any (· == b) := by cases a <;> rfl
  simp only [Coding.forget, Coding.forgetAll, StrayRecord.forget, ReinjectRecord.forget, one]

theorem Coding.forgetAll_forgetAll (c : Coding) (p q : BerthId → Bool) :
    (c.forgetAll p).forgetAll q = c.forgetAll fun b => p b || q b := by
  have either (b : Option BerthId) : b.any (fun b => p b || q b) = (b.any p || b.any q) := by cases b <;> simp
  simp only [Coding.forgetAll, List.map_map, Coding.mk.injEq, either]
  refine ⟨List.map_congr_left fun r _ => ?_, List.map_congr_left fun r _ => ?_, trivial, trivial, trivial⟩
  · cases hp : r.berth.any p <;> cases hq : r.berth.any q <;> simp [hp, hq]
  · cases hp : r.berth.any p <;> cases hq : r.berth.any q <;> simp [hp, hq]

/-- A lane whose owner is gone goes back to the hall (R58). -/
def Lane.afterClosing (x : Lane) (gone : BerthId → Bool) : Lane :=
  match x.owner with
  | .hall => x
  | .berth b => if gone b then x.handedBack else x

/-- The notices of the closings that complete, berth 1 before berth 2 (log 43). -/
def State.toldOf (s : State) (gone : BerthId → Bool) : State :=
  let one := if gone .one then s.postHallAnd .one (.berthState .one .unbound false) else s
  if gone .two then one.postHallAnd .two (.berthState .two .unbound false) else one

theorem State.testAllClosing_spec (s : State) {gone : BerthId → Bool}
    (hg : ∀ b, ((s.berth b).state.isClosing && !s.holdsBags b) = gone b) :
    s.changesOnly s.testAllClosing [.berths, .coding, .lanes, .principals]
      ∧ (∀ b, s.testAllClosing.berth b = if gone b then Berth.clear else s.berth b)
      ∧ s.testAllClosing.coding = s.coding.forgetAll gone
      ∧ (∀ j, s.testAllClosing.lane j = (s.lane j).afterClosing gone)
      ∧ s.testAllClosing.principals = (s.toldOf gone).principals := by
  obtain ⟨f1, b1, c1, l1, p1⟩ := s.testClosing_spec .one (hg .one)
  have bags : (s.testClosing .one).holdsBags .two = s.holdsBags .two := by
    rw [State.holdsBags, State.holdsBags, f1 .carriers (by simp), f1 .router (by simp)]
  obtain ⟨f2, b2, c2, l2, p2⟩ := (s.testClosing .one).testClosing_spec .two (c := gone .two)
    (by rw [bags, b1, if_neg (by simp), hg])
  refine ⟨State.changesOnly_trans f1 f2, fun b => ?_, ?_, fun j => ?_, ?_⟩
  · refine (b2 b).trans ?_
    rw [b1]
    cases b <;> simp
  · refine c2.trans ?_
    rw [c1]
    have one (c : Coding) (b : BerthId) (g : Bool) : (if g then c.forget b else c) = c.forgetAll fun a => g && a == b := by
      cases g
      · exact c.forgetAll_none.symm
      · simpa using c.forget_eq b
    rw [one, one, Coding.forgetAll_forgetAll]
    refine congrArg s.coding.forgetAll (funext fun b => ?_)
    cases b <;> simp
  · refine (l2 j).trans ?_
    rw [l1]
    unfold Lane.afterClosing
    cases ho : (s.lane j).owner with
    | hall => simp [ho]
    | berth b =>
      cases b
      · cases h1 : gone .one <;> simp [ho, h1, Lane.handedBack]
      · cases h2 : gone .two <;> simp [ho, h2]
  · refine p2.trans ?_
    unfold State.toldOf
    have same : (s.testClosing .one).principals
        = (if gone .one then s.postHallAnd .one (.berthState .one .unbound false) else s).principals := p1
    have loops : (s.testClosing .one).loop
        = (if gone .one then s.postHallAnd .one (.berthState .one .unbound false) else s).loop := by
      rw [f1 .loop (by simp)]
      split <;> rfl
    cases gone .two with
    | false => exact same
    | true => exact State.principals_postHallAnd same loops _ _

end Sys2Proof.Machine

/-! SUPPORT. The loss of track at a slip and at the exit from HALTED (R14, R15, R159), and the end of a drain. -/

namespace Sys2Proof.Machine

/-! ## The losers by number and by record -/

theorem State.table_eq_map (s : State) : s.carriers.table = (List.range s.carriers.table.length).map s.carrier := by
  refine List.ext_getElem (by simp) fun i h1 _ => ?_
  simp [State.carrier, List.getElem?_eq_getElem h1]

theorem State.mem_losers_iff (s : State) (k : Nat) : k ∈ s.losers ↔ (s.carrier k).losesIdentity = true := by
  rw [State.losers, State.carriersWith, State.carrierNumbers, List.mem_filter, List.mem_range]
  exact and_iff_right_of_imp fun h => s.lt_of_carrier_ne fun he => by rw [he] at h; cases h

theorem Carrier.lost_eq (c : Carrier) : c.lost = if c.losesIdentity then c.strayed else c := by
  unfold Carrier.lost Carrier.losesIdentity Carrier.isLoaded
  cases c.state <;> rfl

theorem State.released_losers (s : State) (j : LaneNo) :
    s.released s.losers j
      = ((s.carriers.table.filter fun c => c.losesIdentity && c.target == some j).map Carrier.units).sum := by
  rw [State.table_eq_map s, List.filter_map, List.map_map]
  unfold State.released State.losers State.carriersWith State.carrierNumbers
  rw [List.filter_filter]
  congr 2
  refine List.filter_congr fun k _ => ?_
  simp [Bool.and_comm]

theorem State.heldBy_losers (s : State) (b : BerthId) (i : Nat) :
    s.heldBy s.losers b i = s.carriers.table.any fun c => c.losesIdentity && c.identity == some ⟨b, i⟩ := by
  rw [Bool.eq_iff_iff, State.any_table_iff, State.heldBy, List.any_eq_true]
  refine exists_congr fun k => ?_
  rw [s.mem_losers_iff, Bool.and_eq_true]
  exact ⟨fun ⟨hl, hi⟩ => ⟨s.lt_of_carrier_ne fun he => (by rw [he] at hl; cases hl), hl, hi⟩, fun ⟨_, hl, hi⟩ => ⟨hl, hi⟩⟩

theorem State.length_losers (s : State) :
    s.losers.length = s.carriers.table.countP fun c => c.state != .empty && c.state != .fired := by
  rw [State.losers, State.carriersWith, State.carrierNumbers]
  conv_rhs => rw [State.table_eq_map s]
  rw [List.countP_map, List.countP_eq_length_filter]
  rfl

/-- R14, R159: what becomes of every loaded carrier that is not FIRED. -/
theorem State.unverifyAll_spec (s : State) :
    s.changesOnly s.unverifyAll [.carriers, .lanes, .berths]
      ∧ s.unverifyAll.carriers.table.length = s.carriers.table.length
      ∧ (∀ k, s.unverifyAll.carrier k = (s.carrier k).lost)
      ∧ (∀ j, s.unverifyAll.lane j = { s.lane j with inbound := (s.lane j).inbound
        - ((s.carriers.table.filter fun c => c.losesIdentity && c.target == some j).map Carrier.units).sum })
      ∧ s.Returns s.unverifyAll fun b i => s.carriers.table.any fun c => c.losesIdentity && c.identity == some ⟨b, i⟩ := by
  obtain ⟨frame, len, each, lanes, ret⟩ := State.forEach_unverify s.losers s
    (fun k hk => List.mem_range.1 (List.mem_filter.1 hk).1) (List.nodup_range.filter _)
  refine ⟨frame, len, fun k => (each k).trans ?_, fun j => (lanes j).trans ?_, fun b => (ret b).congr (s.heldBy_losers b)⟩
  · rw [Carrier.lost_eq]
    simp only [s.mem_losers_iff]
  · rw [s.released_losers j]

/-! ## The closings that a loss of track completes -/

theorem Lane.afterClosing_inbound (x : Lane) (gone : BerthId → Bool) (n : Nat) :
    ({ x with inbound := n } : Lane).afterClosing gone = { x.afterClosing gone with inbound := n } := by
  obtain ⟨offset, capacity, fill, inbound, owner, function, group, state⟩ := x
  cases owner with
  | hall => rfl
  | berth b =>
    unfold Lane.afterClosing
    dsimp only
    cases gone b <;> rfl

/-- R15, R58, R159: what the test of both closings makes of a state that has lost track of the bags of another. -/
theorem State.lostTrack {s v : State} (hc : v.carriers = s.unverifyAll.carriers) (hb : v.berths = s.unverifyAll.berths)
    (hl : v.lanes = s.unverifyAll.lanes) (hcod : v.coding = s.coding) (hr : v.router.pendingTags = []) :
    v.changesOnly v.testAllClosing [.berths, .coding, .lanes, .principals] ∧ s.trackLost v.testAllClosing
      ∧ v.testAllClosing.principals = (v.toldOf s.leftByLoss).principals := by
  obtain ⟨-, len, each, lanes, ret⟩ := s.unverifyAll_spec
  have berth (b) : v.berth b = s.unverifyAll.berth b := State.berth_eq_of_berths hb b
  have carrier (k) : v.carrier k = (s.carrier k).lost := (State.carrier_eq_of_carriers hc k).trans (each k)
  have length : v.carriers.table.length = s.carriers.table.length := by rw [hc, len]
  have held (k) (b : BerthId) : (v.carrier k).isOf b = ((s.carrier k).isOf b && !(s.carrier k).losesIdentity) := by
    rw [carrier, Carrier.lost_eq]
    cases h : (s.carrier k).losesIdentity with
    | true => simp [Carrier.strayed, Carrier.isOf_eq]
    | false => simp
  have gone (b) : ((v.berth b).state.isClosing && !v.holdsBags b) = s.leftByLoss b := by
    have bags : v.holdsBags b = s.carriers.table.any fun c => c.isOf b && !c.losesIdentity := by
      have carriers : v.carriers.table.any (·.isOf b) = s.carriers.table.any fun c => c.isOf b && !c.losesIdentity := by
        rw [Bool.eq_iff_iff, State.any_table_iff, State.any_table_iff, length]
        simp only [held]
      rw [State.holdsBags, hr, carriers]
      simp
    rw [bags, berth b, (ret b).state, State.leftByLoss, List.not_any_eq_all_not]
    simp [Bool.not_and]
  obtain ⟨frame, tb, tc, tl, tp⟩ := v.testAllClosing_spec gone
  refine ⟨frame, ⟨?_, fun k => ?_, fun b h => ?_, fun b h => ?_, ?_, fun j => ?_⟩, tp⟩
  · rw [frame .carriers (by simp), length]
  · exact (State.carrier_eq_of_carriers (frame .carriers (by simp)) k).trans (carrier k)
  · rw [tb, if_pos h]; rfl
  · rw [tb, if_neg (by simp [h]), berth]
    exact ⟨(ret b).state, (ret b).deckMap, (ret b).cabins, (ret b).findEntry⟩
  · rw [tc, hcod]; rfl
  · rw [tl, State.lane_eq_of_lanes hl, lanes, Lane.afterClosing_inbound]
    rfl

/-! ## Notices and modes after it -/

theorem State.loop_toldOf (s : State) (gone : BerthId → Bool) : (s.toldOf gone).loop = s.loop := by
  unfold State.toldOf
  cases gone .one <;> cases gone .two <;> rfl

/-- Two states whose notices stand alike and will be queued alike. -/
def State.PostsAs (s t : State) : Prop := t.principals = s.principals ∧ t.loop = s.loop

theorem State.loop_post (s : State) (p : Principal) (body : NoticeBody) : (s.post p body).loop = s.loop :=
  s.changesOnly_post p body .loop (by simp)

theorem State.PostsAs.post {s t : State} (h : s.PostsAs t) (p : Principal) (body : NoticeBody) :
    (s.post p body).PostsAs (t.post p body) :=
  ⟨State.principals_post h.1 h.2 p body, (t.loop_post p body).trans (h.2.trans (s.loop_post p body).symm)⟩

theorem State.PostsAs.postHallAnd {s t : State} (h : s.PostsAs t) (b : BerthId) (body : NoticeBody) :
    (s.postHallAnd b body).PostsAs (t.postHallAnd b body) :=
  (h.post _ _).post _ _

theorem State.PostsAs.postAll {s t : State} (h : s.PostsAs t) (body : NoticeBody) : (s.postAll body).PostsAs (t.postAll body) :=
  ((h.post _ _).post _ _).post _ _

theorem State.PostsAs.toldOf {s t : State} (h : s.PostsAs t) (gone : BerthId → Bool) : (s.toldOf gone).PostsAs (t.toldOf gone) := by
  unfold State.toldOf
  cases gone .one <;> cases gone .two
  · exact h
  · exact h.postHallAnd .two (.berthState .two .unbound false)
  · exact h.postHallAnd .one (.berthState .one .unbound false)
  · exact (h.postHallAnd .one (.berthState .one .unbound false)).postHallAnd .two (.berthState .two .unbound false)

/-- R154, R155: what a change of mode leaves. -/
theorem State.withMode_spec (s : State) (new : Mode) (cause : ModeCause) :
    s.changesOnly (s.withMode new cause) [.carriers, .mode, .principals] ∧ (s.withMode new cause).mode = new
      ∧ (s.withMode new cause).carriers = { s.carriers with
        table := if s.mode = .run then s.carriers.table.map fun c => { c with reservation := none } else s.carriers.table }
      ∧ (s.withMode new cause).principals
        = (s.postAll (.modeChanged s.mode new cause s.carriers.loaded s.carriers.unverified)).principals := by
  refine ⟨?_, rfl, rfl, (State.PostsAs.postAll ⟨rfl, rfl⟩ _).1⟩
  intro q hq
  cases q <;> simp [Part.same] at hq ⊢ <;> rfl

theorem State.trackLost_of_frame {s t u : State} (h : s.trackLost t) (hc : u.carriers = t.carriers) (hb : u.berths = t.berths)
    (hl : u.lanes = t.lanes) (hcod : u.coding = t.coding) : s.trackLost u := by
  simpa only [State.trackLost, State.berthsLost, State.carrier, State.berth, State.lane, hc, hb, hl, hcod] using h

/-- Settles O41. -/
theorem drainsCompleteAndHaltsEnd : Obligations.DrainsCompleteAndHaltsEnd := by
  intro s l tag told
  refine ⟨fun hm hc => congrArg Host.Outcome.next (State.testDrain_of hm hc),
    fun h => congrArg Host.Outcome.next (State.testDrain_of_not h), fun hl hm => ?_⟩
  have body : setModeBody 1 .hall (s.setLastServed l) = .ok (s.setLastServed l).exitHalted
      (modeData (s.setLastServed l).exitHalted ++ bytesOf 2 (s.setLastServed l).losers.length) := by
    rw [setModeBody_hall]
    show (s.setLastServed l).requestMode .run = _
    simp only [State.requestMode, show (s.setLastServed l).mode = .halted from hm]
  have lost := (s.setLastServed l).unverifyAll_spec.1
  have emptied := (s.setLastServed l).unverifyAll.changesOnly_setRouter
    { (s.setLastServed l).unverifyAll.router with pendingTags := [] }
  have whole : s.changesOnly (s.setLastServed l).unverifyAll.emptyPendingTags
      [.carriers, .lanes, .berths, .router, .lastServed] :=
    State.changesOnly_comp (State.changesOnly_comp (s.changesOnly_setLastServed l) lost
      (rs := [.carriers, .lanes, .berths, .lastServed]) (by simp) (by simp)) emptied (by simp) (by simp)
  have router : (s.setLastServed l).unverifyAll.emptyPendingTags.router = { s.router with pendingTags := [] } := by
    show { (s.setLastServed l).unverifyAll.router with pendingTags := [] } = _
    rw [lost .router (by simp)]
    rfl
  obtain ⟨frame, track, told'⟩ := State.lostTrack (s := s.setLastServed l)
    (v := (s.setLastServed l).unverifyAll.emptyPendingTags) rfl rfl rfl (whole .coding (by simp)) (by rw [router])
  have last : (s.setLastServed l).unverifyAll.emptyPendingTags.lastServed = l := lost .lastServed (by simp)
  have exits : (s.setLastServed l).exitHalted
      = (s.setLastServed l).unverifyAll.emptyPendingTags.testAllClosing.withMode .run .haltedExit :=
    State.changeMode_withMode _ _ _
  generalize (s.setLastServed l).unverifyAll.emptyPendingTags = v at whole router frame track told' last exits
  have mode : v.testAllClosing.mode = .halted := (frame .mode (by simp)).trans ((whole .mode (by simp)).trans hm)
  obtain ⟨mframe, mmode, mcarriers, mprincipals⟩ := v.testAllClosing.withMode_spec .run .haltedExit
  rw [mode, if_neg (by simp)] at mcarriers
  rw [← exits] at mframe mmode mcarriers mprincipals
  refine ⟨_, State.next_ok hl body ?_, ?_, ?_, mmode, ?_, ?_, ?_⟩
  · rw [modeData, mmode, State.length_losers]
    rfl
  · exact State.changesOnly_comp (State.changesOnly_comp whole frame (rs := [.carriers, .lanes, .berths, .router, .coding,
      .principals, .lastServed]) (by simp) (by simp)) mframe (by simp) (by simp)
  · exact (mframe .lastServed (by simp)).trans ((frame .lastServed (by simp)).trans last)
  · exact (mframe .router (by simp)).trans ((frame .router (by simp)).trans router)
  · exact State.trackLost_of_frame (s := s) track mcarriers (mframe .berths (by simp)) (mframe .lanes (by simp))
      (mframe .coding (by simp))
  · rw [mprincipals, mode, mcarriers]
    have same : s.PostsAs v := ⟨whole .principals (by simp), whole .loop (by simp)⟩
    refine (State.PostsAs.postAll (s := s.toldOf s.leftByLoss) ⟨told'.trans (same.toldOf _).1, ?_⟩ _).1
    exact (frame .loop (by simp)).trans (same.2.trans (s.loop_toldOf _).symm)

/-! ## Slips -/

/-- An action done once for each number of a list, each time to the record of that number alone. -/
theorem forEach_each {ι α : Type} [DecidableEq ι] {get : State → ι → α} {step : State → ι → State} {f : α → α}
    (hsame : ∀ s j, get (step s j) j = f (get s j)) (hne : ∀ s i j, i ≠ j → get (step s j) i = get s i) (js : List ι)
    (hn : js.Nodup) (s : State) (i : ι) :
    get (forEach js step s) i = if i ∈ js then f (get s i) else get s i := by
  induction js generalizing s with
  | nil => exact (if_neg (by simp)).symm
  | cons j js ih =>
    obtain ⟨hj, hn⟩ := List.nodup_cons.1 hn
    refine (ih hn (step s j)).trans ?_
    by_cases hi : i = j
    · subst hi
      rw [if_neg hj, hsame, if_pos List.mem_cons_self]
    · simp [hi, hne s i j hi]

theorem nodup_allLanes : allLanes.Nodup := by decide

theorem State.station_abandonWindows (s : State) (n : StationNo) :
    s.abandonWindows.station n = { s.station n with window := none } :=
  (forEach_each (get := State.station) (f := fun x => { x with window := none })
    (fun s j => s.station_setStation j _) (fun s _ _ h => s.station_setStation_ne _ h) allStations (by decide) s n).trans
    (if_pos (by revert n; decide))

theorem State.diverter_emptyQueues (s : State) (j : LaneNo) :
    s.emptyQueues.diverter j = { s.diverter j with queue := [] } :=
  (forEach_each (get := State.diverter) (f := fun x => { x with queue := [] })
    (fun s j => s.diverter_setDiverter j _) (fun s _ _ h => s.diverter_setDiverter_ne _ h) allLanes nodup_allLanes s j).trans
    (if_pos (mem_allLanes j))

theorem State.changesOnly_emptyQueues (s : State) : s.changesOnly s.emptyQueues [.diverters] :=
  forEach_changesOnly (fun s j => s.changesOnly_setDiverter j _) _ _

theorem State.changesOnly_abandonWindows (s : State) : s.changesOnly s.abandonWindows [.stations] :=
  forEach_changesOnly (fun s n => s.changesOnly_setStation n _) _ _

/-- R14, R15: what a slip loses, before the closings are tested. -/
theorem State.loseTrack_spec (s : State) :
    s.changesOnly s.loseTrack [.carriers, .stations, .berths, .router, .lanes, .diverters, .coding, .principals]
      ∧ (∀ n, s.loseTrack.station n = { s.station n with window := none })
      ∧ (∀ j, s.loseTrack.diverter j = { s.diverter j with queue := [] })
      ∧ s.loseTrack.router = { s.router with pendingTags := [] } ∧ s.trackLost s.loseTrack
      ∧ s.loseTrack.principals = (s.toldOf s.leftByLoss).principals := by
  have f1 := s.unverifyAll_spec.1
  have f2 := s.unverifyAll.changesOnly_emptyQueues
  have f3 : s.unverifyAll.emptyQueues.changesOnly s.unverifyAll.emptyQueues.emptyPendingTags [.router] :=
    State.changesOnly_setRouter _ _
  have f4 := s.unverifyAll.emptyQueues.emptyPendingTags.changesOnly_abandonWindows
  have f24 : s.unverifyAll.changesOnly s.unverifyAll.emptyQueues.emptyPendingTags.abandonWindows
      [.diverters, .router, .stations] :=
    State.changesOnly_comp (State.changesOnly_comp f2 f3 (rs := [.diverters, .router]) (by simp) (by simp)) f4 (by simp)
      (by simp)
  have f14 : s.changesOnly s.unverifyAll.emptyQueues.emptyPendingTags.abandonWindows
      [.carriers, .lanes, .berths, .diverters, .router, .stations] :=
    State.changesOnly_comp f1 f24 (by simp) (by simp)
  have router : s.unverifyAll.emptyQueues.emptyPendingTags.abandonWindows.router = { s.router with pendingTags := [] } := by
    refine (f4 .router (by simp)).trans ?_
    show { s.unverifyAll.emptyQueues.router with pendingTags := [] } = _
    rw [f2 .router (by simp), f1 .router (by simp)]
  obtain ⟨f5, track, told⟩ := State.lostTrack (s := s) (v := s.unverifyAll.emptyQueues.emptyPendingTags.abandonWindows)
    (f24 .carriers (by simp)) (f24 .berths (by simp)) (f24 .lanes (by simp)) (f14 .coding (by simp)) (by rw [router])
  have same : s.PostsAs s.unverifyAll.emptyQueues.emptyPendingTags.abandonWindows :=
    ⟨f14 .principals (by simp), f14 .loop (by simp)⟩
  refine ⟨State.changesOnly_comp f14 f5 (by simp) (by simp), fun n => ?_, fun j => ?_, (f5 .router (by simp)).trans router,
    track, told.trans (same.toldOf _).1⟩
  · rw [show s.loseTrack.station n = _ from State.station_eq_of_stations (f5 .stations (by simp)) n,
      State.station_abandonWindows,
      State.station_eq_of_stations (s := s) (t := s.unverifyAll.emptyQueues.emptyPendingTags)
        ((f3 .stations (by simp)).trans ((f2 .stations (by simp)).trans (f1 .stations (by simp)))) n]
  · rw [show s.loseTrack.diverter j = _ from State.diverter_eq_of_diverters ((f5 .diverters (by simp)).trans
      ((f4 .diverters (by simp)).trans (f3 .diverters (by simp)))) j, State.diverter_emptyQueues,
      State.diverter_eq_of_diverters (f1 .diverters (by simp)) j]

/-- The loop at a slip (R4, R13). -/
def State.slipped (s : State) : State := s.setLoop { s.loop.atHome with slips := raiseTo 255 s.loop.slips 1 }

/-- R13, R17: a slip, and a second one. -/
theorem State.slip_eq (s : State) :
    s.slip = if 0 < s.carriers.unverified ∧ (s.mode = .run ∨ s.mode = .hold ∨ s.mode = .draining) then
        (s.slipped.loseTrack.post .hall s.slipNotice).withMode .halted .secondSlip
      else s.slipped.loseTrack.post .hall s.slipNotice := by
  have mode : (s.slipped.loseTrack.post .hall s.slipNotice).mode = s.mode :=
    ((State.changesOnly_post _ _ _ .mode (by simp)).trans (s.slipped.loseTrack_spec.1 .mode (by simp))).trans rfl
  show (if 0 < s.carriers.unverified then (s.slipped.loseTrack.post .hall s.slipNotice).halt
    else s.slipped.loseTrack.post .hall s.slipNotice) = _
  rw [State.halt, mode, State.changeMode_withMode]
  simp only [Mode.sorts_iff]
  by_cases h : 0 < s.carriers.unverified
  · rw [if_pos h]
    by_cases hm : s.mode = .run ∨ s.mode = .hold ∨ s.mode = .draining
    · rw [if_pos hm, if_pos ⟨h, hm⟩]
    · rw [if_neg hm, if_neg fun hh => hm hh.2]
  · rw [if_neg h, if_neg fun hh => h hh.1]

/-- The carriers after a map that leaves the absent record as it is. -/
theorem State.carrier_of_map {s t : State} {f : Carrier → Carrier} (h : t.carriers.table = s.carriers.table.map f)
    (hf : f Carrier.empty = Carrier.empty) (k : Nat) : t.carrier k = f (s.carrier k) := by
  simp only [State.carrier, h, List.getD_eq_getElem?_getD, List.getElem?_map]
  cases s.carriers.table[k]? with
  | none => exact hf.symm
  | some c => rfl

/-- Settles O48. -/
theorem slipLosesTrack : Obligations.SlipLosesTrack := by
  intro s next t fired losers halts told slipped
  obtain ⟨frame, stations, diverters, router, track, principals⟩ := s.slipped.loseTrack_spec
  have moved : s.changesOnly s.slipped [.loop] := s.changesOnly_setLoop _
  have posted := s.slipped.loseTrack.changesOnly_post .hall s.slipNotice
  have whole : s.changesOnly (s.slipped.loseTrack.post .hall s.slipNotice)
      [.loop, .carriers, .stations, .berths, .router, .lanes, .diverters, .coding, .principals] :=
    State.changesOnly_comp (State.changesOnly_comp moved frame (rs := [.loop, .carriers, .stations, .berths, .router, .lanes,
      .diverters, .coding, .principals]) (by simp) (by simp)) posted (by simp) (by simp)
  have loop : (s.slipped.loseTrack.post .hall s.slipNotice).loop = { s.loop with
      position := 0, revolutions := (s.loop.revolutions + 1) % 65536, slips := min 255 (s.loop.slips + 1) } :=
    (posted .loop (by simp)).trans (frame .loop (by simp))
  have track' : s.trackLost (s.slipped.loseTrack.post .hall s.slipNotice) :=
    State.trackLost_of_frame (s := s) track (posted .carriers (by simp)) (posted .berths (by simp)) (posted .lanes (by simp))
      (posted .coding (by simp))
  have stations' (n) := (State.station_eq_of_stations (posted .stations (by simp)) n).trans (stations n)
  have diverters' (j) := (State.diverter_eq_of_diverters (posted .diverters (by simp)) j).trans (diverters j)
  have router' := (posted .router (by simp)).trans router
  have split : t = if halts then (s.slipped.loseTrack.post .hall s.slipNotice).withMode .halted .secondSlip
      else s.slipped.loseTrack.post .hall s.slipNotice := s.slip_eq
  have tloop : t.loop = { s.loop with
      position := 0, revolutions := (s.loop.revolutions + 1) % 65536, slips := min 255 (s.loop.slips + 1) } := by
    rw [split]
    refine Eq.trans ?_ loop
    split_ifs
    · rfl
    · rfl
  have tell : slipped.PostsAs (s.slipped.loseTrack.post .hall s.slipNotice) := by
    have start : State.PostsAs { s with loop := t.loop } s.slipped := ⟨rfl, tloop.symm⟩
    have after : (s.slipped.toldOf s.leftByLoss).PostsAs s.slipped.loseTrack :=
      ⟨principals, (frame .loop (by simp)).trans (s.slipped.loop_toldOf _).symm⟩
    have chain : State.PostsAs (State.toldOf { s with loop := t.loop } s.leftByLoss) s.slipped.loseTrack :=
      ⟨after.1.trans (start.toldOf _).1, after.2.trans (start.toldOf _).2⟩
    have notice : s.slipNotice = .slip next losers fired (0 < s.carriers.unverified) := by
      rw [State.slipNotice, State.length_losers]; rfl
    rw [notice]
    exact chain.post _ _
  generalize s.slipped.loseTrack.post .hall s.slipNotice = w at *
  refine ⟨fun hn => ?_, tloop, ?_⟩
  · unfold State.track
    cases he : s.loop.expected with
    | zero => exact absurd he hn
    | succ n => rfl
  by_cases hh : halts
  · rw [if_pos hh] at split
    obtain ⟨mframe, mmode, mcarriers, mprincipals⟩ := w.withMode_spec .halted .secondSlip
    rw [← split] at mframe mmode mcarriers mprincipals
    have wmode : w.mode = s.mode := whole .mode (by simp)
    rw [wmode] at mcarriers mprincipals
    have lanes : t.lanes = w.lanes := mframe .lanes (by simp)
    have berths : t.berths = w.berths := mframe .berths (by simp)
    have coding : t.coding = w.coding := mframe .coding (by simp)
    refine ⟨State.changesOnly_comp whole mframe (by simp) (by simp),
      fun n => (State.station_eq_of_stations (mframe .stations (by simp)) n).trans (stations' n),
      fun j => (State.diverter_eq_of_diverters (mframe .diverters (by simp)) j).trans (diverters' j),
      (mframe .router (by simp)).trans router', mmode.trans (if_pos hh).symm, fun hno => ?_, ?_, ?_, fun _ hr k => ?_,
      fun h => absurd hh h, fun _ => ?_⟩
    · rw [if_neg fun hr => hno ⟨hh, hr⟩] at mcarriers
      exact State.trackLost_of_frame track' mcarriers berths lanes coding
    · refine Eq.trans ?_ track'.1
      rw [mcarriers]
      dsimp only
      split_ifs <;> simp
    · simpa only [State.berthsLost, State.berth, State.lane, berths, lanes, coding] using track'.2.2
    · have table : t.carriers.table = w.carriers.table.map fun c => { c with reservation := none } := by
        rw [mcarriers]; exact if_pos hr
      rw [State.carrier_of_map (f := fun c => { c with reservation := none }) table rfl k, track'.2.1 k]
    · rw [mprincipals, mcarriers]
      exact (tell.postAll _).1
  · rw [if_neg hh] at split
    rw [split]
    exact ⟨State.changesOnly_mono whole (by simp), stations', diverters', router',
      (whole .mode (by simp)).trans (if_neg hh).symm, fun _ => track', track'.1, track'.2.2, fun h => absurd h hh,
      fun _ => tell.1, fun h => absurd h hh⟩

end Sys2Proof.Machine

/-! SUPPORT. FORCE SETUP and CLEAR SORT (R160, R161). -/

namespace Sys2Proof.Machine

/-- Entries returned to EXPECTED one after the other (Table 4-4). -/
def State.returnAll (s : State) (ds : List Identity) : State :=
  forEach ds (fun s d => s.setEntryState d.berth d.entry .expected none) s

theorem State.returnAll_spec (s : State) (ds : List Identity) :
    s.changesOnly (s.returnAll ds) [.berths] ∧ s.Returns (s.returnAll ds) fun b i => ds.contains ⟨b, i⟩ := by
  refine ⟨forEach_changesOnly (fun s (d : Identity) => s.changesOnly_setBerth d.berth _) _ _, ?_⟩
  suffices h : ∀ (ds : List Identity) (t : State) (touched : BerthId → Nat → Bool), s.Returns t touched →
      s.Returns (t.returnAll ds) fun b i => touched b i || ds.contains ⟨b, i⟩ by
    exact fun b => (h ds s _ (State.Returns.refl s) b).congr fun i => Bool.false_or _
  intro ds
  induction ds with
  | nil => exact fun t touched h b => (h b).congr fun i => by simp
  | cons d ds ih =>
    intro t touched h b
    refine (ih _ _ (h.step d) b).congr fun i => ?_
    show (touched b i || (⟨b, i⟩ : Identity) == d || ds.contains ⟨b, i⟩) = (touched b i || (d :: ds).contains ⟨b, i⟩)
    rw [List.contains_cons, Bool.or_assoc]

/-! ## FORCE SETUP -/

theorem State.returnEntries_spec (s : State) :
    s.changesOnly s.returnEntries [.berths]
      ∧ s.Returns s.returnEntries fun b i => s.carriers.table.any fun c => c.identity == some ⟨b, i⟩ := by
  obtain ⟨frame, ret⟩ := s.returnAll_spec (s.carriers.table.filterMap (·.identity))
  refine ⟨frame, fun b => (ret b).congr fun i => ?_⟩
  rw [Bool.eq_iff_iff, List.contains_iff_mem, List.mem_filterMap, List.any_eq_true]
  simp only [beq_iff_eq]

/-- R160: what FORCE SETUP makes of the state before the mode is looked at. -/
theorem State.emptyLoop_spec (s : State) :
    s.changesOnly s.emptyLoop [.stations, .diverters, .berths, .carriers, .lanes, .router]
      ∧ (∀ n, s.emptyLoop.station n = { s.station n with window := none })
      ∧ (∀ j, s.emptyLoop.diverter j = { s.diverter j with queue := [] })
      ∧ s.emptyLoop.carriers = CarrierTable.allEmpty s.carriers.table.length
      ∧ (∀ j, s.emptyLoop.lane j = { s.lane j with inbound := 0 })
      ∧ s.emptyLoop.router = { s.router with pendingTags := [] }
      ∧ s.Returns s.emptyLoop fun b i => s.carriers.table.any fun c => c.identity == some ⟨b, i⟩ := by
  have f1 := s.changesOnly_abandonWindows
  have f2 := s.abandonWindows.changesOnly_emptyQueues
  obtain ⟨f3, ret⟩ := s.abandonWindows.emptyQueues.returnEntries_spec
  have f4 := s.abandonWindows.emptyQueues.returnEntries.changesOnly_vacate
  have f5 : s.abandonWindows.emptyQueues.returnEntries.vacate.changesOnly s.emptyLoop [.router] :=
    State.changesOnly_setRouter _ _
  have f12 : s.changesOnly s.abandonWindows.emptyQueues [.stations, .diverters] :=
    State.changesOnly_comp f1 f2 (by simp) (by simp)
  have f13 : s.changesOnly s.abandonWindows.emptyQueues.returnEntries [.stations, .diverters, .berths] :=
    State.changesOnly_comp f12 f3 (by simp) (by simp)
  have f45 : s.abandonWindows.emptyQueues.returnEntries.changesOnly s.emptyLoop [.carriers, .lanes, .router] :=
    State.changesOnly_comp f4 f5 (by simp) (by simp)
  have carriers : s.abandonWindows.emptyQueues.carriers = s.carriers := f12 .carriers (by simp)
  have berths : s.abandonWindows.emptyQueues.berths = s.berths := f12 .berths (by simp)
  refine ⟨State.changesOnly_comp f13 f45 (by simp) (by simp), fun n => ?_, fun j => ?_, ?_, fun j => ?_, ?_, fun b => ?_⟩
  · rw [State.station_eq_of_stations (f45 .stations (by simp)) n, State.station_eq_of_stations (f3 .stations (by simp)) n,
      State.station_eq_of_stations (f2 .stations (by simp)) n, State.station_abandonWindows]
  · rw [State.diverter_eq_of_diverters (f45 .diverters (by simp)) j, State.diverter_eq_of_diverters (f3 .diverters (by simp)) j,
      State.diverter_emptyQueues, State.diverter_eq_of_diverters (f1 .diverters (by simp)) j]
  · rw [State.carriers_emptyLoop, f13 .carriers (by simp)]
  · rw [State.lane_eq_of_lanes (f5 .lanes (by simp)) j, State.lane_vacate, State.lane_eq_of_lanes (f13 .lanes (by simp)) j]
  · show { s.abandonWindows.emptyQueues.returnEntries.vacate.router with pendingTags := [] } = _
    rw [f4 .router (by simp), f13 .router (by simp)]
  · have h := ret b
    rw [State.berth_eq_of_berths (s := s) berths b, carriers] at h
    rwa [State.berth_eq_of_berths (f45 .berths (by simp)) b]

/-- R160: the mode after FORCE SETUP. -/
def State.forcedSetup (s : State) : State :=
  if s.mode = .setup then s.emptyLoop else s.emptyLoop.withMode .setup .forceSetup

theorem State.forcedSetup_spec (s : State) :
    s.emptyLoop.changesOnly s.forcedSetup [.mode, .principals] ∧ s.forcedSetup.mode = .setup
      ∧ s.forcedSetup.principals
        = (if s.mode = .setup then s else s.postAll (.modeChanged s.mode .setup .forceSetup 0 0)).principals := by
  obtain ⟨frame, -, -, hcarriers, -, -, -⟩ := s.emptyLoop_spec
  have mode : s.emptyLoop.mode = s.mode := frame .mode (by simp)
  unfold State.forcedSetup
  by_cases hm : s.mode = .setup
  · rw [if_pos hm, if_pos hm]
    exact ⟨State.changesOnly_refl _ _, mode.trans hm, frame .principals (by simp)⟩
  · rw [if_neg hm, if_neg hm]
    obtain ⟨mframe, mmode, mcarriers, mprincipals⟩ := s.emptyLoop.withMode_spec .setup .forceSetup
    have carriers : (s.emptyLoop.withMode .setup .forceSetup).carriers = s.emptyLoop.carriers := by
      rw [mcarriers, hcarriers]
      split_ifs
      · simp [CarrierTable.allEmpty, Carrier.empty]
      · rfl
    have same : s.PostsAs s.emptyLoop := ⟨frame .principals (by simp), frame .loop (by simp)⟩
    refine ⟨fun q hq => ?_, mmode, mprincipals.trans ?_⟩
    · by_cases hc : q = .carriers
      · subst hc; exact carriers
      · exact mframe q fun hm => (List.mem_cons.1 hm).elim hc hq
    · rw [mode, hcarriers]
      exact (same.postAll _).1

theorem forceSetupBody_hall (s : State) :
    forceSetupBody .hall s = .ok s.forcedSetup.testAllClosing
      (bytesOf 2 s.carriers.loaded ++ bytesOf 2 (s.carriers.table.filterMap (·.identity)).length
        ++ bytesOf 2 (s.carriers.table.countP fun c => c.state == .fired)) := by
  refine (if_neg (not_not.2 rfl)).trans ?_
  simp only [State.changeMode_withMode, beq_iff_eq]
  rfl

/-- Settles O42. -/
theorem forceSetupEmptiesTheLoop : Obligations.ForceSetupEmptiesTheLoop := by
  intro s l tag hl closing closed told changed
  obtain ⟨f1, stations, diverters, carriers, lanes, router, ret⟩ := (s.setLastServed l).emptyLoop_spec
  obtain ⟨f2, mode, principals⟩ := (s.setLastServed l).forcedSetup_spec
  have body := forceSetupBody_hall (s.setLastServed l)
  have noBag (b) : (s.setLastServed l).forcedSetup.holdsBags b = false := by
    rw [State.holdsBags, f2 .carriers (by simp), f2 .router (by simp), carriers, router]
    simp [CarrierTable.allEmpty, Carrier.isOf_eq, Carrier.empty]
  have gone (b) : (((s.setLastServed l).forcedSetup.berth b).state.isClosing
      && !(s.setLastServed l).forcedSetup.holdsBags b) = closing b := by
    rw [noBag, State.berth_eq_of_berths (f2 .berths (by simp)) b, (ret b).state]
    simp [closing]
  obtain ⟨f3, tb, tc, tl, tp⟩ := State.testAllClosing_spec _ gone
  have f12 : (s.setLastServed l).changesOnly (s.setLastServed l).forcedSetup
      [.stations, .diverters, .berths, .carriers, .lanes, .router, .mode, .principals] :=
    State.changesOnly_comp f1 f2 (by simp) (by simp)
  refine ⟨_, State.next_ok hl body (by rw [List.length_filterMap_eq_countP]; rfl),
    State.changesOnly_comp (State.changesOnly_comp (s.changesOnly_setLastServed l) f12 (rs := [.stations, .diverters, .berths,
      .carriers, .lanes, .router, .mode, .principals, .lastServed]) (by simp) (by simp)) f3 (by simp) (by simp),
    (f3 .lastServed (by simp)).trans (f12 .lastServed (by simp)), (f3 .mode (by simp)).trans mode,
    (f3 .carriers (by simp)).trans ((f2 .carriers (by simp)).trans carriers),
    (f3 .router (by simp)).trans ((f2 .router (by simp)).trans router), fun n => ?_, fun j => ?_, fun j => ?_, ?_, ?_,
    fun b hb => ?_, fun b hb => ?_⟩
  · rw [State.station_eq_of_stations (f3 .stations (by simp)), State.station_eq_of_stations (f2 .stations (by simp)), stations]
    rfl
  · rw [State.diverter_eq_of_diverters (f3 .diverters (by simp)), State.diverter_eq_of_diverters (f2 .diverters (by simp)),
      diverters]
    rfl
  · rw [tl, State.lane_eq_of_lanes (f2 .lanes (by simp)), lanes, Lane.afterClosing_inbound]
    rfl
  · rw [tc, f12 .coding (by simp)]
    rfl
  · have same : changed.PostsAs (s.setLastServed l).forcedSetup := by
      have loop : (s.setLastServed l).forcedSetup.loop = s.loop := f12 .loop (by simp)
      by_cases hm : s.mode = .setup
      · rw [if_pos (show (s.setLastServed l).mode = .setup from hm)] at principals
        rw [show changed = s from if_pos hm]
        exact ⟨principals, loop⟩
      · rw [if_neg (show ¬(s.setLastServed l).mode = .setup from hm)] at principals
        rw [show changed = s.postAll (.modeChanged s.mode .setup .forceSetup 0 0) from if_neg hm]
        have posts : (s.postAll (.modeChanged s.mode .setup .forceSetup 0 0)).PostsAs
          ((s.setLastServed l).postAll (.modeChanged s.mode .setup .forceSetup 0 0)) := State.PostsAs.postAll ⟨rfl, rfl⟩ _
        exact ⟨principals.trans posts.1, loop⟩
    exact tp.trans (same.toldOf closing).1
  · rw [tb, if_pos hb]; rfl
  · rw [tb, if_neg (by simp [hb]), State.berth_eq_of_berths (f2 .berths (by simp))]
    exact ⟨(ret b).state, (ret b).deckMap, (ret b).cabins, (ret b).findEntry⟩

/-! ## CLEAR SORT -/

/-- R161 for one lane: its fill and its fault score 0, FULL and FAULTED become CLOSED. -/
def State.clearLane (s : State) (j : LaneNo) : State :=
  (s.setLane j (s.lane j).cleared).setDiverter j { s.diverter j with score := 0 }

theorem State.changesOnly_clearLane (s : State) (j : LaneNo) : s.changesOnly (s.clearLane j) [.lanes, .diverters] :=
  State.changesOnly_comp (qs := [.diverters]) (s.changesOnly_storeLane j _) (State.changesOnly_setDiverter _ j _) (by simp)
    (by simp)

theorem State.lane_clearLane (s : State) (j : LaneNo) : (s.clearLane j).lane j = (s.lane j).cleared :=
  s.lane_setLane j _

theorem State.lane_clearLane_ne (s : State) {i j : LaneNo} (h : i ≠ j) : (s.clearLane j).lane i = s.lane i :=
  s.lane_setLane_ne _ h

theorem State.diverter_clearLane (s : State) (j : LaneNo) : (s.clearLane j).diverter j = { s.diverter j with score := 0 } :=
  State.diverter_setDiverter _ j _

theorem State.diverter_clearLane_ne (s : State) {i j : LaneNo} (h : i ≠ j) : (s.clearLane j).diverter i = s.diverter i :=
  State.diverter_setDiverter_ne (s.setLane j (s.lane j).cleared) _ h

/-- R161 for the lanes. -/
def State.clearLanes (s : State) : State := forEach allLanes (fun s j => s.clearLane j) s

theorem State.clearLanes_spec (s : State) :
    s.changesOnly s.clearLanes [.lanes, .diverters] ∧ (∀ j, s.clearLanes.lane j = (s.lane j).cleared)
      ∧ ∀ j, s.clearLanes.diverter j = { s.diverter j with score := 0 } := by
  refine ⟨forEach_changesOnly (fun s j => s.changesOnly_clearLane j) _ _, fun j => ?_, fun j => ?_⟩
  · exact (forEach_each (get := State.lane) (f := Lane.cleared) State.lane_clearLane
      (fun s _ _ h => s.lane_clearLane_ne h) allLanes nodup_allLanes s j).trans (if_pos (mem_allLanes j))
  · exact (forEach_each (get := State.diverter) (f := fun x => { x with score := 0 }) State.diverter_clearLane
      (fun s _ _ h => s.diverter_clearLane_ne h) allLanes nodup_allLanes s j).trans (if_pos (mem_allLanes j))

/-- What a list record names, when it names a berth and an entry (R161). -/
def namesEntry (n : Option BerthId × Option Nat) : Option Identity := n.1.bind fun b => n.2.map fun e => ⟨b, e⟩

theorem Coding.namedEntries_eq (c : Coding) :
    c.namedEntries = ((c.strays.map fun r => (r.berth, r.entry)) ++ c.reinject.map fun r => (r.berth, r.entry)).filterMap
      namesEntry := by
  rw [List.filterMap_append, List.filterMap_map, List.filterMap_map]
  rfl

theorem namesEntry_iff (n : Option BerthId × Option Nat) (b : BerthId) (i : Nat) :
    namesEntry n = some ⟨b, i⟩ ↔ n = (some b, some i) := by
  rcases n with ⟨_ | a, _ | e⟩ <;> simp [namesEntry]

theorem Coding.namedEntries_contains (c : Coding) (b : BerthId) (i : Nat) :
    c.namedEntries.contains ⟨b, i⟩
      = ((c.strays.map fun r => (r.berth, r.entry)) ++ c.reinject.map fun r => (r.berth, r.entry)).contains
        (some b, some i) := by
  rw [c.namedEntries_eq, Bool.eq_iff_iff, List.contains_iff_mem, List.contains_iff_mem, List.mem_filterMap]
  simp only [namesEntry_iff, exists_eq_right]

theorem Coding.countP_namedEntries (c : Coding) (b : BerthId) :
    c.namedEntries.countP (·.berth == b)
      = ((c.strays.map fun r => (r.berth, r.entry)) ++ c.reinject.map fun r => (r.berth, r.entry)).countP
        fun n => n.1 == some b && n.2.isSome := by
  rw [c.namedEntries_eq, List.countP_filterMap]
  refine List.countP_congr fun n _ => ?_
  rcases n with ⟨_ | a, _ | e⟩ <;> simp [namesEntry]

theorem Lane.cleared_eq (x : Lane) :
    x.cleared = { x with fill := 0, state := if x.state = .full ∨ x.state = .faulted then .closed else x.state } := by
  unfold Lane.cleared
  cases x.state <;> rfl

theorem Lane.cleared_state_ne (x : Lane) : (x.cleared.state != x.state) = (x.state == .full || x.state == .faulted) := by
  unfold Lane.cleared
  cases x.state <;> rfl

/-- R161 before its notices: lanes, named entries and lists. -/
def State.sortEmptied (s : State) : State :=
  (s.clearLanes.returnAll s.coding.namedEntries).setCoding
    { Coding.reset with exchange := (s.clearLanes.returnAll s.coding.namedEntries).coding.exchange }

theorem State.sortEmptied_spec (s : State) :
    s.changesOnly s.sortEmptied [.lanes, .diverters, .berths, .coding]
      ∧ (∀ j, s.sortEmptied.lane j = (s.lane j).cleared)
      ∧ (∀ j, s.sortEmptied.diverter j = { s.diverter j with score := 0 })
      ∧ s.sortEmptied.coding = ⟨[], [], 1, 0, s.coding.exchange⟩
      ∧ s.Returns s.sortEmptied fun b i => s.coding.namedEntries.contains ⟨b, i⟩ := by
  obtain ⟨f1, lanes, diverters⟩ := s.clearLanes_spec
  obtain ⟨f2, ret⟩ := s.clearLanes.returnAll_spec s.coding.namedEntries
  have f3 : (s.clearLanes.returnAll s.coding.namedEntries).changesOnly s.sortEmptied [.coding] :=
    State.changesOnly_setCoding _ _
  have f23 : s.clearLanes.changesOnly s.sortEmptied [.berths, .coding] := State.changesOnly_comp f2 f3 (by simp) (by simp)
  have exchange : (s.clearLanes.returnAll s.coding.namedEntries).coding.exchange = s.coding.exchange := by
    rw [f2 .coding (by simp), f1 .coding (by simp)]
  refine ⟨State.changesOnly_comp f1 f23 (by simp) (by simp), fun j => ?_, fun j => ?_, ?_, fun b => ?_⟩
  · rw [State.lane_eq_of_lanes (f23 .lanes (by simp)), lanes]
  · rw [State.diverter_eq_of_diverters (f23 .diverters (by simp)), diverters]
  · rw [State.sortEmptied, State.setCoding_coding, exchange]
    rfl
  · have h := ret b
    rwa [State.berth_eq_of_berths (f1 .berths (by simp)), ← State.berth_eq_of_berths (f3 .berths (by simp))] at h

/-- The notices of CLEAR SORT (R161). -/
def State.postSortCleared (s : State) (lanes strays reinject one two : Nat) : State :=
  ((s.post .hall (.sortClearedHall lanes strays reinject one two)).post (.berth .one) (.sortClearedBerth one)).post
    (.berth .two) (.sortClearedBerth two)

theorem State.changesOnly_postSortCleared (s : State) (lanes strays reinject one two : Nat) :
    s.changesOnly (s.postSortCleared lanes strays reinject one two) [.principals] :=
  State.changesOnly_trans (State.changesOnly_trans (s.changesOnly_post _ _) (State.changesOnly_post _ _ _))
    (State.changesOnly_post _ _ _)

/-- Settles O43. -/
theorem sortIsCleared : Obligations.SortIsCleared := by
  intro s l tag hl named count changed
  refine ⟨fun hm => State.next_refused hl ((if_neg (not_not.2 rfl)).trans (if_pos hm)), fun hm => ?_⟩
  have hcount (b) : s.coding.namedEntries.countP (·.berth == b) = count b := s.coding.countP_namedEntries b
  have hchanged : (allLanes.countP fun j => (s.lane j).cleared.state != (s.lane j).state) = changed :=
    List.countP_congr fun j _ => by rw [Lane.cleared_state_ne]
  obtain ⟨frame, lanes, diverters, coding, ret⟩ := (s.setLastServed l).sortEmptied_spec
  have body : clearSortBody .hall (s.setLastServed l) = .ok
      ((s.setLastServed l).sortEmptied.postSortCleared changed s.coding.strays.length s.coding.reinject.length (count .one)
        (count .two))
      (NoticeBody.bytes (.sortClearedHall changed s.coding.strays.length s.coding.reinject.length (count .one) (count .two))) := by
    refine (if_neg (not_not.2 rfl)).trans ((if_neg (not_not.2 hm)).trans ?_)
    rw [← hcount, ← hcount, ← hchanged]
    rfl
  generalize (s.setLastServed l).sortEmptied = u at frame lanes diverters coding ret body
  have posted := u.changesOnly_postSortCleared changed s.coding.strays.length s.coding.reinject.length (count .one) (count .two)
  refine ⟨_, State.next_ok hl body rfl, State.changesOnly_comp (State.changesOnly_comp (s.changesOnly_setLastServed l) frame
    (rs := [.lanes, .diverters, .berths, .coding, .lastServed]) (by simp) (by simp)) posted (by simp) (by simp),
    (posted .lastServed (by simp)).trans (frame .lastServed (by simp)), (posted .coding (by simp)).trans coding,
    fun j => ?_, fun j => ?_, ?_, fun b => ?_⟩
  · rw [State.lane_eq_of_lanes (posted .lanes (by simp)), lanes, Lane.cleared_eq]
    rfl
  · rw [State.diverter_eq_of_diverters (posted .diverters (by simp)), diverters]
    rfl
  · have same : s.PostsAs u := ⟨frame .principals (by simp), frame .loop (by simp)⟩
    exact (((same.post _ _).post _ _).post _ _).1
  · rw [State.berth_eq_of_berths (posted .berths (by simp))]
    have h := (ret b).congr fun i => s.coding.namedEntries_contains b i
    exact ⟨h.state, h.deckMap, h.cabins, h.findEntry⟩

end Sys2Proof.Machine

/-! SUPPORT. Bags at the induction points (R23, R24). -/

namespace Sys2Proof.Machine

theorem Point.takesPart_iff (x : Point) : x.takesPart = true ↔ x.enabled = true ∧ x.offset ≠ none := by
  rw [Point.takesPart, Bool.and_eq_true, Option.isSome_iff_ne_none, and_comm]


/-! ## Presentation, check by check -/

theorem State.present_closed {s : State} {i : PointNo} (h : (s.point i).takesPart = false) (size : SizeClass) (ticket : Nat) :
    s.present i size ticket = s.handOver (.reject i .closed) :=
  if_pos (by rw [h]; rfl)

theorem State.present_oog {s : State} {i : PointNo} (h : (s.point i).takesPart = true) (ticket : Nat) :
    s.present i .OOG ticket = s.handOver (.reject i .oog) :=
  if_neg (by rw [h]; decide)

theorem State.present_sized {s : State} {i : PointNo} {size : SizeClass} {z : Size} (h : (s.point i).takesPart = true)
    (hz : bagSizeOf size = some z) (ticket : Nat) :
    s.present i size ticket = if (s.point i).waiting.isSome then s.handOver (.reject i .busy)
      else s.setPoint i ((s.point i).presented z ticket) := by
  rw [State.present, h, hz]
  rfl

theorem Point.presented_eq (x : Point) (z : Size) (ticket : Nat) :
    x.presented z ticket = { x with
      waiting := some ⟨z, if x.mark = true ∧ 1 ≤ ticket ∧ ticket ≤ 4095 then some ticket else none, 0⟩ } := by
  unfold Point.presented ticketOf Config.lastTicket
  cases x.mark <;> simp

/-- Settles O52. -/
theorem bagsArePresentedAndWithdrawn : Obligations.BagsArePresentedAndWithdrawn := by
  intro s n i size z ticket x present open_ named rejected wait
  have hpresent : present = .next (s.present i size ticket) := by
    show execBagPresented i.val size ticket s = _
    rw [execBagPresented, pointOf_val]
  have hwithdraw : exec (.bagWithdrawn i.val) s = .next (s.withdrawBag i) := by
    show execBagWithdrawn i.val s = _
    rw [execBagWithdrawn, pointOf_val]
  have takes : open_ → x.takesPart = true := (Point.takesPart_iff x).2
  refine ⟨fun h => ?_, fun h => ?_, ?_, fun h hz hw => ?_, fun h hz hw => ?_, fun h => ?_, fun h => ?_⟩
  · exact ⟨by show execBagPresented n size ticket s = _; rw [execBagPresented, pointOf_none h],
      by show execBagWithdrawn n s = _; rw [execBagWithdrawn, pointOf_none h]⟩
  · exact hpresent.trans (congrArg _
      (State.present_closed (Bool.eq_false_iff.2 fun hx => h ((Point.takesPart_iff x).1 hx)) size ticket))
  · rintro h rfl
    exact hpresent.trans (congrArg _ (State.present_oog (takes h) ticket))
  · exact hpresent.trans (congrArg _ ((State.present_sized (takes h) hz ticket).trans
      (if_pos (Option.isSome_iff_ne_none.2 hw))))
  · exact hpresent.trans (congrArg _ (((State.present_sized (takes h) hz ticket).trans
      (if_neg (by rw [Option.isSome_iff_ne_none]; exact not_not.2 hw))).trans (by rw [Point.presented_eq])))
  · exact hwithdraw.trans (congrArg _ (if_neg (by rw [Option.isSome_iff_ne_none]; exact not_not.2 h)))
  · exact hwithdraw.trans (congrArg _ (if_pos (Option.isSome_iff_ne_none.2 h)))

end Sys2Proof.Machine

/-! SUPPORT. What a link's frames, breaks and sent frames do (R165 to R167, R169 to R171, R176). -/

namespace Sys2Proof.Machine

/-! ## Frames -/

theorem State.setLink_setLink (s : State) (l : LinkNo) (x y : Link) : (s.setLink l x).setLink l y = s.setLink l y := by
  unfold State.setLink
  rw [State.setLinks_links, Vector.set_set]
  rfl

theorem State.badFrame_of_lt {s : State} {l : LinkNo} (h : min 255 ((s.link l).errorCount + 8) < 128) :
    s.badFrame l = s.setLink l { s.link l with errorCount := min 255 ((s.link l).errorCount + 8) } :=
  if_neg (Nat.not_le.2 h)

theorem State.badFrame_of_le {s : State} {l : LinkNo} (h : 128 ≤ min 255 ((s.link l).errorCount + 8)) :
    s.badFrame l = (s.setLink l ⟨.muted, min 255 ((s.link l).errorCount + 8), 0, [], (s.link l).allowed, [], []⟩).post .hall
      (.linkState l .muted (min 255 ((s.link l).errorCount + 8)) (s.link l).state.principal none .muted) := by
  refine (if_pos h).trans ?_
  simp only [State.mute, State.postLinkState, State.link_setLink, State.setLink_setLink]
  rfl

theorem State.takeFrame_bad {s : State} {l : LinkNo} (h : (s.link l).state ≠ .muted) :
    s.takeFrame l .bad = s.badFrame l := by
  unfold State.takeFrame
  split <;> simp_all

theorem State.takeFrame_bad_muted {s : State} {l : LinkNo} (h : (s.link l).state = .muted) :
    s.takeFrame l .bad = s.setLink l
      { s.link l with errorCount := min 255 ((s.link l).errorCount + 8), checkCount := 0 } := by
  unfold State.takeFrame
  split <;> simp_all [raiseTo]

theorem State.takeFrame_good {s : State} {l : LinkNo} (h : (s.link l).state ≠ .muted) (f : CommandFrame) :
    s.takeFrame l (.good f) = s.goodFrame l f := by
  unfold State.takeFrame
  split <;> simp_all

theorem State.takeFrame_good_muted {s : State} {l : LinkNo} (h : (s.link l).state = .muted) (f : CommandFrame) :
    s.takeFrame l (.good f) = if f.kind = 0x2E then s.mutedCheck l f.tag else s := by
  unfold State.takeFrame
  split <;> simp_all [linkCheckKind] <;> rfl

theorem exec_linkCheck_muted {s : State} {l : LinkNo} (h : (s.link l).state = .muted) (tag : Byte) :
    exec (.linkCheck l tag) s = .next (s.mutedCheck l tag) := by
  show execLinkCheck l tag s = _
  rw [execLinkCheck, h]

theorem exec_linkCheck {s : State} {l : LinkNo} (h : (s.link l).state ≠ .muted) (tag : Byte) :
    exec (.linkCheck l tag) s = .next (s.linkCheckReply l tag) := by
  show execLinkCheck l tag s = _
  rw [execLinkCheck]
  cases hx : (s.link l).state with
  | muted => exact absurd hx h
  | idle => rfl
  | attached p => rfl

/-- Settles O45. -/
theorem framesAreTaken : Obligations.FramesAreTaken := by
  intro s l characters f x frame raised counted lowered
  have taken {j : FrameJudgement} (h : judgeFrame characters = j) : frame = .next (s.takeFrame l j) := by
    rw [← h]
    rfl
  refine ⟨fun h => taken h, fun h hm => ?_, fun h hm hr => ?_, fun h hm hr => ?_, fun h hm => ?_, fun h hm => ?_⟩
  · exact (taken h).trans (congrArg _ (State.takeFrame_bad_muted hm))
  · exact (taken h).trans (congrArg _ ((State.takeFrame_bad hm).trans (State.badFrame_of_lt hr)))
  · exact (taken h).trans (congrArg _ ((State.takeFrame_bad hm).trans (State.badFrame_of_le hr)))
  · refine ⟨fun hk => ?_, fun hk => ?_⟩
    · exact (taken h).trans ((congrArg _ ((State.takeFrame_good_muted hm f).trans (if_pos hk))).trans
        (exec_linkCheck_muted hm f.tag).symm)
    · exact (taken h).trans (congrArg _ ((State.takeFrame_good_muted hm f).trans (if_neg hk)))
  · refine ⟨fun hq => ?_, fun hq => ?_⟩
    · exact (taken h).trans (congrArg _ ((State.takeFrame_good hm f).trans (if_pos hq)))
    · exact (taken h).trans (congrArg _ ((State.takeFrame_good hm f).trans (if_neg (Nat.not_lt.2 hq))))

/-! ## Breaks and sent frames -/

theorem Link.midReply_iff (x : Link) : x.midReply = true ↔ ∃ f ∈ x.replies.head?, f.later = true := by
  unfold Link.midReply
  cases x.replies <;> simp

/-- Settles O46. -/
theorem linesBreakAndSend : Obligations.LinesBreakAndSend := by
  intro s l p x onWire broken midReply
  have mid : x.midReply = true ↔ midReply := x.midReply_iff
  refine ⟨fun h => ?_, fun h => ?_, fun h => ?_, fun h hn => ?_, fun n rest h hn hm => ?_, fun h => ?_, fun f rest h => ?_,
    fun h => ?_, fun f rest h hm => ?_⟩
  all_goals refine congrArg Host.Outcome.next ?_
  · have hx : (s.link l).state = .attached p := h
    have hb : (s.link l).broken = ⟨.idle, x.errorCount, 0, [], x.allowed, x.replies.filter fun f => f.kind == 0x88, []⟩ := by
      rw [Link.broken, hx]
      rfl
    simp only [State.breakLine, hx, hb, State.postLinkState, State.link_setLink]
    rfl
  · rcases h with h | h <;>
    · have hx : (s.link l).state = _ := h
      simp only [State.breakLine, Link.broken, hx]
      exact congrArg broken hx.symm
  · rcases h with h | h <;>
    · have hx : (s.link l).state = _ := h
      simp only [State.sendNotice, hx]
  · have hx : (s.link l).state = .attached p := h
    simp only [State.sendNotice, hx]
    split
    · rfl
    · next hq =>
      rcases hn with hn | hn
      · exact absurd (hn.symm.trans hq) (List.cons_ne_nil _ _).symm
      · exact if_pos (mid.2 hn)
  · have hx : (s.link l).state = .attached p := h
    simp only [State.sendNotice, hx, hn]
    exact if_neg (mt mid.1 hm)
  · have hx : (s.link l).replies = [] := h
    simp only [State.sendReply, hx]
  · have hx : (s.link l).replies = f :: rest := h
    simp only [State.sendReply, hx]
    rfl
  · unfold State.sendReply
    dsimp only
    split
    · rfl
    · next hb =>
      rcases h with h | h
      · exact absurd (h.symm.trans hb) (List.cons_ne_nil _ _).symm
      · exact if_pos (mid.2 h)
  · have hx : (s.link l).busyReplies = f :: rest := h
    simp only [State.sendReply, hx]
    exact if_neg (mt mid.1 hm)

end Sys2Proof.Machine

/-! SUPPORT. Attachment, link checks and the commands on links (R167, R168, R171 to R174, R177). -/

namespace Sys2Proof.Machine

/-! ## Attachment -/

theorem exec_attach_refused {s : State} {l : LinkNo} {n : Nat} {r : RefusalCode} (hm : (s.link l).state ≠ .muted)
    (h : (s.setLastServed l).attach l n = .refused r) (tag : Byte) :
    exec (.attach l tag n) s = .next ((s.setLastServed l).replyRefused l tag 0x2C r) := by
  show execAttach l tag n s = _
  rw [execAttach, h]
  split
  · next hx => exact absurd hx hm
  · rfl

theorem exec_attach_ok {s t : State} {l : LinkNo} {n : Nat} {data data' : List Byte} (hm : (s.link l).state ≠ .muted)
    (h : (s.setLastServed l).attach l n = .ok t data) (hdata : data = data') (tag : Byte) :
    exec (.attach l tag n) s = .next (t.replyOk l tag 0x2C data') := by
  show execAttach l tag n s = _
  rw [execAttach, h, hdata]
  split
  · next hx => exact absurd hx hm
  · rfl

theorem principalOf_none {n : Nat} (h : 3 ≤ n) : principalOf n = none := by
  match n with
  | 0 | 1 | 2 => omega
  | _ + 3 => rfl

theorem State.attach_badValue (s : State) (l : LinkNo) {n : Nat} (h : 3 ≤ n) : s.attach l n = .refused .badValue := by
  rw [State.attach, principalOf_none h]

theorem State.attach_notPermitted {s : State} {l : LinkNo} {p : Principal} (h : (s.link l).allowed.allows p = false) :
    s.attach l p.code = .refused .notPermitted := by
  rw [State.attach, principalOf_code]
  exact if_pos (by rw [h]; rfl)

theorem State.attach_attached {s : State} {l : LinkNo} {p q : Principal} (h : (s.link l).allowed.allows p = true)
    (hx : (s.link l).state = .attached q) :
    s.attach l p.code = if q = p then .ok s (s.attachData l p) else .refused .inUse := by
  simp only [State.attach, principalOf_code, h, hx]
  rfl

theorem State.attach_idle {s : State} {l : LinkNo} {p : Principal} (h : (s.link l).allowed.allows p = true)
    (hx : (s.link l).state = .idle) :
    s.attach l p.code = .ok (s.attachLink l p) ((s.attachLink l p).attachData l p) := by
  simp only [State.attach, principalOf_code, h, hx]
  rfl

theorem State.linkOfPrincipal_eq_none_iff (s : State) (p : Principal) :
    s.linkOfPrincipal p = none ↔ ∀ o, (s.link o).state ≠ .attached p := by
  simp [State.linkOfPrincipal, List.find?_eq_none, allLinks]

theorem State.linkOfPrincipal_of {s : State} {p : Principal} {m : LinkNo}
    (h : ∀ o, (s.link o).state = .attached p ↔ o = m) : s.linkOfPrincipal p = some m := by
  cases hp : s.linkOfPrincipal p with
  | none => exact absurd ((h m).2 rfl) ((s.linkOfPrincipal_eq_none_iff p).1 hp m)
  | some o => exact congrArg some ((h o).1 (by simpa using List.find?_some hp))

theorem State.attachLink_free {s : State} {l : LinkNo} {p : Principal} (h : s.linkOfPrincipal p = none) :
    s.attachLink l p = (s.setLink l { s.link l with state := .attached p }).post .hall
      (.linkState l (.attached p) (s.link l).errorCount (some p) none .attached) := by
  simp only [State.attachLink, h, State.postLinkState, State.link_setLink]
  rfl

theorem State.attachLink_taken {s : State} {l m : LinkNo} {p : Principal} (h : s.linkOfPrincipal p = some m)
    (hm : l ≠ m) :
    s.attachLink l p = ((s.displace m p l).setLink l { s.link l with state := .attached p }).post .hall
      (.linkState l (.attached p) (s.link l).errorCount (some p) (some m) .displaced) := by
  simp only [State.attachLink, h, State.postLinkState, State.link_setLink, State.link_displace_ne s p l hm]
  rfl

/-! ## Link checks and commands on links -/

theorem State.mutedCheck_of_lt {s : State} {l : LinkNo} (h : (s.link l).checkCount < 15) (tag : Byte) :
    s.mutedCheck l tag = (s.setLink l { s.link l with checkCount := (s.link l).checkCount + 1 }).replyOk l tag 0x2E
        (bytesOf 1 2 ++ bytesOf 1 ((s.link l).checkCount + 1)) :=
  if_pos (Nat.succ_lt_succ h)

theorem State.link_replyOk (s : State) (l : LinkNo) (tag : Byte) (code : Nat) (data : List Byte) :
    (s.replyOk l tag code data).link l = { s.link l with replies := (s.link l).replies ++ okFrames tag code data } :=
  State.link_setLink s l _

theorem State.mutedCheck_of_le {s : State} {l : LinkNo} (h : 15 ≤ (s.link l).checkCount) (tag : Byte) :
    s.mutedCheck l tag = ((s.setLink l { s.link l with state := .idle, errorCount := 0, checkCount := 0 }).replyOk l tag 0x2E
        (bytesOf 1 0 ++ bytesOf 1 0)).post .hall (.linkState l .idle 0 none none .checked) := by
  refine (if_neg (Nat.not_lt.2 (Nat.succ_le_succ h))).trans ?_
  rw [State.postLinkState, State.link_replyOk, State.link_setLink]
  rfl

theorem restoreLinkBody_val (m : LinkNo) (s : State) :
    restoreLinkBody m.val .hall s = .ok (s.restoreLink m)
      (bytesOf 1 ((s.restoreLink m).link m).state.code ++ bytesOf 1 ((s.restoreLink m).link m).errorCount) := by
  rw [restoreLinkBody, linkOf_val]
  rfl

theorem State.restoreLink_muted {s : State} {m : LinkNo} (h : (s.link m).state = .muted) :
    s.restoreLink m = (s.setLink m { s.link m with state := .idle, errorCount := 0, checkCount := 0 }).post .hall
      (.linkState m .idle 0 none none .restored) := by
  simp only [State.restoreLink, h, State.postLinkState, State.link_setLink]

theorem State.restoreLink_of_ne {s : State} {m : LinkNo} (h : (s.link m).state ≠ .muted) :
    s.restoreLink m = s.setLink m { s.link m with errorCount := 0 } := by
  unfold State.restoreLink
  split
  · next hx => exact absurd hx h
  · rfl
  · rfl

/-! ## Permissions and notice classes -/

theorem Allowed.allows_store (a : Allowed) (q : Principal) (flag : Bool) : (a.store q flag).allows q = flag := by
  rcases q with _ | b
  · rfl
  · cases b <;> rfl

theorem Allowed.allows_store_ne (a : Allowed) {o q : Principal} (flag : Bool) (h : o ≠ q) :
    (a.store q flag).allows o = a.allows o := by
  rcases q with _ | b
  · rcases o with _ | _ | _
    · exact absurd rfl h
    all_goals rfl
  · cases b <;> rcases o with _ | _ | _ <;> simp_all [Allowed.store, Allowed.allows]

theorem State.hallOnlyOn_iff (s : State) (m : LinkNo) :
    s.hallOnlyOn m = true ↔ ∀ o, o ≠ m → (s.link o).allowed.hall = false := by
  simp [State.hallOnlyOn, allLinks, or_iff_not_imp_left]

theorem setLinkPermissionBody_badValue {n k : Nat} (h : 4 ≤ n ∨ 3 ≤ k) (flag : Bool) (s : State) :
    setLinkPermissionBody n k flag .hall s = .refused .badValue := by
  refine (if_neg (not_not.2 rfl)).trans ?_
  split
  · next hl hp =>
    rcases h with h | h
    · exact nomatch (linkOf_none h).symm.trans hl
    · exact nomatch (principalOf_none h).symm.trans hp
  · rfl

theorem setLinkPermissionBody_val (m : LinkNo) (q : Principal) (flag : Bool) (s : State) :
    setLinkPermissionBody m.val q.code flag .hall s = if !flag && q == .hall && s.hallOnlyOn m then .refused .badConfig
      else .ok (s.permit m q flag) ((s.permit m q flag).link m).allowed.bytes := by
  simp only [setLinkPermissionBody, linkOf_val, principalOf_code]
  rfl

theorem State.permit_eq (s : State) (m : LinkNo) (q : Principal) (flag : Bool) :
    s.permit m q flag = if flag = false ∧ (s.link m).state = .attached q then
        (s.setLink m { s.link m with allowed := (s.link m).allowed.store q flag, state := .idle }).post .hall
          (.linkState m .idle (s.link m).errorCount (some q) none .notPermitted)
      else s.setLink m { s.link m with allowed := (s.link m).allowed.store q flag } := by
  simp only [State.permit, State.detachLink, State.postLinkState, State.link_setLink, State.setLink_setLink,
    Bool.and_eq_true, Bool.not_eq_true', beq_iff_eq]

theorem State.allowed_permit (s : State) (m : LinkNo) (q : Principal) (flag : Bool) :
    ((s.permit m q flag).link m).allowed = (s.link m).allowed.store q flag := by
  rw [State.permit_eq]
  split
  · rw [State.link_post, State.link_setLink]
  · rw [State.link_setLink]

theorem State.detachLink_eq {s : State} {l : LinkNo} {p : Principal} (cause : LinkCause) :
    s.detachLink l p cause = (s.setLink l { s.link l with state := .idle }).post .hall
      (.linkState l .idle (s.link l).errorCount (some p) none cause) := by
  rw [State.detachLink, State.postLinkState, State.link_setLink]

/-! ## The commands by their rules -/

/-- Settles O44. -/
theorem linksAttachAndAreChecked : Obligations.LinksAttachAndAreChecked := by
  refine ⟨?_, ?_, ?_⟩
  · intro s l m tag n p q x s' refused taken attached displaced
    refine ⟨fun hm h => ?_, fun hm h => ?_, fun hx h hq => ?_, fun hx h => ?_, fun hx h hp => ?_, fun hx h hp => ?_,
      fun hx => ?_⟩
    · exact exec_attach_refused hm (State.attach_badValue s' l h) tag
    · exact exec_attach_refused hm (State.attach_notPermitted (s := s') h) tag
    · have hm : (s.link l).state ≠ .muted := fun h => nomatch hx.symm.trans h
      exact exec_attach_refused hm ((State.attach_attached (s := s') h hx).trans (if_neg hq)) tag
    · have hm : (s.link l).state ≠ .muted := fun h => nomatch hx.symm.trans h
      exact exec_attach_ok hm ((State.attach_attached (s := s') h hx).trans (if_pos rfl)) rfl tag
    · have hm : (s.link l).state ≠ .muted := fun h => nomatch hx.symm.trans h
      have free : s'.attachLink l p = _ := State.attachLink_free ((s'.linkOfPrincipal_eq_none_iff p).2 hp)
      exact exec_attach_ok hm ((State.attach_idle (s := s') h hx).trans (by rw [free]; rfl)) rfl tag
    · have hm : (s.link l).state ≠ .muted := fun h => nomatch hx.symm.trans h
      have hlm : l ≠ m := by
        rintro rfl
        exact nomatch hx.symm.trans ((hp l).2 rfl)
      have moved : s'.attachLink l p = _ := State.attachLink_taken (State.linkOfPrincipal_of (s := s') hp) hlm
      exact exec_attach_ok hm ((State.attach_idle (s := s') h hx).trans (by rw [moved]; rfl)) rfl tag
    · exact State.next_ok hx (congrArg₂ Taken.ok (s'.detachLink_eq .detached) rfl) rfl
  · intro s l m tag n x y s' restored
    refine ⟨fun h => exec_linkCheck h tag, fun h hc => ?_, fun h hc => ?_, fun h hn => ?_, fun h hy => ?_, fun h hy => ?_⟩
    · exact (exec_linkCheck_muted h tag).trans (congrArg _ (State.mutedCheck_of_lt hc tag))
    · exact (exec_linkCheck_muted h tag).trans (congrArg _ (State.mutedCheck_of_le hc tag))
    · exact State.next_refused h (by rw [restoreLinkBody, linkOf_none hn]; rfl)
    · have hs : s'.restoreLink m = _ := State.restoreLink_muted hy
      refine State.next_ok h ((restoreLinkBody_val m s').trans (congrArg₂ _ hs rfl)) ?_
      rw [hs, State.link_post, State.link_setLink]
      rfl
    · have hs : s'.restoreLink m = _ := State.restoreLink_of_ne hy
      refine State.next_ok h ((restoreLinkBody_val m s').trans (congrArg₂ _ hs rfl)) ?_
      rw [hs, State.link_setLink]
      rfl
  · intro s l m tag n k p q flag classes y s' refused flags stored detached shutsOut
    have shuts : (!flag && q == .hall && s'.hallOnlyOn m) = true ↔ shutsOut := by
      rw [Bool.and_eq_true, Bool.and_eq_true, Bool.not_eq_true', beq_iff_eq, State.hallOnlyOn_iff, and_assoc]
      exact Iff.rfl
    refine ⟨fun h hn => ?_, fun h hs => ?_, fun h hs => ⟨Allowed.allows_store _ q flag,
      fun o ho => Allowed.allows_store_ne _ flag ho, ?_⟩, fun h => State.next_ok h rfl rfl⟩
    · exact State.next_refused h (setLinkPermissionBody_badValue hn flag s')
    · exact State.next_refused h ((setLinkPermissionBody_val m q flag s').trans (if_pos (shuts.2 hs)))
    · refine State.next_ok h ((setLinkPermissionBody_val m q flag s').trans
        ((if_neg (mt shuts.1 hs)).trans (congrArg₂ _ (s'.permit_eq m q flag) rfl))) ?_
      rw [State.allowed_permit]
      rfl

end Sys2Proof.Machine

/-! SUPPORT. The counts of the carrier table after a record is stored (R1, R12), and what a match makes of an entry and its
carrier (R84). -/

namespace Sys2Proof.Machine

/-! ## Counts -/

theorem State.getElem?_carriers {s : State} {k : Nat} (hk : k < s.carriers.table.length) :
    s.carriers.table[k]? = some (s.carrier k) := by
  simp [State.carrier, hk]

/-- R1, R12: the counts after a record of the table is replaced. -/
theorem State.counts_setCarrier {s : State} {k : Nat} (hk : k < s.carriers.table.length) (c : Carrier) :
    (s.setCarrier k c).carriers.table.length = s.carriers.table.length
      ∧ (s.setCarrier k c).carriers.loaded = s.carriers.loaded + oneIf c.isLoaded - oneIf (s.carrier k).isLoaded
      ∧ (s.setCarrier k c).carriers.unverified
        = s.carriers.unverified + oneIf c.isUnverified - oneIf (s.carrier k).isUnverified := by
  refine ⟨CarrierTable.store_length _ _ _, ?_, ?_⟩
  all_goals rw [State.setCarrier, State.setCarriers_carriers, CarrierTable.store, State.getElem?_carriers hk]

/-- The counts stand when the record stored is in the state of the record it replaces. -/
theorem State.counts_setCarrier_sameState (s : State) {k : Nat} {c : Carrier} (h : c.state = (s.carrier k).state) :
    (s.setCarrier k c).carriers.table.length = s.carriers.table.length
      ∧ (s.setCarrier k c).carriers.loaded = s.carriers.loaded
      ∧ (s.setCarrier k c).carriers.unverified = s.carriers.unverified := by
  rcases Nat.lt_or_ge k s.carriers.table.length with hk | hk
  · obtain ⟨length, loaded, unverified⟩ := State.counts_setCarrier hk c
    refine ⟨length, loaded.trans ?_, unverified.trans ?_⟩
    · rw [Carrier.isLoaded, Carrier.isLoaded, h]; omega
    · rw [Carrier.isUnverified, Carrier.isUnverified, h]; omega
  · rw [State.setCarrier, State.setCarriers_carriers, CarrierTable.store, List.getElem?_eq_none hk]
    exact ⟨rfl, rfl, rfl⟩

/-! ## Entries that are not counted -/

theorem Cabin.recount_uncounted {c : Cabin} {old new : EntryState} (hold : old ≠ .delivered ∧ old ≠ .inHold)
    (hnew : new ≠ .delivered ∧ new ≠ .inHold) : c.recount old new = c := by
  simp [Cabin.recount, oneIf, beq_false_of_ne hold.1, beq_false_of_ne hold.2, beq_false_of_ne hnew.1,
    beq_false_of_ne hnew.2]

/-- An entry neither counted before nor after leaves its cabin as it was (R61). -/
theorem Berth.cabins_setEntryState {r : Berth} {i : Nat} {e : Entry} (h : r.findEntry i = some e) {st : EntryState}
    (hold : e.state ≠ .delivered ∧ e.state ≠ .inHold) (hnew : st ≠ .delivered ∧ st ≠ .inHold) (ticket : Option Nat) :
    (r.setEntryState i st ticket).cabins = r.cabins := by
  rw [Berth.setEntryState_of h]
  refine (List.map_congr_left fun c _ => ?_).trans (List.map_id r.cabins)
  split
  · exact Cabin.recount_uncounted hold hnew
  · rfl

theorem Berth.deckMap_setEntryState (r : Berth) (i : Nat) (st : EntryState) (ticket : Option Nat) :
    (r.setEntryState i st ticket).deckMap = r.deckMap := by
  unfold Berth.setEntryState
  split <;> rfl

/-! ## Matches -/

theorem State.dropTarget_setBerth (s : State) (b : BerthId) (r : Berth) (k : Nat) :
    (s.setBerth b r).dropTarget k = (s.dropTarget k).setBerth b r := by
  have same : (s.setBerth b r).carrier k = s.carrier k := by cases b <;> rfl
  cases h : (s.carrier k).target with
  | none => rw [State.dropTarget_none h, State.dropTarget_none (by rw [same, h])]
  | some j =>
    rw [State.dropTarget_some h, State.dropTarget_some (s := s.setBerth b r) (by rw [same, h]), same]
    cases b <;> rfl

theorem State.enterDisposition_setBerth (s : State) (b : BerthId) (r : Berth) (k : Nat) (d : Disposition) :
    (s.setBerth b r).enterDisposition k d = (s.enterDisposition k d).setBerth b r := by
  rw [State.enterDisposition, State.dropTarget_setBerth]
  cases b <;> rfl

theorem State.cabinOf_eq {s : State} {d : Identity} {e : Entry} (h : s.entryOf d = some e) :
    s.cabinOf d = (s.berth d.berth).findCabin e.cabin := by
  rw [State.cabinOf, h]
  rfl

/-- The disposition of a match: HOLD when the entry's cabin is held (R84). -/
def State.matchDisposition (s : State) (d : Identity) : Disposition :=
  dispositionOf ((s.cabinOf d).any (·.held))

theorem State.matchDisposition_of {s : State} {d : Identity} {x : Cabin} (h : s.cabinOf d = some x) :
    s.matchDisposition d = if x.held then .hold else .delivery := by
  rw [State.matchDisposition, h]
  rfl

/-- R84: a match is a disposition of its carrier and the entry made ON_LOOP. -/
theorem State.matchEntry_eq (s : State) (k : Nat) (d : Identity) :
    s.matchEntry k d = ((s.setCarrier k { s.carrier k with identity := some d }).enterDisposition k
        (s.matchDisposition d)).setBerth d.berth ((s.berth d.berth).setEntryState d.entry .onLoop none) := by
  have same : (s.setEntryState d.berth d.entry .onLoop none).setCarrier k
        { (s.setEntryState d.berth d.entry .onLoop none).carrier k with identity := some d }
      = (s.setCarrier k { s.carrier k with identity := some d }).setBerth d.berth
        ((s.berth d.berth).setEntryState d.entry .onLoop none) := by
    rw [State.setEntryState]
    cases d.berth <;> rfl
  rw [← State.enterDisposition_setBerth, ← same, State.matchEntry, State.matchDisposition]
  cases s.cabinOf d <;> rfl

/-- A carrier without a target enters a disposition. -/
theorem State.enterDisposition_untargeted {s : State} {k : Nat} (h : (s.carrier k).target = none) (d : Disposition) :
    s.enterDisposition k d = s.setCarrier k { s.carrier k with state := .carrying, disposition := some d, laps := 0 } := by
  rw [State.enterDisposition, State.dropTarget_none h]

/-- What the match does to the berth of its entry (R84). -/
theorem Berth.matched_spec {r : Berth} {i : Nat} {e : Entry} (h : r.findEntry i = some e)
    (hold : e.state ≠ .delivered ∧ e.state ≠ .inHold) :
    (r.setEntryState i .onLoop none).state = r.state ∧ (r.setEntryState i .onLoop none).deckMap = r.deckMap
      ∧ (r.setEntryState i .onLoop none).cabins = r.cabins
      ∧ (∀ m, m ≠ i → (r.setEntryState i .onLoop none).findEntry m = r.findEntry m)
      ∧ (r.setEntryState i .onLoop none).findEntry i = some { e with state := .onLoop, ticket := none } := by
  refine ⟨r.state_setEntryState i .onLoop none, r.deckMap_setEntryState i .onLoop none,
    Berth.cabins_setEntryState h hold (by simp) none, fun m hm => ?_, ?_⟩
  · simp [Berth.findEntry_setEntryState, hm]
  · simp [Berth.findEntry_setEntryState, h]

end Sys2Proof.Machine

/-! SUPPORT. What an induction point does at an ADVANCE: the grant, the lapse, the wait and the reservation (R25 to R30,
R147). -/

namespace Sys2Proof.Machine

/-! ## The step of a point -/

theorem Granting.pointStep_skip {g : Granting} {i : PointNo}
    (h : (g.state.point i).enabled = false ∨ (g.state.point i).offset = none ∨ (g.state.point i).waiting = none) :
    g.pointStep i = g := by
  unfold Granting.pointStep
  dsimp only
  split
  · next he ho hw => simp [he, ho, hw] at h
  · rfl

theorem Granting.pointStep_of {g : Granting} {i : PointNo} {d : Nat} {w : Waiting} (he : (g.state.point i).enabled = true)
    (ho : (g.state.point i).offset = some d) (hw : (g.state.point i).waiting = some w) :
    g.pointStep i = if g.state.grants i (g.state.loop.carrierAt d) then
        ⟨(g.state.grant i (g.state.loop.carrierAt d) w).1, g.granted ++ [g.state.loop.carrierAt d],
          if (g.state.grant i (g.state.loop.carrierAt d) w).2 then g.wants ++ [g.state.loop.carrierAt d] else g.wants⟩
      else { g with state := g.state.waitOn i d (g.state.loop.carrierAt d) w } := by
  simp only [Granting.pointStep, he, ho, hw]

theorem State.grants_iff (s : State) (i : PointNo) (k : Nat) :
    s.grants i k = true ↔ s.mode = .run ∧ s.carriers.loaded < s.induction.loadLimit ∧ (s.carrier k).state = .empty
      ∧ ((s.carrier k).reservation = none ∨ (s.carrier k).reservation = some i) := by
  simp [State.grants, and_assoc]

/-! ## The grant -/

/-- What every grant does besides loading the carrier (R27): GRANT, the end of the point's reservation, and the waiting
record's removal. -/
def State.gaveUp (s : State) (i : PointNo) (k : Nat) : State :=
  ((s.handOver (.grant i k)).endReservation i).removeWaiting i

theorem State.carriers_gaveUp (s : State) (i : PointNo) (k : Nat) :
    (s.gaveUp i k).carriers = { s.carriers with table := s.carriers.table.map (·.unreserve i) } := by
  show ((s.handOver (.grant i k)).endReservation i).carriers = _
  rw [State.endReservation, State.setCarriers_carriers, State.carriers_handOver]

theorem State.carrier_gaveUp (s : State) (i : PointNo) (k m : Nat) : (s.gaveUp i k).carrier m = (s.carrier m).unreserve i := by
  rw [State.gaveUp, State.carrier_removeWaiting, State.carrier_endReservation, State.carrier_handOver]

theorem State.changesOnly_gaveUp (s : State) (i : PointNo) (k : Nat) :
    s.changesOnly (s.gaveUp i k) [.carriers, .induction, .orders] :=
  State.changesOnly_comp (State.changesOnly_comp (s.changesOnly_handOver (.grant i k)) (State.changesOnly_endReservation _ i)
    (rs := [.carriers, .orders]) (by simp) (by simp)) (State.changesOnly_setPoint _ i _) (by simp) (by simp)

theorem State.orders_gaveUp (s : State) (i : PointNo) (k : Nat) :
    (s.gaveUp i k).orders = if s.orders.length < 32 then s.orders ++ [.grant i k] else s.orders := by
  show (s.handOver (.grant i k)).orders = _
  rw [State.handOver_eq, apply_ite State.orders]

theorem State.induction_gaveUp (s : State) (i : PointNo) (k : Nat) :
    (s.gaveUp i k).induction = (s.setPoint i { s.point i with waiting := none }).induction := by
  have same : ((s.handOver (.grant i k)).endReservation i).induction = s.induction := s.changesOnly_handOver _ .induction (by simp)
  rw [State.gaveUp, State.removeWaiting, State.setPoint, State.setPoint, State.point, same]
  rfl

/-- A grant of a bag that takes the carrier record `c`: the parts that every grant changes alike (R27, R28). -/
def State.loads (s t : State) (i : PointNo) (k : Nat) (c : Carrier) : Prop :=
  t.orders = (if s.orders.length < 32 then s.orders ++ [.grant i k] else s.orders)
    ∧ t.carriers.table.length = s.carriers.table.length ∧ t.carriers.loaded = s.carriers.loaded + 1
    ∧ t.carriers.unverified = s.carriers.unverified ∧ t.carrier k = c
    ∧ (∀ m, m ≠ k → t.carrier m = (s.carrier m).unreserve i)
    ∧ t.induction.loadLimit = s.induction.loadLimit ∧ t.induction.starveLimit = s.induction.starveLimit
    ∧ t.point i = { s.point i with waiting := none } ∧ ∀ q, q ≠ i → t.point q = s.point q

/-- An EMPTY carrier loaded at a grant, whatever the grant does to lists and manifests. -/
theorem State.loads_of {s t : State} {i : PointNo} {k : Nat} {c : Carrier} (hk : k < s.carriers.table.length)
    (he : (s.carrier k).state = .empty) (hc : c.state ≠ .empty ∧ c.state ≠ .unverified)
    (carriers : t.carriers = ((s.gaveUp i k).setCarrier k c).carriers) (induction : t.induction = (s.gaveUp i k).induction)
    (orders : t.orders = (s.gaveUp i k).orders) : s.loads t i k c := by
  have inside : k < (s.gaveUp i k).carriers.table.length := by
    rw [State.carriers_gaveUp, List.length_map]
    exact hk
  have empty : ((s.gaveUp i k).carrier k).state = .empty := by rw [State.carrier_gaveUp]; exact he
  obtain ⟨length, loaded, unverified⟩ := State.counts_setCarrier inside c
  rw [State.carriers_gaveUp] at length loaded unverified
  have point (q : PointNo) : t.point q = (s.setPoint i { s.point i with waiting := none }).point q :=
    State.point_eq_of_induction (induction.trans (s.induction_gaveUp i k)) q
  refine ⟨orders.trans (s.orders_gaveUp i k), ?_, ?_, ?_, ?_, fun m hm => ?_, ?_, ?_, ?_, fun q hq => ?_⟩
  · rw [carriers, length, List.length_map]
  · rw [carriers, loaded, Carrier.isLoaded, Carrier.isLoaded, empty]
    simp [oneIf, hc.1]
  · rw [carriers, unverified, Carrier.isUnverified, Carrier.isUnverified, empty]
    simp [oneIf, hc.2]
  · rw [State.carrier_eq_of_carriers carriers, State.carrier_setCarrier_same _ _ inside]
  · rw [State.carrier_eq_of_carriers carriers, State.carrier_setCarrier_ne _ _ hm, State.carrier_gaveUp]
  · rw [induction, State.induction_gaveUp]; rfl
  · rw [induction, State.induction_gaveUp]; rfl
  · rw [point, State.point_setPoint]
  · rw [point, State.point_setPoint_ne _ _ hq]

/-- The grant of a bag without a ticket, or away from the marked point (R27). -/
theorem State.grant_ordinary {s : State} {i : PointNo} {w : Waiting} (k : Nat)
    (h : (s.point i).mark = false ∨ w.ticket = none) :
    s.grant i k w = ((s.gaveUp i k).setCarrier k (loadedCarrier i w none), false) := by
  have mark : ((s.gaveUp i k).point i).mark = (s.point i).mark := by
    rw [State.point_eq_of_induction (s.induction_gaveUp i k), State.point_setPoint]
  show (s.gaveUp i k).loadBag i k w = _
  unfold State.loadBag
  split
  · next hm ht =>
    rw [mark] at hm
    rcases h with h | h
    · exact absurd (h.symm.trans hm) Bool.false_ne_true
    · exact nomatch h.symm.trans ht
  · rfl

/-! ## The wait and the reservation -/

/-- R25 step 2: the point's reservation of the carrier at it lapses. -/
def State.lapse (s : State) (i : PointNo) (k : Nat) : State :=
  if (s.carrier k).reservation = some i then s.setCarrier k { s.carrier k with reservation := none } else s

theorem State.lapse_spec (s : State) (i : PointNo) {k : Nat} (hk : k < s.carriers.table.length) :
    s.changesOnly (s.lapse i k) [.carriers] ∧ (s.lapse i k).carriers.table.length = s.carriers.table.length
      ∧ (s.lapse i k).carriers.loaded = s.carriers.loaded ∧ (s.lapse i k).carriers.unverified = s.carriers.unverified
      ∧ ∀ m, (s.lapse i k).carrier m = if m = k ∧ (s.carrier k).reservation = some i then
          { s.carrier k with reservation := none } else s.carrier m := by
  unfold State.lapse
  split
  · next h =>
    obtain ⟨length, loaded, unverified⟩ := s.counts_setCarrier_sameState (k := k)
      (c := { s.carrier k with reservation := none }) rfl
    refine ⟨s.changesOnly_storeCarrier _ _, length, loaded, unverified, fun m => ?_⟩
    simp [State.carrier_setCarrier, hk, h]
  · next h => exact ⟨s.changesOnly_refl _, rfl, rfl, rfl, fun m => (if_neg fun hm => h hm.2).symm⟩

/-- A carrier that R29 may reserve for a station at an offset. -/
def State.mayReserve (s : State) (d m : Nat) : Prop :=
  (s.carrier m).state = .empty ∧ (s.carrier m).reservation = none ∧ 0 < s.loop.distance m d

/-- What the search of R29 has found among the carriers `ms`. -/
def State.NearestEmpty (s : State) (d : Nat) (ms : List Nat) : Option Nat → Prop
  | none => ∀ m ∈ ms, ¬s.mayReserve d m
  | some k => k ∈ ms ∧ s.mayReserve d k ∧ ∀ m ∈ ms, s.mayReserve d m → s.loop.distance k d ≤ s.loop.distance m d

theorem State.nearestEmpty_nearer {s : State} {d m : Nat} {ms : List Nat} {best : Option Nat}
    (h : s.NearestEmpty d ms best) : s.NearestEmpty d (ms ++ [m]) (s.nearerEmpty d best m) := by
  have test : ((s.carrier m).state == .empty && (s.carrier m).reservation == none && decide (0 < s.loop.distance m d)) = true
      ↔ s.mayReserve d m := by
    rw [Bool.and_eq_true, Bool.and_eq_true, beq_iff_eq, beq_iff_eq, decide_eq_true_eq, and_assoc]
    exact Iff.rfl
  unfold State.nearerEmpty
  by_cases hm : s.mayReserve d m
  · rw [if_pos (test.2 hm)]
    have last : m ∈ ms ++ [m] := List.mem_append_right _ (List.mem_singleton.2 rfl)
    cases best with
    | none =>
      refine ⟨last, hm, fun o ho hok => ?_⟩
      rcases List.mem_append.1 ho with ho | ho
      · exact absurd hok (h o ho)
      · rw [List.mem_singleton.1 ho]
    | some b =>
      obtain ⟨hb, hok, hleast⟩ := h
      dsimp only
      split
      · next hlt =>
        refine ⟨last, hm, fun o ho hok => ?_⟩
        rcases List.mem_append.1 ho with ho | ho
        · exact (le_of_lt hlt).trans (hleast o ho hok)
        · rw [List.mem_singleton.1 ho]
      · next hge =>
        refine ⟨List.mem_append_left _ hb, hok, fun o ho hok => ?_⟩
        rcases List.mem_append.1 ho with ho | ho
        · exact hleast o ho hok
        · rw [List.mem_singleton.1 ho]; exact not_lt.1 hge
  · rw [if_neg (mt test.1 hm)]
    cases best with
    | none =>
      intro o ho
      rcases List.mem_append.1 ho with ho | ho
      · exact h o ho
      · rwa [List.mem_singleton.1 ho]
    | some b =>
      obtain ⟨hb, hok, hleast⟩ := h
      refine ⟨List.mem_append_left _ hb, hok, fun o ho hoo => ?_⟩
      rcases List.mem_append.1 ho with ho | ho
      · exact hleast o ho hoo
      · exact absurd (List.mem_singleton.1 ho ▸ hoo) hm

/-- R29: the carrier to reserve is the nearest that may be. -/
theorem State.nearestEmpty_reservable (s : State) (d : Nat) : s.NearestEmpty d s.carrierNumbers (s.reservable d) := by
  have fold (ms : List Nat) : s.NearestEmpty d ms (ms.foldl (s.nearerEmpty d) none) := by
    induction ms using List.reverseRecOn with
    | nil => exact fun m hm => absurd hm (by simp)
    | append_singleton ms m ih =>
      rw [List.foldl_append]
      exact State.nearestEmpty_nearer ih
  exact fold s.carrierNumbers

/-- R29: what a try to reserve does. -/
theorem State.reserve_spec (s : State) (i : PointNo) (d : Nat) :
    s.changesOnly (s.reserve i d) [.carriers] ∧ (s.reserve i d).carriers.table.length = s.carriers.table.length
      ∧ (s.reserve i d).carriers.loaded = s.carriers.loaded ∧ (s.reserve i d).carriers.unverified = s.carriers.unverified
      ∧ ((∀ m, m < s.carriers.table.length → ¬s.mayReserve d m) → s.reserve i d = s)
      ∧ ((∃ m, m < s.carriers.table.length ∧ s.mayReserve d m) → ∃ m, (m < s.carriers.table.length ∧ s.mayReserve d m)
        ∧ (∀ o, o < s.carriers.table.length ∧ s.mayReserve d o → s.loop.distance m d ≤ s.loop.distance o d)
        ∧ (s.reserve i d).carrier m = { s.carrier m with reservation := some i }
        ∧ ∀ o, o ≠ m → (s.reserve i d).carrier o = s.carrier o) := by
  have nearest := s.nearestEmpty_reservable d
  have inside (m : Nat) : m ∈ s.carrierNumbers ↔ m < s.carriers.table.length := List.mem_range
  unfold State.reserve
  cases h : s.reservable d with
  | none =>
    rw [h] at nearest
    refine ⟨s.changesOnly_refl _, rfl, rfl, rfl, fun _ => rfl, fun ⟨m, hm, hok⟩ => ?_⟩
    exact absurd hok (nearest m ((inside m).2 hm))
  | some k =>
    rw [h] at nearest
    obtain ⟨hk, hok, hleast⟩ := nearest
    have hk' := (inside k).1 hk
    obtain ⟨length, loaded, unverified⟩ := s.counts_setCarrier_sameState (k := k)
      (c := { s.carrier k with reservation := some i }) rfl
    refine ⟨s.changesOnly_storeCarrier _ _, length, loaded, unverified, fun hno => absurd hok (hno k hk'), fun _ => ?_⟩
    exact ⟨k, ⟨hk', hok⟩, fun o ho => hleast o ((inside o).2 ho.1) ho.2, s.carrier_setCarrier_same _ hk',
      fun o ho => s.carrier_setCarrier_ne _ ho⟩

/-- R25 steps 2 and 3: the lapse, and the wait count raised. -/
def State.waited (s : State) (i : PointNo) (k : Nat) (w : Waiting) : State :=
  (s.lapse i k).setPoint i { s.point i with waiting := some { w with wait := min 255 (w.wait + 1) } }

theorem State.waitOn_eq (s : State) (i : PointNo) (d : Nat) {k : Nat} (hk : k < s.carriers.table.length) (w : Waiting) :
    s.waitOn i d k w = if (s.waited i k w).mode == .run && (s.waited i k w).induction.starveLimit ≤ min 255 (w.wait + 1)
        && !(s.waited i k w).holdsReservation i then (s.waited i k w).reserve i d else s.waited i k w := by
  have same : (s.lapse i k).point i = s.point i :=
    State.point_eq_of_induction ((s.lapse_spec i hk).1 .induction (by simp)) i
  rw [State.waited, ← same]
  rfl

theorem State.waited_spec (s : State) (i : PointNo) {k : Nat} (hk : k < s.carriers.table.length) (w : Waiting) :
    s.changesOnly (s.waited i k w) [.carriers, .induction]
      ∧ (s.waited i k w).carriers = (s.lapse i k).carriers
      ∧ (s.waited i k w).induction.loadLimit = s.induction.loadLimit
      ∧ (s.waited i k w).induction.starveLimit = s.induction.starveLimit
      ∧ (s.waited i k w).point i = { s.point i with waiting := some { w with wait := min 255 (w.wait + 1) } }
      ∧ ∀ q, q ≠ i → (s.waited i k w).point q = s.point q := by
  have frame := (s.lapse_spec i hk).1
  have induction : (s.lapse i k).induction = s.induction := frame .induction (by simp)
  refine ⟨State.changesOnly_comp frame (State.changesOnly_setPoint _ i _) (by simp) (by simp), rfl,
    show (s.lapse i k).induction.loadLimit = _ from congrArg _ induction,
    show (s.lapse i k).induction.starveLimit = _ from congrArg _ induction, State.point_setPoint _ i _, fun q hq => ?_⟩
  rw [State.waited, State.point_setPoint_ne _ _ hq, State.point_eq_of_induction induction]

theorem State.holdsReservation_iff (s : State) (i : PointNo) :
    s.holdsReservation i = false ↔ ∀ m, (s.carrier m).reservation ≠ some i := by
  rw [State.holdsReservation, ← Bool.not_eq_true, State.any_table_iff]
  constructor
  · intro h m hm
    have hne : s.carrier m ≠ Carrier.empty := fun he => nomatch (congrArg Carrier.reservation he).symm.trans hm
    exact h ⟨m, s.lt_of_carrier_ne hne, beq_iff_eq.2 hm⟩
  · rintro h ⟨m, -, hm⟩
    exact h m (beq_iff_eq.1 hm)

/-- Settles O49. -/
theorem pointsGrantOrWait : Obligations.PointsGrantOrWait := by
  intro g i d w s k c granted t lapsed wait starved ahead
  refine ⟨Granting.pointStep_skip, fun he ho hw hk => ?_⟩
  have step := Granting.pointStep_of (g := g) he ho hw
  constructor
  · intro hg hticket
    have step := step.trans (if_pos ((s.grants_iff i k).2 hg))
    rw [s.grant_ordinary k hticket] at step
    have ht : t = (s.gaveUp i k).setCarrier k (loadedCarrier i w none) := congrArg Granting.state step
    have loads := State.loads_of hk hg.2.2.1 (c := loadedCarrier i w none) ⟨nofun, nofun⟩ rfl
      (t := (s.gaveUp i k).setCarrier k (loadedCarrier i w none)) rfl rfl
    have frame : s.changesOnly t [.carriers, .induction, .orders] := ht ▸
      State.changesOnly_comp (s.changesOnly_gaveUp i k) (State.changesOnly_storeCarrier _ _ _) (by simp) (by simp)
    rw [← ht] at loads
    obtain ⟨orders, length, loaded, unverified, own, others, limits⟩ := loads
    exact ⟨congrArg Granting.granted step, by rw [step]; rfl, frame, orders, length, loaded, unverified, own,
      others, limits⟩
  · intro hg
    have step := step.trans (if_neg (mt (s.grants_iff i k).1 hg))
    have ht : t = s.waitOn i d k w := congrArg Granting.state step
    have eqn := s.waitOn_eq i d hk w
    obtain ⟨-, length, loaded, unverified, carrier⟩ := s.lapse_spec i hk
    obtain ⟨frame, carriers, load, starve, own, others⟩ := s.waited_spec i hk w
    have mode : (s.waited i k w).mode = s.mode := frame .mode (by simp)
    have loop : (s.waited i k w).loop = s.loop := frame .loop (by simp)
    generalize s.waited i k w = v at eqn frame carriers load starve own others mode loop
    have carrier (m : Nat) : v.carrier m = lapsed m := (State.carrier_eq_of_carriers carriers m).trans ((carrier m).trans (by
      by_cases hm : m = k
      · rw [hm]
      · rw [if_neg (hm ·.1)]; exact (if_neg (hm ·.1)).symm))
    have test : (v.mode == .run && decide (v.induction.starveLimit ≤ min 255 (w.wait + 1)) && !v.holdsReservation i) = true
        ↔ starved := by
      rw [Bool.and_eq_true, Bool.and_eq_true, beq_iff_eq, decide_eq_true_eq, Bool.not_eq_true', v.holdsReservation_iff, mode,
        starve, and_assoc]
      simp only [carrier]
      exact Iff.rfl
    have table : v.carriers.table.length = s.carriers.table.length := (congrArg (·.table.length) carriers).trans length
    have may (m : Nat) : m < v.carriers.table.length ∧ v.mayReserve d m ↔ ahead m := by
      rw [State.mayReserve, carrier, loop, table]
    obtain ⟨rframe, rlength, rloaded, runverified, rnone, rsome⟩ := v.reserve_spec i d
    have after : v.changesOnly t [.carriers] ∧ t.carriers.table.length = v.carriers.table.length
        ∧ t.carriers.loaded = v.carriers.loaded ∧ t.carriers.unverified = v.carriers.unverified
        ∧ ((¬starved ∨ ∀ m, ¬ahead m) → t = v) ∧ (starved → t = v.reserve i d) := by
      rw [ht, eqn]
      by_cases hs : starved
      · rw [if_pos (test.2 hs)]
        exact ⟨rframe, rlength, rloaded, runverified, fun h => rnone fun m hm hok =>
          (h.resolve_left (not_not.2 hs)) m ((may m).1 ⟨hm, hok⟩), fun _ => rfl⟩
      · rw [if_neg (mt test.1 hs)]
        exact ⟨v.changesOnly_refl _, rfl, rfl, rfl, fun _ => rfl, fun h => absurd h hs⟩
    obtain ⟨tframe, tlength, tloaded, tunverified, stays, reserves⟩ := after
    have induction : t.induction = v.induction := tframe .induction (by simp)
    refine ⟨by rw [step], by rw [step], State.changesOnly_comp frame tframe (by simp) (by simp),
      tlength.trans table, tloaded.trans ((congrArg (·.loaded) carriers).trans loaded),
      tunverified.trans ((congrArg (·.unverified) carriers).trans unverified), by rw [induction, load], by rw [induction, starve],
      (State.point_eq_of_induction induction i).trans own, fun q hq => (State.point_eq_of_induction induction q).trans (others q hq),
      fun h m => by rw [stays h, carrier], fun hs hm => ?_⟩
    simp only [may, carrier, loop] at rsome
    rw [reserves hs]
    exact rsome hm

end Sys2Proof.Machine

/-! SUPPORT. The grant of a bag with a ticket at the marked point (R28, R147). -/

namespace Sys2Proof.Machine

/-! ## Records stored twice -/

/-- Of two records stored for a carrier in one state, the second stands, and the counts with it. -/
theorem State.setCarrier_setCarrier (s : State) (k : Nat) {a b : Carrier} (h : b.state = a.state) :
    (s.setCarrier k a).setCarrier k b = s.setCarrier k b := by
  have hl : oneIf a.isLoaded = oneIf b.isLoaded := by rw [Carrier.isLoaded, Carrier.isLoaded, h]
  have hu : oneIf a.isUnverified = oneIf b.isUnverified := by rw [Carrier.isUnverified, Carrier.isUnverified, h]
  unfold State.setCarrier CarrierTable.store
  cases hk : s.carriers.table[k]? with
  | none =>
    rw [State.setCarriers_carriers, hk]
    rfl
  | some old =>
    have hlt : k < s.carriers.table.length := (List.getElem?_eq_some_iff.1 hk).1
    have hset : (s.carriers.table.set k a)[k]? = some a := by rw [List.getElem?_set_self hlt]
    simp only [State.setCarriers_carriers, hset, List.set_set, hl, hu, Nat.add_sub_cancel]
    rfl

/-! ## Records consumed -/

/-- The reinject list without the records of a ticket (R147). -/
def Coding.without (c : Coding) (ticket : Nat) : Coding :=
  { c with reinject := c.reinject.filter fun r => r.ticket != ticket }

theorem State.consume_unnamed {s : State} {r : ReinjectRecord} (h : r.berth = none ∨ r.entry = none) :
    s.consume r = s.setCoding (s.coding.without r.ticket) := by
  unfold State.consume
  dsimp only
  split
  · next hb he => simp [hb, he] at h
  · rfl

theorem State.consume_named {s : State} {r : ReinjectRecord} {b : BerthId} {n : Nat} (hb : r.berth = some b)
    (he : r.entry = some n) :
    s.consume r = (s.setCoding (s.coding.without r.ticket)).setBerth b
      ((s.berth b).modifyEntry n fun e => { e with ticket := none }) := by
  simp only [State.consume, hb, he]
  rfl

/-- The berth without the ticket of an entry. -/
def Berth.untickets (r : Berth) (n : Nat) : Berth := r.modifyEntry n fun e => { e with ticket := none }

theorem Berth.untickets_absent {r : Berth} {n : Nat} (h : r.findEntry n = none) : r.untickets n = r := by
  have same : r.tags.map (fun e => if e.index == n then { e with ticket := none } else e) = r.tags :=
    (List.map_congr_left fun e he => if_neg (List.find?_eq_none.1 h e he)).trans (List.map_id _)
  rw [Berth.untickets, Berth.modifyEntry, same]

theorem Berth.findEntry_untickets (r : Berth) (n m : Nat) :
    (r.untickets n).findEntry m = (r.findEntry m).map fun e => if m = n then { e with ticket := none } else e :=
  r.findEntry_modifyEntry n m fun _ => rfl

theorem State.setBerth_same (s : State) (b : BerthId) : s.setBerth b (s.berth b) = s := by cases b <;> rfl

/-! ## The grant -/

theorem State.grant_ticketed {s : State} {i : PointNo} {w : Waiting} {t : Nat} (k : Nat) (hm : (s.point i).mark = true)
    (ht : w.ticket = some t) : s.grant i k w = (s.gaveUp i k).grantTicketed i k w t := by
  have mark : ((s.gaveUp i k).point i).mark = true := by
    rw [State.point_eq_of_induction (s.induction_gaveUp i k), State.point_setPoint, hm]
  show (s.gaveUp i k).loadBag i k w = _
  simp only [State.loadBag, mark, ht]

theorem State.grantTicketed_none {s : State} {t : Nat} (h : s.coding.findReinject t = none) (i : PointNo) (k : Nat)
    (w : Waiting) : s.grantTicketed i k w t = (s.setCarrier k (loadedCarrier i w none), false) := by
  rw [State.grantTicketed, h]

theorem State.grantTicketed_reread {s : State} {t : Nat} {r : ReinjectRecord} (h : s.coding.findReinject t = some r)
    (hd : s.codedIdentity r = none) (i : PointNo) (k : Nat) (w : Waiting) :
    s.grantTicketed i k w t = ((s.consume r).setCarrier k (loadedCarrier i w (some t)), false) := by
  rw [State.grantTicketed, h]
  dsimp only
  rw [hd]

theorem State.grantTicketed_coded {s : State} {t : Nat} {r : ReinjectRecord} {d : Identity}
    (h : s.coding.findReinject t = some r) (hd : s.codedIdentity r = some d) (i : PointNo) (k : Nat) (w : Waiting) :
    s.grantTicketed i k w t = ((s.consume r).grantCoded i k w d, true) := by
  rw [State.grantTicketed, h]
  dsimp only
  rw [hd]

theorem State.codedIdentity_unnamed {s : State} {r : ReinjectRecord} (h : r.berth = none ∨ r.entry = none) :
    s.codedIdentity r = none := by
  unfold State.codedIdentity
  split
  · next hb he => simp [hb, he] at h
  · rfl

theorem State.codedIdentity_absent {s : State} {r : ReinjectRecord} {b : BerthId} {n : Nat} (hb : r.berth = some b)
    (he : r.entry = some n) (h : (s.berth b).findEntry n = none) : s.codedIdentity r = none := by
  unfold State.codedIdentity
  split
  · next hb' he' =>
    obtain rfl := Option.some.inj (hb.symm.trans hb')
    obtain rfl := Option.some.inj (he.symm.trans he')
    rw [h]
  · rfl

theorem State.codedIdentity_named {s : State} {r : ReinjectRecord} {b : BerthId} {n : Nat} {e : Entry} (hb : r.berth = some b)
    (he : r.entry = some n) (h : (s.berth b).findEntry n = some e) :
    s.codedIdentity r = if r.resolution = .coded ∧ (s.berth b).state.isBound = true ∧ e.state = .strayed
      ∧ e.ticket = some r.ticket then some ⟨b, n⟩ else none := by
  unfold State.codedIdentity
  split
  · next hr hb' he' =>
    obtain rfl := Option.some.inj (hb.symm.trans hb')
    obtain rfl := Option.some.inj (he.symm.trans he')
    rw [h]
    simp [hr]
  · next hno => exact (if_neg fun hc => hno b n hc.1 hb he).symm

/-- A carrier without a target, just stored as CARRYING, matched: one record stored and one berth. -/
theorem State.matchEntry_stored {s : State} {k : Nat} (hk : k < s.carriers.table.length) {c : Carrier}
    (hstate : c.state = .carrying) (htarget : c.target = none) (d : Identity) :
    (s.setCarrier k c).matchEntry k d = (s.setCarrier k { c with
        state := .carrying, identity := some d, disposition := some (s.matchDisposition d), laps := 0 }).setBerth
          d.berth ((s.berth d.berth).setEntryState d.entry .onLoop none) := by
  have own (c : Carrier) : (s.setCarrier k c).carrier k = c := s.carrier_setCarrier_same c hk
  have same : (s.setCarrier k c).matchDisposition d = s.matchDisposition d := rfl
  rw [State.matchEntry_eq, same, own, State.setCarrier_setCarrier s k (a := c) (b := { c with identity := some d }) rfl,
    State.enterDisposition_untargeted (by rw [own]; exact htarget), own,
    State.setCarrier_setCarrier s k (a := { c with identity := some d }) (by exact hstate.symm)]
  rfl

/-- The coded case of Table 2-3, as one record stored and one berth. -/
theorem State.grantCoded_eq {s : State} {k : Nat} (hk : k < s.carriers.table.length) (i : PointNo) (w : Waiting)
    (d : Identity) :
    s.grantCoded i k w d = (s.setCarrier k ⟨.carrying, none, some w.size, some i, some d, none,
        some (s.matchDisposition d), none, false, 0, 0, none⟩).setBerth d.berth
      ((s.berth d.berth).setEntryState d.entry .onLoop none) :=
  State.matchEntry_stored hk (c := { loadedCarrier i w none with state := .carrying }) rfl rfl d

/-- Whatever a ticketed grant finds, it stores one record for the carrier, and changes no other part than lists and
manifests (Table 2-3). -/
structure State.StoresBag (u v : State) (k : Nat) (c : Carrier) : Prop where
  loaded : c.state ≠ .empty ∧ c.state ≠ .unverified
  carriers : v.carriers = (u.setCarrier k c).carriers
  frame : u.changesOnly v [.carriers, .coding, .berths]

theorem State.storesBag_unlisted (u : State) (i : PointNo) (k : Nat) (w : Waiting) :
    u.StoresBag (u.setCarrier k (loadedCarrier i w none)) k (loadedCarrier i w none) where
  loaded := ⟨nofun, nofun⟩
  carriers := rfl
  frame := State.changesOnly_mono (u.changesOnly_storeCarrier _ _) (by simp)

theorem State.changesOnly_consume (s : State) (r : ReinjectRecord) : s.changesOnly (s.consume r) [.coding, .berths] := by
  have frame : s.changesOnly (s.setCoding (s.coding.without r.ticket)) [.coding] := s.changesOnly_setCoding _
  by_cases h : r.berth = none ∨ r.entry = none
  · rw [State.consume_unnamed h]
    exact State.changesOnly_mono frame (by simp)
  · rw [not_or] at h
    obtain ⟨b, hb⟩ := Option.ne_none_iff_exists'.1 h.1
    obtain ⟨n, he⟩ := Option.ne_none_iff_exists'.1 h.2
    rw [State.consume_named hb he]
    exact State.changesOnly_comp frame (State.changesOnly_setBerth _ b _) (by simp) (by simp)

theorem State.storesBag_reread (u : State) (r : ReinjectRecord) (i : PointNo) (k : Nat) (w : Waiting) (t : Option Nat) :
    u.StoresBag ((u.consume r).setCarrier k (loadedCarrier i w t)) k (loadedCarrier i w t) where
  loaded := ⟨nofun, nofun⟩
  carriers := by
    rw [State.setCarrier, State.setCarrier, State.setCarriers_carriers, State.setCarriers_carriers, State.carriers_consume]
  frame := State.changesOnly_comp (u.changesOnly_consume r) (State.changesOnly_storeCarrier _ _ _) (by simp) (by simp)

theorem State.storesBag_coded {u : State} {k : Nat} (hk : k < u.carriers.table.length) (r : ReinjectRecord) (i : PointNo)
    (w : Waiting) (d : Identity) :
    u.StoresBag ((u.consume r).grantCoded i k w d) k ⟨.carrying, none, some w.size, some i, some d, none,
        some ((u.consume r).matchDisposition d), none, false, 0, 0, none⟩ := by
  rw [State.grantCoded_eq (by rwa [State.carriers_consume])]
  refine ⟨⟨nofun, nofun⟩, ?_, ?_⟩
  · rw [State.setBerth_carriers, State.setCarrier, State.setCarrier, State.setCarriers_carriers, State.setCarriers_carriers,
      State.carriers_consume]
  · exact State.changesOnly_comp (State.changesOnly_comp (u.changesOnly_consume r) (State.changesOnly_storeCarrier _ _ _)
      (rs := [.carriers, .coding, .berths]) (by simp) (by simp)) (State.changesOnly_setBerth _ _ _) (by simp) (by simp)

theorem State.storesBag_grantTicketed {u : State} {k : Nat} (hk : k < u.carriers.table.length) (i : PointNo) (w : Waiting)
    (t : Nat) : ∃ c, u.StoresBag (u.grantTicketed i k w t).1 k c := by
  cases hf : u.coding.findReinject t with
  | none =>
    rw [State.grantTicketed_none hf]
    exact ⟨_, u.storesBag_unlisted i k w⟩
  | some r =>
    cases hd : u.codedIdentity r with
    | none =>
      rw [State.grantTicketed_reread hf hd]
      exact ⟨_, u.storesBag_reread r i k w (some t)⟩
    | some d =>
      rw [State.grantTicketed_coded hf hd]
      exact ⟨_, State.storesBag_coded hk r i w d⟩

/-- Settles O50. -/
theorem ticketedBagsAreGranted : Obligations.TicketedBagsAreGranted := by
  intro g i d ticket n w r b e x s k t rest unread coded he ho hw hm hticket hk hgrants
  have step := (Granting.pointStep_of (g := g) he ho hw).trans (if_pos hgrants)
  have empty := ((s.grants_iff i k).1 hgrants).2.2.1
  rw [State.grant_ticketed _ hm hticket] at step
  have frame := s.changesOnly_gaveUp i k
  have coding : (s.gaveUp i k).coding = s.coding := frame .coding (by simp)
  have berth (o) : (s.gaveUp i k).berth o = s.berth o := State.berth_eq_of_berths (frame .berths (by simp)) o
  have inside : k < (s.gaveUp i k).carriers.table.length := by
    rw [State.carriers_gaveUp, List.length_map]
    exact hk
  have ht : t = ((s.gaveUp i k).grantTicketed i k w ticket).1 := congrArg Granting.state step
  have wants : (g.pointStep i).wants
      = if ((s.gaveUp i k).grantTicketed i k w ticket).2 then g.wants ++ [k] else g.wants := by rw [step]
  have loads {c : Carrier} (h : (s.gaveUp i k).StoresBag t k c) : s.loads t i k c :=
    State.loads_of hk empty h.loaded h.carriers (h.frame .induction (by simp)) (h.frame .orders (by simp))
  have stored {v : State} {c : Carrier} (hv : t = v) (h : (s.gaveUp i k).StoresBag v k c) : t.carrier k = c := by
    obtain ⟨-, -, -, -, own, -⟩ := loads (hv.symm ▸ h)
    exact own
  obtain ⟨c, hc⟩ := State.storesBag_grantTicketed inside i w ticket
  rw [← ht] at hc
  obtain ⟨orders, length, loaded, unverified, own, others, load, starve, point, points⟩ := loads hc
  refine ⟨by rw [step], State.changesOnly_comp frame hc.frame (by simp) (by simp), orders, length, loaded, unverified, others,
    load, starve, point, points, fun hf => ?_, fun hf => ?_⟩
  · rw [← coding] at hf
    have found := State.grantTicketed_none hf i k w
    rw [found] at ht wants
    exact ⟨stored ht (State.storesBag_unlisted _ i k w), (congrArg State.coding ht).trans coding, (congrArg State.berths ht).trans (frame .berths (by simp)), wants⟩
  · obtain rfl : r.ticket = ticket := by simpa using List.find?_some hf
    rw [← coding] at hf
    have reread (hd : (s.gaveUp i k).codedIdentity r = none) :
        t = ((s.gaveUp i k).consume r).setCarrier k (loadedCarrier i w (some r.ticket)) ∧ t.carrier k = unread (some r.ticket)
          ∧ (g.pointStep i).wants = g.wants := by
      rw [State.grantTicketed_reread hf hd] at ht wants
      exact ⟨ht, stored ht (State.storesBag_reread _ r i k w _), wants⟩
    have listed : (s.gaveUp i k).coding.without r.ticket = rest := by rw [coding]; rfl
    refine ⟨fun hn => ?_, fun hb hn ha => ?_, fun hb hn he hx => ?_⟩
    · obtain ⟨ht, own, wants⟩ := reread (State.codedIdentity_unnamed hn)
      rw [State.consume_unnamed hn] at ht
      exact ⟨own, (congrArg State.coding ht).trans listed, (congrArg State.berths ht).trans (frame .berths (by simp)), wants⟩
    · obtain ⟨ht, own, wants⟩ := reread (State.codedIdentity_absent hb hn (by rw [berth, ha]))
      have same : ((s.gaveUp i k).berth b).untickets n = (s.gaveUp i k).berth b :=
        Berth.untickets_absent (by rw [berth, ha])
      have consumed : (s.gaveUp i k).consume r = (s.gaveUp i k).setCoding ((s.gaveUp i k).coding.without r.ticket) :=
        (State.consume_named hb hn).trans (by rw [← Berth.untickets, same]; exact State.setBerth_same _ b)
      rw [consumed] at ht
      exact ⟨own, (congrArg State.coding ht).trans listed, (congrArg State.berths ht).trans (frame .berths (by simp)), wants⟩
    · have entry : ((s.gaveUp i k).berth b).findEntry e.index = some e := by rw [berth, he]
      have identity := State.codedIdentity_named hb hn entry
      have test : (r.resolution = .coded ∧ ((s.gaveUp i k).berth b).state.isBound = true ∧ e.state = .strayed
          ∧ e.ticket = some r.ticket) ↔ coded := by
        rw [berth]
        exact ⟨fun ⟨h1, h⟩ => ⟨h1, hb, hn, h⟩, fun ⟨h1, _, _, h⟩ => ⟨h1, h⟩⟩
      have consumed : (s.gaveUp i k).consume r = ((s.gaveUp i k).setCoding rest).setBerth b ((s.berth b).untickets e.index) := by
        rw [State.consume_named hb hn, listed, berth]
        rfl
      have unticketed (m) := (s.berth b).findEntry_untickets e.index m
      by_cases hcoded : coded
      · rw [if_pos (test.2 hcoded)] at identity
        rw [State.grantTicketed_coded hf identity] at ht wants
        have own := stored ht (State.storesBag_coded inside r i w _)
        rw [consumed] at ht own
        have vberth : (((s.gaveUp i k).setCoding rest).setBerth b ((s.berth b).untickets e.index)).berth b
          = (s.berth b).untickets e.index := State.berth_setBerth _ b _
        have ventry : ((s.berth b).untickets e.index).findEntry e.index = some { e with ticket := none } := by
          rw [unticketed, he]; simp
        have vcabin : (((s.gaveUp i k).setCoding rest).setBerth b ((s.berth b).untickets e.index)).cabinOf ⟨b, e.index⟩
            = some x := by
          rw [State.cabinOf_eq (e := { e with ticket := none }) (by rw [State.entryOf, vberth, ventry]), vberth]
          exact hx
        rw [State.matchDisposition_of vcabin] at own
        rw [State.grantCoded_eq (by rwa [State.setBerth_carriers])] at ht
        have strayed : e.state = .strayed := (test.2 hcoded).2.2.1
        obtain ⟨bstate, bdecks, bcabins, bothers, bentry⟩ := Berth.matched_spec ventry
          (by rw [strayed]; simp)
        have tberth : t.berth b = ((s.berth b).untickets e.index).setEntryState e.index .onLoop none := by
          rw [ht, State.berth_setBerth]
          exact congrArg (·.setEntryState e.index .onLoop none) vberth
        have tother (o) (ho : o ≠ b) : t.berth o = s.berth o := by
          rw [ht, State.berth_setBerth_ne _ _ ho]
          exact (State.berth_setBerth_ne ((s.gaveUp i k).setCoding rest) _ ho).trans (berth o)
        have tcoding : t.coding = rest := by
          rw [ht, State.setBerth_coding]
          exact State.setBerth_coding _ _ _
        refine ⟨tcoding, tother, by rw [tberth, bstate]; rfl, by rw [tberth, bdecks]; rfl, by rw [tberth, bcabins]; rfl,
          fun m hm => ?_, fun h => absurd hcoded h, fun _ => ⟨own, by rw [tberth, bentry], wants⟩⟩
        rw [tberth, bothers m hm, unticketed]; simp [hm]
      · rw [if_neg (mt test.1 hcoded)] at identity
        obtain ⟨ht, own, wants⟩ := reread identity
        rw [consumed] at ht
        have tberth : t.berth b = (s.berth b).untickets e.index := by rw [ht]; exact State.berth_setBerth _ b _
        have tother (o) (ho : o ≠ b) : t.berth o = s.berth o := by
          rw [ht]
          exact (State.berth_setBerth_ne ((s.gaveUp i k).setCoding rest) _ ho).trans (berth o)
        have tcoding : t.coding = rest := by rw [ht]; exact State.setBerth_coding _ _ _
        refine ⟨tcoding, tother, by rw [tberth]; rfl, by rw [tberth]; rfl, by rw [tberth]; rfl, fun m hm => ?_,
          fun _ => ⟨own, ?_, wants⟩, fun h => absurd h hcoded⟩
        · rw [tberth, unticketed]; simp [hm]
        · rw [tberth, unticketed, he]; simp

end Sys2Proof.Machine

/-! SUPPORT. Arming and firing (R125, R126). -/

namespace Sys2Proof.Machine

/-! ## Orders handed over one after the other -/

/-- R184: of orders handed over one after the other, those that still find a place are kept. -/
theorem append_take_room {α : Type} (n : Nat) (orders new : List α) (o : α) :
    (if (orders ++ new.take (n - orders.length)).length < n then orders ++ new.take (n - orders.length) ++ [o]
      else orders ++ new.take (n - orders.length)) = orders ++ (new ++ [o]).take (n - orders.length) := by
  rw [List.length_append, List.length_take]
  by_cases h : new.length < n - orders.length
  · rw [if_pos (by omega), List.take_of_length_le (by omega), List.take_of_length_le (by rw [List.length_append]; simpa using h),
      List.append_assoc]
  · rw [if_neg (by omega), List.take_append_of_le_length (by omega)]

theorem State.orders_handOver (s : State) (o : Order) :
    (s.handOver o).orders = if s.orders.length < 32 then s.orders ++ [o] else s.orders := by
  rw [State.handOver_eq, apply_ite State.orders]

/-! ## Arming -/

/-- Carrier `k` is armed at lane `j` by R125: CARRYING with the lane as its tentative target, at distance K - 1. -/
def State.arms (s : State) (j : LaneNo) (k : Nat) : Bool :=
  (s.carrier k).state == .carrying && (s.carrier k).target == some j && !(s.carrier k).armed
    && (s.lane j).offset.any fun d => s.loop.distance k d == s.loop.commit - 1

theorem State.arms_iff (s : State) (j : LaneNo) (k : Nat) :
    s.arms j k = true ↔ (s.carrier k).state = .carrying ∧ (s.carrier k).target = some j ∧ (s.carrier k).armed = false
      ∧ ∃ d, (s.lane j).offset = some d ∧ s.loop.distance k d = s.loop.commit - 1 := by
  simp [State.arms, Option.any_eq_true, and_assoc]

/-- The state with carrier `k` armed at lane `j`. -/
def State.armedAt (s : State) (j : LaneNo) (k : Nat) : State :=
  (s.setCarrier k { s.carrier k with armed := true }).setDiverter j
    { s.diverter j with queue := (s.diverter j).queue ++ [k] }

theorem State.armOne_test (s : State) (j : LaneNo) (k : Nat) (h : (s.carrier k).target = some j) :
    ((s.carrier k).isTentativeAt j && (s.lane j).offset.isSome && s.distanceTo k j == s.loop.commit - 1) = s.arms j k := by
  unfold State.arms State.distanceTo Carrier.isTentativeAt
  rw [h]
  cases (s.lane j).offset <;> simp

theorem State.armOne_of {s : State} {j : LaneNo} {k : Nat} (h : s.arms j k = true) : s.armOne k = s.armedAt j k := by
  have target := ((s.arms_iff j k).1 h).2.1
  unfold State.armOne
  split
  · next none => exact nomatch none.symm.trans target
  · next i some =>
    obtain rfl := Option.some.inj (some.symm.trans target)
    rw [s.armOne_test i k some, h]
    rfl

theorem State.armOne_of_not {s : State} {k : Nat} (h : ∀ j, s.arms j k = false) : s.armOne k = s := by
  unfold State.armOne
  split
  · rfl
  · next j target => rw [s.armOne_test j k target, h j]; rfl

theorem Mode.diverts_iff (m : Mode) : m.diverts = true ↔ m = .run ∨ m = .draining := by cases m <;> simp [Mode.diverts]

/-- What has been armed when the carriers `ms` have been looked at. -/
structure State.ArmedUpTo (s t : State) (ms : List Nat) : Prop where
  frame : s.changesOnly t [.carriers, .diverters]
  length : t.carriers.table.length = s.carriers.table.length
  loaded : t.carriers.loaded = s.carriers.loaded
  unverified : t.carriers.unverified = s.carriers.unverified
  carrier : ∀ k, t.carrier k = { s.carrier k with
    armed := (s.carrier k).armed || ms.contains k && allLanes.any fun j => s.arms j k }
  diverter : ∀ j, t.diverter j = { s.diverter j with queue := (s.diverter j).queue ++ ms.filter (s.arms j) }

theorem State.ArmedUpTo.step {s t : State} {ms : List Nat} {m : Nat} (h : s.ArmedUpTo t ms) (hm : m ∉ ms)
    (hlt : m < s.carriers.table.length) : s.ArmedUpTo (t.armOne m) (ms ++ [m]) := by
  have own : t.carrier m = s.carrier m := by
    rw [h.carrier, show ms.contains m = false by simpa using hm, Bool.false_and, Bool.or_false]
  have arms (j) : t.arms j m = s.arms j m := by
    unfold State.arms
    rw [own, State.lane_eq_of_lanes (h.frame .lanes (by simp)), show t.loop = s.loop from h.frame .loop (by simp)]
  by_cases ha : ∃ j, s.arms j m = true
  · obtain ⟨j, hj⟩ := ha
    have only (i) : s.arms i m = true ↔ i = j := by
      refine ⟨fun hi => ?_, fun hi => hi ▸ hj⟩
      have h1 := ((s.arms_iff i m).1 hi).2.1
      have h2 := ((s.arms_iff j m).1 hj).2.1
      exact Option.some.inj (h1.symm.trans h2)
    rw [State.armOne_of ((arms j).trans hj)]
    obtain ⟨length, loaded, unverified⟩ := t.counts_setCarrier_sameState (k := m)
      (c := { t.carrier m with armed := true }) rfl
    refine ⟨?_, length.trans h.length, loaded.trans h.loaded, unverified.trans h.unverified, fun k => ?_, fun i => ?_⟩
    · exact State.changesOnly_comp (State.changesOnly_comp h.frame (t.changesOnly_storeCarrier _ _)
        (rs := [.carriers, .diverters]) (by simp) (by simp)) (State.changesOnly_setDiverter _ j _) (by simp) (by simp)
    · show (t.setCarrier m { t.carrier m with armed := true }).carrier k = _
      by_cases hk : k = m
      · have some : (allLanes.any fun i => s.arms i m) = true := List.any_eq_true.2 ⟨j, mem_allLanes j, hj⟩
        rw [hk, State.carrier_setCarrier_same _ _ (h.length ▸ hlt), own, some]
        simp
      · rw [State.carrier_setCarrier_ne _ _ hk, h.carrier]
        simp [hk]
    · show ((t.setCarrier m _).setDiverter j _).diverter i = _
      by_cases hi : i = j
      · rw [hi, State.diverter_setDiverter, h.diverter, List.filter_append]
        simp [hj]
      · have no : s.arms i m = false := Bool.eq_false_iff.2 fun h => hi ((only i).1 h)
        rw [State.diverter_setDiverter_ne _ _ hi, List.filter_append]
        refine (h.diverter i).trans ?_
        simp [no]
  · have none (j) : s.arms j m = false := Bool.eq_false_iff.2 fun h => ha ⟨j, h⟩
    rw [State.armOne_of_not fun j => (arms j).trans (none j)]
    have nowhere : (allLanes.any fun j => s.arms j m) = false := by simp [none]
    refine ⟨h.frame, h.length, h.loaded, h.unverified, fun k => ?_, fun j => ?_⟩
    · rw [h.carrier]
      by_cases hk : k = m
      · rw [hk, nowhere]; simp
      · simp [hk]
    · rw [h.diverter, List.filter_append]
      simp [none]

theorem State.armedUpTo_forEach (s : State) (ms : List Nat) (hnodup : ms.Nodup) (hms : ∀ m ∈ ms, m < s.carriers.table.length) :
    s.ArmedUpTo (forEach ms (fun s k => s.armOne k) s) ms := by
  induction ms using List.reverseRecOn with
  | nil => exact ⟨s.changesOnly_refl _, rfl, rfl, rfl, fun k => by simp [forEach], fun j => by simp [forEach]⟩
  | append_singleton ms m ih =>
    rw [List.nodup_append] at hnodup
    obtain ⟨hnodup, -, apart⟩ := hnodup
    have step := (ih hnodup fun k hk => hms k (List.mem_append_left _ hk)).step (m := m)
      (fun h => apart m h m (List.mem_singleton.2 rfl) rfl) (hms m (List.mem_append_right _ (List.mem_singleton.2 rfl)))
    rw [forEach, List.foldl_append]
    exact step

theorem State.armAll_spec {s : State} (h : s.mode = .run ∨ s.mode = .draining) :
    s.ArmedUpTo s.armAll s.carrierNumbers := by
  rw [State.armAll, if_pos ((Mode.diverts_iff _).2 h)]
  exact s.armedUpTo_forEach _ List.nodup_range fun m hm => List.mem_range.1 hm

/-! ## Firing -/

/-- The head of a lane's armed queue, when it is at the lane's diverter (R126). -/
def State.toFire (s : State) (j : LaneNo) : Option Nat :=
  (s.diverter j).queue.head?.filter fun k => s.loop.distance k ((s.lane j).offset.getD 0) == 0

/-- The state with carrier `k` fired from the head of lane `j`'s queue. -/
def State.firedFrom (s : State) (j : LaneNo) (k : Nat) : State :=
  ((s.handOver (.fire j k)).setDiverter j { s.diverter j with queue := (s.diverter j).queue.tail }).setCarrier k
    { s.carrier k with state := .fired, armed := false }

theorem State.fireAt_none {s : State} {j : LaneNo} (h : s.toFire j = none) : s.fireAt j = s := by
  unfold State.fireAt
  split
  · rfl
  · next k rest hq =>
    unfold State.toFire at h
    rw [hq] at h
    exact if_neg (by simpa [Option.filter, State.distanceTo] using h)

theorem State.fireAt_some {s : State} {j : LaneNo} {k : Nat} (h : s.toFire j = some k) : s.fireAt j = s.firedFrom j k := by
  unfold State.toFire at h
  rw [Option.filter_eq_some_iff] at h
  obtain ⟨hq, hd⟩ := h
  obtain ⟨rest, hq⟩ := List.head?_eq_some_iff.1 hq
  have near : s.distanceTo k j = 0 := beq_iff_eq.1 hd
  have same : ((s.handOver (.fire j k)).setDiverter j { s.diverter j with queue := rest }).carrier k = s.carrier k :=
    s.carrier_handOver _ k
  unfold State.fireAt State.firedFrom
  rw [hq]
  dsimp only
  rw [if_pos near, same]
  rfl

/-- What has been fired when the lanes `js` have been looked at. -/
structure State.FiredUpTo (s t : State) (js : List LaneNo) : Prop where
  frame : s.changesOnly t [.carriers, .diverters, .orders]
  length : t.carriers.table.length = s.carriers.table.length
  loaded : t.carriers.loaded = s.carriers.loaded
  unverified : t.carriers.unverified = s.carriers.unverified
  carrier : ∀ k, t.carrier k = if js.any (fun j => s.toFire j == some k) then
    { s.carrier k with state := .fired, armed := false } else s.carrier k
  diverter : ∀ j, t.diverter j = { s.diverter j with
    queue := if j ∈ js ∧ s.toFire j ≠ none then (s.diverter j).queue.tail else (s.diverter j).queue }
  orders : t.orders = s.orders
    ++ (js.filterMap fun j => (s.toFire j).map fun k => Order.fire j k).take (32 - s.orders.length)

/-- Each queue holds carriers CARRYING to its lane. -/
def State.Queued (s : State) : Prop :=
  ∀ j, ∀ k ∈ (s.diverter j).queue, (s.carrier k).state = .carrying ∧ (s.carrier k).target = some j

theorem State.toFire_mem {s : State} {j : LaneNo} {k : Nat} (h : s.toFire j = some k) : k ∈ (s.diverter j).queue :=
  List.mem_of_head? (Option.filter_eq_some_iff.1 h).1

theorem State.FiredUpTo.step {s t : State} {js : List LaneNo} {j : LaneNo} (hq : s.Queued) (h : s.FiredUpTo t js)
    (hj : j ∉ js) : s.FiredUpTo (t.fireAt j) (js ++ [j]) := by
  have diverter : t.diverter j = s.diverter j := by rw [h.diverter, if_neg (hj ·.1)]
  have toFire : t.toFire j = s.toFire j := by
    unfold State.toFire
    rw [diverter, State.lane_eq_of_lanes (h.frame .lanes (by simp)), show t.loop = s.loop from h.frame .loop (by simp)]
  cases hf : s.toFire j with
  | none =>
    rw [State.fireAt_none (toFire.trans hf)]
    refine ⟨h.frame, h.length, h.loaded, h.unverified, fun k => ?_, fun i => ?_, ?_⟩
    · rw [h.carrier, List.any_append]
      simp [hf]
    · rw [h.diverter]
      by_cases hi : i = j
      · rw [hi]; simp [hf]
      · simp [hi]
    · rw [h.orders, List.filterMap_append]
      simp [hf]
  | some m =>
    obtain ⟨carrying, target⟩ := hq j m (State.toFire_mem hf)
    have apart (i) (hi : i ∈ js) : s.toFire i ≠ some m := fun hm => hj (by
      have other := (hq i m (State.toFire_mem hm)).2
      rwa [Option.some.inj (target.symm.trans other)])
    have own : t.carrier m = s.carrier m := by
      rw [h.carrier, if_neg]
      simpa using apart
    have inside : m < s.carriers.table.length := s.lt_of_carrier_ne fun he => by rw [he] at carrying; cases carrying
    rw [State.fireAt_some (toFire.trans hf), State.firedFrom, own, diverter]
    have carriers : ((t.handOver (.fire j m)).setDiverter j { s.diverter j with queue := (s.diverter j).queue.tail }).carriers
        = t.carriers := t.carriers_handOver _
    have orders : ((t.handOver (.fire j m)).setDiverter j { s.diverter j with queue := (s.diverter j).queue.tail }).orders
        = if t.orders.length < 32 then t.orders ++ [.fire j m] else t.orders := t.orders_handOver _
    have others (i) : (((t.handOver (.fire j m)).setDiverter j { s.diverter j with
        queue := (s.diverter j).queue.tail }).diverter i) = if i = j then { s.diverter j with
          queue := (s.diverter j).queue.tail } else t.diverter i := by
      by_cases hi : i = j
      · rw [hi, if_pos rfl, State.diverter_setDiverter]
      · rw [if_neg hi, State.diverter_setDiverter_ne _ _ hi, State.diverter_handOver]
    have frame : t.changesOnly ((t.handOver (.fire j m)).setDiverter j { s.diverter j with
        queue := (s.diverter j).queue.tail }) [.diverters, .orders] :=
      State.changesOnly_comp (t.changesOnly_handOver _) (State.changesOnly_setDiverter _ j _) (by simp) (by simp)
    generalize (t.handOver (.fire j m)).setDiverter j { s.diverter j with queue := (s.diverter j).queue.tail } = u
      at carriers orders others frame
    have inside' : m < u.carriers.table.length := by rw [carriers, h.length]; exact inside
    have old : u.carrier m = s.carrier m := (State.carrier_eq_of_carriers carriers m).trans own
    obtain ⟨length, loaded, unverified⟩ := State.counts_setCarrier inside' { s.carrier m with state := .fired, armed := false }
    rw [old, carriers] at loaded unverified
    rw [carriers] at length
    refine ⟨?_, length.trans h.length, ?_, ?_, fun k => ?_, fun i => ?_, ?_⟩
    · exact State.changesOnly_comp (State.changesOnly_comp h.frame frame (rs := [.carriers, .diverters, .orders]) (by simp)
        (by simp)) (u.changesOnly_storeCarrier _ _) (by simp) (by simp)
    · rw [loaded, ← h.loaded, Carrier.isLoaded, Carrier.isLoaded, carrying]; exact Nat.add_sub_cancel _ _
    · rw [unverified, ← h.unverified, Carrier.isUnverified, Carrier.isUnverified, carrying]; rfl
    · by_cases hk : k = m
      · rw [hk, State.carrier_setCarrier_same _ _ inside', if_pos]
        simp [hf]
      · rw [State.carrier_setCarrier_ne _ _ hk, State.carrier_eq_of_carriers carriers, h.carrier, List.any_append]
        simp [hf, Ne.symm hk]
    · refine (others i).trans ?_
      by_cases hi : i = j
      · rw [hi, if_pos rfl, if_pos ⟨by simp, by simp [hf]⟩]
      · rw [if_neg hi, h.diverter]
        simp [hi]
    · refine orders.trans ?_
      rw [h.orders, List.filterMap_append]
      simpa [hf] using append_take_room 32 s.orders _ (Order.fire j m)

theorem State.firedUpTo_forEach {s : State} (hq : s.Queued) (js : List LaneNo) (hnodup : js.Nodup) :
    s.FiredUpTo (forEach js (fun s j => s.fireAt j) s) js := by
  induction js using List.reverseRecOn with
  | nil => exact ⟨s.changesOnly_refl _, rfl, rfl, rfl, fun k => by simp [forEach], fun j => by simp [forEach], by simp [forEach]⟩
  | append_singleton js j ih =>
    rw [List.nodup_append] at hnodup
    obtain ⟨hnodup, -, apart⟩ := hnodup
    rw [forEach, List.foldl_append]
    exact (ih hnodup).step hq fun h => apart j h j (List.mem_singleton.2 rfl) rfl

/-- Settles O51. -/
theorem carriersAreArmedAndFired : Obligations.CarriersAreArmedAndFired := by
  refine ⟨fun s k j d rest => ?_, fun s h => ?_, fun s hq => ?_⟩
  · intro c
    refine ⟨fun h => ?_, fun hs ht ha ho hd => ?_, fun hn ht => ?_, fun ht ho hd => ?_, fun hq => ?_, fun hq ho => ⟨fun hd => ?_,
      fun hd => ?_⟩⟩
    · exact if_neg (by rw [Mode.diverts_iff]; rcases h with h | h | h <;> simp [h])
    · exact State.armOne_of ((s.arms_iff j k).2 ⟨hs, ht, ha, d, ho, hd⟩)
    · refine State.armOne_of_not fun i => Bool.eq_false_iff.2 fun h => ?_
      obtain ⟨hs, hi, ha, -⟩ := (s.arms_iff i k).1 h
      rcases ht with ht | ht
      · exact hn ⟨hs, ht, ha⟩
      · exact nomatch ht.symm.trans hi
    · refine State.armOne_of_not fun i => Bool.eq_false_iff.2 fun h => ?_
      obtain ⟨-, hi, -, e, he, hdist⟩ := (s.arms_iff i k).1 h
      obtain rfl := Option.some.inj (ht.symm.trans hi)
      obtain rfl := Option.some.inj (ho.symm.trans he)
      exact hd hdist
    · exact State.fireAt_none (by rw [State.toFire, hq]; rfl)
    · exact State.fireAt_none (by rw [State.toFire, hq, ho]; simp [Option.filter, hd])
    · have fires : s.toFire j = some k := by rw [State.toFire, hq, ho]; simp [Option.filter, hd]
      rw [State.fireAt_some fires, State.firedFrom, State.handOver_eq, hq]
      split <;> rfl
  · obtain ⟨frame, length, loaded, unverified, carrier, diverter⟩ := State.armAll_spec h
    refine ⟨frame, length, loaded, unverified, fun k => (carrier k).trans ?_, diverter⟩
    rcases Nat.lt_or_ge k s.carriers.table.length with hk | hk
    · rw [show s.carrierNumbers.contains k = true by simpa [State.carrierNumbers] using hk, Bool.true_and]
      rfl
    · have none (j) : s.arms j k = false := by
        rw [State.arms, s.carrier_of_ge hk]
        rfl
      rw [show s.carrierNumbers.contains k = false by simpa [State.carrierNumbers] using hk]
      have nowhere : (allLanes.any fun j => s.arms j k) = false := by simp [none]
      exact congrArg (fun b => { s.carrier k with armed := (s.carrier k).armed || b }) nowhere.symm
  · intro t head
    have heads (j) : head j = s.toFire j := rfl
    have fired : s.FiredUpTo t allLanes := State.firedUpTo_forEach hq allLanes nodup_allLanes
    simp only [heads]
    refine ⟨fired.frame, fired.length, fired.loaded, fired.unverified, fired.carrier, fun j => (fired.diverter j).trans ?_,
      fired.orders⟩
    by_cases hn : s.toFire j = none <;> simp [hn, mem_allLanes]

end Sys2Proof.Machine

/-! SUPPORT. What a window's outcome makes of its carrier (R82 to R87, Table 5-2). -/

namespace Sys2Proof.Machine

/-- Of two records stored for a carrier, the first in the state that it had, the second stands, and the counts with it. -/
theorem State.setCarrier_setCarrier_kept (s : State) (k : Nat) {a : Carrier} (h : a.state = (s.carrier k).state) (b : Carrier) :
    (s.setCarrier k a).setCarrier k b = s.setCarrier k b := by
  unfold State.setCarrier CarrierTable.store
  cases hk : s.carriers.table[k]? with
  | none =>
    rw [State.setCarriers_carriers, hk]
    rfl
  | some old =>
    have hlt : k < s.carriers.table.length := (List.getElem?_eq_some_iff.1 hk).1
    have hold : old = s.carrier k := Option.some.inj (hk.symm.trans (State.getElem?_carriers hlt))
    have hl : oneIf a.isLoaded = oneIf old.isLoaded := by rw [Carrier.isLoaded, Carrier.isLoaded, h, hold]
    have hu : oneIf a.isUnverified = oneIf old.isUnverified := by rw [Carrier.isUnverified, Carrier.isUnverified, h, hold]
    have hset : (s.carriers.table.set k a)[k]? = some a := by rw [List.getElem?_set_self hlt]
    simp only [State.setCarriers_carriers, hset, List.set_set, hl, hu, Nat.add_sub_cancel]
    rfl

theorem Carrier.awaitsRead_iff (c : Carrier) : c.awaitsRead = true ↔ c.state = .unread ∨ c.state = .unverified := by
  simp [Carrier.awaitsRead]

theorem State.takeOutcome_of {s : State} {k : Nat} (h : (s.carrier k).state = .unread ∨ (s.carrier k).state = .unverified)
    (o : ReadOutcome) : s.takeOutcome k o = match o with
      | .noRead => s.enterDisposition k (.stray .noRead)
      | .weak => s.enterDisposition k (.stray .weak)
      | .ambiguous => s.enterDisposition k (.stray .ambiguous)
      | .accepted t => s.takeAccepted k t :=
  if_pos ((Carrier.awaitsRead_iff _).2 h)

theorem State.takeOutcome_of_not {s : State} {k : Nat}
    (h : ¬((s.carrier k).state = .unread ∨ (s.carrier k).state = .unverified)) (o : ReadOutcome) : s.takeOutcome k o = s :=
  if_neg (mt (Carrier.awaitsRead_iff _).1 h)

/-! ## An accepted tag -/

theorem State.berthOfShip_none {s : State} {ship : Nat} (h : ∀ o, (s.berth o).state.ship ≠ some ship) :
    s.berthOfShip ship = none :=
  List.find?_eq_none.2 fun o _ => by rw [beq_iff_eq]; exact h o

theorem State.berthOfShip_some {s : State} {ship : Nat} {b : BerthId} (h : ∀ o, (s.berth o).state.ship = some ship ↔ o = b) :
    s.berthOfShip ship = some b := by
  cases hb : s.berthOfShip ship with
  | none => exact absurd (beq_iff_eq.2 ((h b).2 rfl)) (List.find?_eq_none.1 hb b (by cases b <;> simp [allBerths]))
  | some o => exact congrArg some ((h o).1 (by simpa using List.find?_some hb))

/-- The state in which the tag is the carrier's candidate (R83). -/
def State.read (s : State) (k : Nat) (t : Tag) : State := s.setCarrier k { s.carrier k with candidate := some t }

theorem State.takeAccepted_foreign {s : State} {t : Tag} (h : ∀ o, (s.berth o).state.ship ≠ some t.ship) (k : Nat) :
    s.takeAccepted k t = (s.read k t).enterDisposition k (.stray .foreign) := by
  have nowhere : (s.read k t).berthOfShip t.ship = none := State.berthOfShip_none h
  unfold State.takeAccepted
  dsimp only
  rw [← State.read, nowhere]

theorem State.takeAccepted_closing {s : State} {t : Tag} {b : BerthId} (h : ∀ o, (s.berth o).state.ship = some t.ship ↔ o = b)
    (hb : (s.berth b).state.isClosing = true) (k : Nat) :
    s.takeAccepted k t = (s.read k t).enterDisposition k (.stray .berthClosing) := by
  have found : (s.read k t).berthOfShip t.ship = some b := State.berthOfShip_some h
  unfold State.takeAccepted
  dsimp only
  rw [← State.read, found]
  exact if_pos hb

theorem State.takeAccepted_listed {s : State} {t : Tag} {b : BerthId} {e : Entry}
    (h : ∀ o, (s.berth o).state.ship = some t.ship ↔ o = b) (hb : (s.berth b).state.isClosing = false)
    (he : (s.berth b).findSerial t.serial = some e) (k : Nat) : s.takeAccepted k t = (s.read k t).takeListed k b e := by
  have found : (s.read k t).berthOfShip t.ship = some b := State.berthOfShip_some h
  have entry : ((s.read k t).berth b).findSerial t.serial = some e := he
  unfold State.takeAccepted
  dsimp only
  rw [← State.read, found]
  dsimp only
  rw [if_neg (by rw [show ((s.read k t).berth b).state.isClosing = false from hb]; simp), entry]

theorem State.takeAccepted_unlisted {s : State} {t : Tag} {b : BerthId}
    (h : ∀ o, (s.berth o).state.ship = some t.ship ↔ o = b) (hb : (s.berth b).state.isClosing = false)
    (he : (s.berth b).findSerial t.serial = none) (k : Nat) : s.takeAccepted k t = (s.read k t).takeUnlisted k b t.serial := by
  have found : (s.read k t).berthOfShip t.ship = some b := State.berthOfShip_some h
  have entry : ((s.read k t).berth b).findSerial t.serial = none := he
  unfold State.takeAccepted
  dsimp only
  rw [← State.read, found]
  dsimp only
  rw [if_neg (by rw [show ((s.read k t).berth b).state.isClosing = false from hb]; simp), entry]

theorem State.takeListed_repeated {s : State} {e : Entry} (h1 : e.state ≠ .onLoop) (h2 : e.state ≠ .expected) (k : Nat)
    (b : BerthId) : s.takeListed k b e = s.enterDisposition k (.stray .repeated) := by
  unfold State.takeListed
  cases h : e.state
  case expected => exact absurd h h2
  case onLoop => exact absurd h h1
  all_goals rfl

/-- R87: a carrier whose tag may still be loaded waits. -/
theorem State.joinPending_read {s : State} {k : Nat} (hk : k < s.carriers.table.length) (t : Tag) (b : BerthId) :
    (s.read k t).joinPending k b t.serial = State.post
      { s.setCarrier k { s.carrier k with candidate := some t } with
        router := { s.router with pendingTags := s.router.pendingTags ++ [⟨b, t.serial, k⟩] }
        carriers := (s.setCarrier k { s.carrier k with candidate := some t, state := .waiting, laps := 0 }).carriers }
      (.berth b) (.tagPending t.serial k s.router.waitLimit) := by
  have own (x : Router) : ((s.read k t).setRouter x).carrier k = { s.carrier k with candidate := some t } :=
    s.carrier_setCarrier_same _ hk
  have stored := s.setCarrier_setCarrier_kept k (a := { s.carrier k with candidate := some t }) rfl
    { s.carrier k with candidate := some t, state := .waiting, laps := 0 }
  rw [← stored]
  unfold State.joinPending
  dsimp only
  rw [own]
  rfl

/-- R84 for an accepted tag: the carrier's record stored once, its disposition, and the entry. -/
theorem State.matchEntry_read {s : State} {k : Nat} (hk : k < s.carriers.table.length) (t : Tag) (d : Identity) :
    (s.read k t).matchEntry k d
      = ((s.setCarrier k { s.carrier k with candidate := some t, identity := some d }).enterDisposition k
        (s.matchDisposition d)).setBerth d.berth ((s.berth d.berth).setEntryState d.entry .onLoop none) := by
  have own : (s.read k t).carrier k = { s.carrier k with candidate := some t } := s.carrier_setCarrier_same _ hk
  have same : (s.read k t).matchDisposition d = s.matchDisposition d := rfl
  have stored := s.setCarrier_setCarrier_kept k (a := { s.carrier k with candidate := some t }) rfl
    { s.carrier k with candidate := some t, identity := some d }
  rw [← stored, State.matchEntry_eq, own, same]
  rfl

/-- Settles O55. -/
theorem readsGiveDispositions : Obligations.ReadsGiveDispositions := by
  intro s k t b e x c accepted read awaits names listed known
  have taken (h : awaits) : accepted = s.takeAccepted k t := State.takeOutcome_of h (.accepted t)
  refine ⟨fun h o => State.takeOutcome_of_not h o, fun h => ⟨State.takeOutcome_of h .noRead, State.takeOutcome_of h .weak,
    State.takeOutcome_of h .ambiguous⟩, fun h hs => (taken h).trans (State.takeAccepted_foreign hs k), fun h hs hb => ?_,
    fun h hs hb => ?_⟩
  · exact (taken h).trans (State.takeAccepted_closing hs (by rw [hb]; rfl) k)
  · have open_ : (s.berth b).state.isClosing = false := by rw [hb]; rfl
    have hk : k < s.carriers.table.length := s.lt_of_carrier_ne fun he => by
      have hc : c.state = .empty := congrArg Carrier.state he
      rcases h with h | h <;> exact nomatch h.symm.trans hc
    have inList (he : known) := (taken h).trans (State.takeAccepted_listed hs open_ he k)
    have offList (he : (s.berth b).findSerial t.serial = none) :=
      (taken h).trans (State.takeAccepted_unlisted hs open_ he k)
    refine ⟨fun he hst => ?_, fun he h1 h2 => ?_, fun he hst hi hx => ?_, fun he hl => ?_, fun he hl hw => ?_,
      fun he hl hw hp => ?_⟩
    · refine (inList he).trans ?_
      rw [State.takeListed, hst]
      rfl
    · exact (inList he).trans (State.takeListed_repeated h1 h2 k b)
    · intro matched
      have disposition : s.matchDisposition ⟨b, e.index⟩ = if x.held then .hold else .delivery :=
        State.matchDisposition_of ((State.cabinOf_eq (d := ⟨b, e.index⟩) hi).trans hx)
      have eqn : accepted = matched.setBerth b ((s.berth b).setEntryState e.index .onLoop none) := by
        refine (inList he).trans (Eq.trans ?_ ((State.matchEntry_read hk t ⟨b, e.index⟩).trans (by rw [disposition])))
        rw [State.takeListed, hst]
      obtain ⟨frame, -, -, others, own⟩ := State.disposes_enterDisposition
        (s.setCarrier k { c with candidate := some t, identity := some ⟨b, e.index⟩ }) (k := k)
        (if x.held then .hold else .delivery) (by rwa [State.setCarrier, State.setCarriers_carriers, CarrierTable.store_length])
      have own := own k (by simp)
      rw [State.carrier_setCarrier_same _ _ hk] at own
      have others (m) (hm : m ≠ k) : matched.carrier m = s.carrier m :=
        (others m (by simpa using hm)).trans (State.carrier_setCarrier_ne _ _ hm)
      have mframe : s.changesOnly matched [.carriers, .lanes] :=
        State.changesOnly_comp (s.changesOnly_storeCarrier _ _) frame (by simp) (by simp)
      have berth (o) : matched.berth o = s.berth o := State.berth_eq_of_berths (mframe .berths (by simp)) o
      have carriers : accepted.carriers = matched.carriers := by rw [eqn, State.setBerth_carriers]
      obtain ⟨state, decks, cabins, kept, entry⟩ := Berth.matched_spec hi (by rw [hst]; simp)
      have tberth : accepted.berth b = (s.berth b).setEntryState e.index .onLoop none := by rw [eqn, State.berth_setBerth]
      refine ⟨?_, carriers, by rw [eqn, State.setBerth_lanes], fun o ho => ?_, by rw [tberth, state], by rw [tberth, decks],
        by rw [tberth, cabins], fun n hn => by rw [tberth, kept n hn], by rw [tberth, entry], fun m hm => ?_, ?_⟩
      · rw [eqn]
        exact State.changesOnly_comp mframe (State.changesOnly_setBerth _ b _) (by simp) (by simp)
      · rw [eqn, State.berth_setBerth_ne _ _ ho, berth]
      · rw [State.carrier_eq_of_carriers carriers, others m hm]
      · rw [State.carrier_eq_of_carriers carriers]
        exact own
    · exact (offList he).trans (if_pos hl)
    · refine (offList he).trans ((if_neg (Bool.eq_false_iff.1 hl)).trans (if_neg fun hc => ?_))
      rcases hw with hw | hw
      · exact absurd hw hc.1.ne'
      · exact absurd hc.2 (not_lt.2 hw)
    · refine (offList he).trans ((if_neg (Bool.eq_false_iff.1 hl)).trans ((if_pos ⟨hw, hp⟩).trans ?_))
      exact State.joinPending_read hk t b

end Sys2Proof.Machine

/-! SUPPORT. How a bag with an identity leaves its berth, and how it becomes a stray (R56, R58, R101). -/

namespace Sys2Proof.Machine

/-- Carrier `k` holds the last bag of a CLOSING berth (R56). -/
def State.holdsLastOf (s : State) (k : Nat) (b : BerthId) : Prop :=
  (s.berth b).state.isClosing = true ∧ (∀ m, m ≠ k → (s.carrier m).isOf b = false) ∧ ∀ r ∈ s.router.pendingTags, r.berth ≠ b

/-- R56, R58: the test of a berth's closing after the bag of carrier `k` has left it. -/
theorem State.testClosing_left {s u : State} {k : Nat} {b : BerthId} (hc : ∀ m, m ≠ k → u.carrier m = s.carrier m)
    (hk : (u.carrier k).identity = none) (hr : u.router = s.router) (hb : (u.berth b).state = (s.berth b).state) :
    (¬s.holdsLastOf k b → u.testClosing b = u)
      ∧ (s.holdsLastOf k b → u.testClosing b = (u.perBerthClear b).postHallAnd b (.berthState b .unbound false)) := by
  have test : ((u.berth b).state.isClosing = true ∧ u.holdsBags b = false) ↔ s.holdsLastOf k b := by
    rw [State.holdsBags_of_disowned hc hk hr, hb]
    exact Iff.rfl
  exact ⟨fun h => State.testClosing_of_not (mt test.1 h), fun h => State.testClosing_of (test.2 h).1 (test.2 h).2⟩

/-- A berth that was cleared stays so while berths and lists stay as they are, and lanes but for inbounds. -/
theorem State.berthCleared_of_same {s t u : State} {b : BerthId} (h : s.berthCleared t b) (hb : u.berths = t.berths)
    (hc : u.coding = t.coding) (hl : ∀ j, (t.lane j).rebooked (u.lane j)) : s.berthCleared u b := by
  obtain ⟨own, other, coding, lanes⟩ := h
  have berths := State.berth_eq_of_berths hb
  exact ⟨(berths b).trans own, fun o ho => (berths o).trans (other o ho), hc.trans coding,
    fun j => Lane.rebooked_trans (lanes j) (hl j)⟩

/-- A berth that was cleared stays so while carriers are chosen for, and notices are posted. -/
theorem State.berthCleared_retarget {s t u : State} {b : BerthId} (h : s.berthCleared t b)
    (hf : t.changesOnly u [.carriers, .lanes, .principals]) (hl : ∀ j, (t.lane j).rebooked (u.lane j)) : s.berthCleared u b :=
  State.berthCleared_of_same h (hf .berths (by simp)) (hf .coding (by simp)) hl

/-- What the test does once a bag has left: nothing, or the berth's clear with its notices. -/
theorem State.testClosing_left_spec {s u : State} {k : Nat} {b : BerthId} (hc : ∀ m, m ≠ k → u.carrier m = s.carrier m)
    (hk : (u.carrier k).identity = none) (hr : u.router = s.router) (hb : (u.berth b).state = (s.berth b).state)
    (hothers : ∀ o, o ≠ b → u.berth o = s.berth o) (hcoding : u.coding = s.coding) :
    u.changesOnly (u.testClosing b) [.berths, .coding, .lanes, .principals] ∧ (¬s.holdsLastOf k b → u.testClosing b = u)
      ∧ (s.holdsLastOf k b → (∀ l : State, l.berths = s.berths → l.coding = s.coding →
          (∀ j, (l.lane j).rebooked (u.lane j)) → l.berthCleared (u.testClosing b) b)
        ∧ (u.testClosing b).principals = (u.postHallAnd b (.berthState b .unbound false)).principals) := by
  obtain ⟨stays, leaves⟩ := State.testClosing_left hc hk hr hb
  refine ⟨(u.testClosing_spec b rfl).1, stays, fun h => ?_⟩
  rw [leaves h]
  have cleared := u.changesOnly_perBerthClear b
  refine ⟨fun l hlb hlc hl => ?_, State.principals_postHallAnd (cleared .principals (by simp)) (cleared .loop (by simp)) _ _⟩
  refine State.berthCleared_of_frame (State.berthCleared_of (fun o ho => ?_) (hcoding.trans hlc.symm) hl)
    (State.changesOnly_postHallAnd _ _ _)
  rw [hothers o ho, State.berth_eq_of_berths hlb]

/-! ## The entry of a bag that leaves the loop -/

/-- A dropped identity: its carrier's record, and its entry (R10). -/
theorem State.dropIdentity_leaves {s : State} {k : Nat} {d : Identity} (hk : k < s.carriers.table.length)
    (hd : (s.carrier k).identity = some d) (st : EntryState) :
    s.changesOnly (s.dropIdentity k st) [.carriers, .berths]
      ∧ (s.dropIdentity k st).carriers = (s.setCarrier k { s.carrier k with identity := none }).carriers
      ∧ (s.dropIdentity k st).carrier k = { s.carrier k with identity := none }
      ∧ (∀ m, m ≠ k → (s.dropIdentity k st).carrier m = s.carrier m)
      ∧ (s.dropIdentity k st).berth d.berth = (s.berth d.berth).setEntryState d.entry st none
      ∧ ∀ o, o ≠ d.berth → (s.dropIdentity k st).berth o = s.berth o := by
  rw [State.dropIdentity_some hd, State.setEntryState]
  have carriers := (s.setCarrier k { s.carrier k with identity := none }).setBerth_carriers d.berth
    (((s.setCarrier k { s.carrier k with identity := none }).berth d.berth).setEntryState d.entry st none)
  refine ⟨State.changesOnly_comp (s.changesOnly_storeCarrier _ _) (State.changesOnly_setBerth _ _ _) (by simp) (by simp),
    carriers, ?_, fun m hm => ?_, State.berth_setBerth _ _ _, fun o ho => State.berth_setBerth_ne _ _ ho⟩
  · rw [State.carrier_eq_of_carriers carriers, State.carrier_setCarrier_same _ _ hk]
  · rw [State.carrier_eq_of_carriers carriers, State.carrier_setCarrier_ne _ _ hm]

/-! ## Strays -/

/-- The state in which BAG STRAYED has been posted (R101). -/
def State.bagStrayed (s : State) (k : Nat) (r : StrayReason) (d : Identity) (e : Entry) : State :=
  s.post (.berth d.berth) (.bagStrayed e.cabin e.index e.serial r k)

theorem State.becomeStray_some {s : State} {k : Nat} {d : Identity} {e : Entry} (hd : (s.carrier k).identity = some d)
    (he : s.entryOf d = some e) (r : StrayReason) :
    s.becomeStray k r
      = (((s.dropIdentity k .strayed).bagStrayed k r d e).testClosing d.berth).enterDisposition k (.stray r) := by
  simp only [State.becomeStray, hd, he]
  rfl

/-- What a bag with an identity makes of the state when it becomes a stray, with or without its choice (R101). -/
structure State.BecomesStray (s t : State) (k : Nat) (r : StrayReason) (d : Identity) (e : Entry) : Prop where
  frame : s.changesOnly t [.carriers, .lanes, .berths, .coding, .principals]
  length : t.carriers.table.length = s.carriers.table.length
  others : ∀ m, m ≠ k → t.carrier m = s.carrier m
  own : Carrier.entered { s.carrier k with identity := none } (t.carrier k) (.stray r)
  stays : ¬s.holdsLastOf k d.berth → t.berth d.berth = (s.berth d.berth).setEntryState d.entry .strayed none
    ∧ (∀ o, o ≠ d.berth → t.berth o = s.berth o) ∧ t.coding = s.coding ∧ (∀ j, (s.lane j).rebooked (t.lane j))
    ∧ t.principals = (s.bagStrayed k r d e).principals
  leaves : s.holdsLastOf k d.berth → s.berthCleared t d.berth
    ∧ t.principals = ((s.bagStrayed k r d e).postHallAnd d.berth (.berthState d.berth .unbound false)).principals

/-- Choices made afterwards leave it so. -/
theorem State.BecomesStray.retarget {s t u : State} {k : Nat} {r : StrayReason} {d : Identity} {e : Entry}
    (h : s.BecomesStray t k r d e) (hu : t.retargets u [k]) : s.BecomesStray u k r d e := by
  obtain ⟨frame, rebooked, length, -, -, these, others⟩ := hu
  have principals : u.principals = t.principals := frame .principals (by simp)
  refine ⟨State.changesOnly_comp h.frame frame (by simp) (by simp), length.trans h.length,
    fun m hm => (others m (by simpa using hm)).trans (h.others m hm), ?_, fun hl => ?_, fun hl => ?_⟩
  · have own := h.own
    have own' := these k
    unfold Carrier.entered at own ⊢
    unfold Carrier.retargeted at own'
    rw [own', own]
  · obtain ⟨berth, berths, coding, lanes, posted⟩ := h.stays hl
    have same := State.berth_eq_of_berths (frame .berths (by simp))
    exact ⟨(same _).trans berth, fun o ho => (same o).trans (berths o ho), (frame .coding (by simp)).trans coding,
      fun j => Lane.rebooked_trans (lanes j) (rebooked j), principals.trans posted⟩
  · obtain ⟨cleared, posted⟩ := h.leaves hl
    exact ⟨State.berthCleared_retarget cleared (State.changesOnly_mono frame (by simp)) rebooked, principals.trans posted⟩

/-- R101: a bag with an identity becomes a stray. -/
theorem State.becomeStray_spec {s : State} {k : Nat} {d : Identity} {e : Entry} (hk : k < s.carriers.table.length)
    (hd : (s.carrier k).identity = some d) (he : s.entryOf d = some e) (r : StrayReason) :
    s.BecomesStray (s.becomeStray k r) k r d e := by
  rw [State.becomeStray_some hd he]
  obtain ⟨dropped, dcarriers, down, dothers, dberth, dberths⟩ := State.dropIdentity_leaves hk hd .strayed
  have posted : (s.dropIdentity k .strayed).changesOnly ((s.dropIdentity k .strayed).bagStrayed k r d e) [.principals] :=
    State.changesOnly_post _ _ _
  have told : ((s.dropIdentity k .strayed).bagStrayed k r d e).principals = (s.bagStrayed k r d e).principals :=
    State.principals_post (dropped .principals (by simp)) (dropped .loop (by simp)) _ _
  have uframe : s.changesOnly ((s.dropIdentity k .strayed).bagStrayed k r d e) [.carriers, .berths, .principals] :=
    State.changesOnly_comp dropped posted (by simp) (by simp)
  have same := State.berth_eq_of_berths (posted .berths (by simp))
  have carriers := (posted .carriers (by simp)).trans dcarriers
  have uown := (State.carrier_eq_of_carriers (posted .carriers (by simp)) k).trans down
  have uothers (m) (hm : m ≠ k) := (State.carrier_eq_of_carriers (posted .carriers (by simp)) m).trans (dothers m hm)
  have uberth := (same d.berth).trans dberth
  have uberths (o) (ho : o ≠ d.berth) := (same o).trans (dberths o ho)
  generalize (s.dropIdentity k .strayed).bagStrayed k r d e = u at told uframe carriers uown uothers uberth uberths
  have rebooked (j) : (s.lane j).rebooked (u.lane j) := by
    rw [State.lane_eq_of_lanes (uframe .lanes (by simp))]
    exact Lane.rebooked_refl _
  obtain ⟨tframe, stays, leaves⟩ := State.testClosing_left_spec uothers (by rw [uown]) (uframe .router (by simp))
    (by rw [uberth, Berth.state_setEntryState]) uberths (uframe .coding (by simp))
  have tcarriers : (u.testClosing d.berth).carriers = u.carriers := tframe .carriers (by simp)
  have inside : k < (u.testClosing d.berth).carriers.table.length := by
    rw [tcarriers, carriers, State.setCarrier, State.setCarriers_carriers, CarrierTable.store_length]
    exact hk
  obtain ⟨eframe, erebooked, elength, eothers, eown⟩ := (u.testClosing d.berth).disposes_enterDisposition (.stray r) inside
  have same (m) := State.carrier_eq_of_carriers tcarriers m
  have eown := eown k (by simp)
  rw [same, uown] at eown
  have eprincipals : ((u.testClosing d.berth).enterDisposition k (.stray r)).principals = (u.testClosing d.berth).principals :=
    eframe .principals (by simp)
  have eberth := State.berth_eq_of_berths (eframe .berths (by simp))
  refine ⟨State.changesOnly_comp (State.changesOnly_comp uframe tframe
    (rs := [.carriers, .berths, .principals, .coding, .lanes]) (by simp) (by simp)) eframe (by simp) (by simp),
    elength.trans (by rw [tcarriers, carriers, State.setCarrier, State.setCarriers_carriers, CarrierTable.store_length]),
    fun m hm => ((eothers m (by simpa using hm)).trans (same m)).trans (uothers m hm), eown, fun h => ?_, fun h => ?_⟩
  · rw [stays h] at eberth erebooked eframe eprincipals ⊢
    exact ⟨(eberth _).trans uberth, fun o ho => (eberth o).trans (uberths o ho),
      (eframe .coding (by simp)).trans (uframe .coding (by simp)), fun j => Lane.rebooked_trans (rebooked j) (erebooked j),
      eprincipals.trans told⟩
  · obtain ⟨cleared, posted⟩ := leaves h
    refine ⟨State.berthCleared_retarget (cleared s rfl rfl rebooked) (State.changesOnly_mono eframe (by simp)) erebooked,
      eprincipals.trans (posted.trans (State.principals_postHallAnd told ?_ _ _))⟩
    exact (uframe .loop (by simp)).trans (s.changesOnly_post _ _ .loop (by simp)).symm

end Sys2Proof.Machine

/-! SUPPORT. Laps and their limits (R97, R98). -/

namespace Sys2Proof.Machine

/-! ## Laps counted -/

/-- R97: the laps of the carriers of a list have risen by one, to 15 at most. -/
theorem State.forEach_countLap (s : State) (ks : List Nat) (hn : ks.Nodup) (hk : ∀ k ∈ ks, k < s.carriers.table.length) :
    s.changesOnly (forEach ks (fun s k => s.countLap k) s) [.carriers]
      ∧ (forEach ks (fun s k => s.countLap k) s).carriers.table.length = s.carriers.table.length
      ∧ ∀ m, (forEach ks (fun s k => s.countLap k) s).carrier m
        = if m ∈ ks then { s.carrier m with laps := min 15 ((s.carrier m).laps + 1) } else s.carrier m := by
  induction ks using List.reverseRecOn with
  | nil => exact ⟨s.changesOnly_refl _, rfl, fun m => by simp [forEach]⟩
  | append_singleton ks k ih =>
    rw [List.nodup_append] at hn
    obtain ⟨hn, -, apart⟩ := hn
    have hnot : k ∉ ks := fun h => apart k h k (List.mem_singleton.2 rfl) rfl
    obtain ⟨frame, length, carrier⟩ := ih hn fun m hm => hk m (List.mem_append_left _ hm)
    rw [forEach, List.foldl_append, ← forEach]
    have inside : k < (forEach ks (fun s k => s.countLap k) s).carriers.table.length := by
      rw [length]
      exact hk k (List.mem_append_right _ (List.mem_singleton.2 rfl))
    refine ⟨State.changesOnly_trans frame (State.changesOnly_storeCarrier _ _ _),
      (CarrierTable.store_length _ _ _).trans length, fun m => ?_⟩
    show ((forEach ks (fun s k => s.countLap k) s).countLap k).carrier m = _
    by_cases hm : m = k
    · rw [hm, if_pos (List.mem_append_right _ (List.mem_singleton.2 rfl))]
      refine (State.carrier_setCarrier_same _ _ inside).trans ?_
      rw [carrier, if_neg hnot]
      rfl
    · refine (State.carrier_setCarrier_ne _ _ hm).trans ((carrier m).trans ?_)
      simp [hm]

theorem State.expireWait_test (s : State) (k : Nat) :
    ((s.carrier k).state == .waiting && decide (s.router.waitLimit ≤ (s.carrier k).laps)) = true
      ↔ (s.carrier k).state = .waiting ∧ s.router.waitLimit ≤ (s.carrier k).laps := by
  rw [Bool.and_eq_true, beq_iff_eq, decide_eq_true_eq]

theorem State.strayAtLimit_test (s : State) (k : Nat) :
    ((s.carrier k).isUntargeted && decide (s.router.lapLimit ≤ (s.carrier k).laps)) = true
      ↔ (s.carrier k).state = .carrying ∧ (s.carrier k).target = none ∧ s.router.lapLimit ≤ (s.carrier k).laps := by
  rw [Bool.and_eq_true, Carrier.isUntargeted_iff, decide_eq_true_eq, and_assoc]

/-! ## The limits as rows of their own -/

theorem exec_waitExpiry (s : State) (k : Nat) :
    exec (.waitExpiry k) s = .next (if (s.mode = .run ∨ s.mode = .draining) ∧ (s.carrier k).state = .waiting
        ∧ s.router.waitLimit ≤ (s.carrier k).laps then (s.expireWait k).chooseTarget k else s) := by
  show execWaitExpiry k s = _
  unfold execWaitExpiry
  simp only [Bool.and_eq_true, Mode.diverts_iff, beq_iff_eq, decide_eq_true_eq, and_assoc]

theorem exec_lapLimit (s : State) (k : Nat) :
    exec (.lapLimit k) s = .next (if (s.mode = .run ∨ s.mode = .draining) ∧ (s.carrier k).state = .carrying
        ∧ (s.carrier k).target = none ∧ (s.carrier k).strayReason = none ∧ s.router.lapLimit ≤ (s.carrier k).laps
      then (s.strayAtLimit k).chooseTarget k else s) := by
  show execLapLimit k s = _
  unfold execLapLimit
  simp only [Bool.and_eq_true, Mode.diverts_iff, Carrier.isUntargeted_iff, decide_eq_true_eq, and_assoc, Option.isNone_iff_eq_none]

/-! ## The pending list and the choice -/

theorem State.enterDisposition_setRouter (s : State) (x : Router) (k : Nat) (d : Disposition) :
    (s.setRouter x).enterDisposition k d = (s.enterDisposition k d).setRouter x := by
  have target : (s.setRouter x).dropTarget k = (s.dropTarget k).setRouter x := by
    cases h : (s.carrier k).target with
    | none => rw [State.dropTarget_none h, State.dropTarget_none (s := s.setRouter x) h]
    | some j => rw [State.dropTarget_some h, State.dropTarget_some (s := s.setRouter x) h]; rfl
  rw [State.enterDisposition, target]
  rfl

theorem State.chooseTarget_setRouter (s : State) (x : Router) (k : Nat) :
    (s.setRouter x).chooseTarget k = (s.chooseTarget k).setRouter x := by
  have best : (s.setRouter x).bestLane k = s.bestLane k := rfl
  rw [State.chooseTarget, State.chooseTarget, best, apply_ite (State.setRouter · x)]
  cases s.bestLane k <;> rfl

/-- R98: a WAITING carrier at its limit. -/
theorem State.expireWait_of {s : State} {k : Nat} (h : (s.carrier k).state = .waiting)
    (hl : s.router.waitLimit ≤ (s.carrier k).laps) :
    s.expireWait k = (s.enterDisposition k (.stray .unknown)).setRouter
      { s.router with pendingTags := s.router.pendingTags.filter fun r => r.carrier != k } :=
  (if_pos ((s.expireWait_test k).2 ⟨h, hl⟩)).trans (State.enterDisposition_setRouter s _ k _)

theorem State.strayAtLimit_of {s : State} {k : Nat} (h : (s.carrier k).state = .carrying) (ht : (s.carrier k).target = none)
    (hl : s.router.lapLimit ≤ (s.carrier k).laps) :
    ((s.carrier k).disposition = some .delivery → s.strayAtLimit k = s.becomeStray k .noRoom)
      ∧ ((s.carrier k).disposition = some .hold → s.strayAtLimit k = s.becomeStray k .held) := by
  refine ⟨fun hd => (if_pos ((s.strayAtLimit_test k).2 ⟨h, ht, hl⟩)).trans ?_,
    fun hd => (if_pos ((s.strayAtLimit_test k).2 ⟨h, ht, hl⟩)).trans ?_⟩
  · rw [hd]
  · rw [hd]

theorem State.strayAtLimit_of_not {s : State} {k : Nat}
    (h : ¬(((s.carrier k).state = .carrying ∧ (s.carrier k).target = none ∧ s.router.lapLimit ≤ (s.carrier k).laps)
      ∧ ((s.carrier k).disposition = some .delivery ∨ (s.carrier k).disposition = some .hold))) : s.strayAtLimit k = s := by
  unfold State.strayAtLimit
  split
  · next ht =>
    have limit := (s.strayAtLimit_test k).1 ht
    split
    · next hd => exact absurd ⟨limit, .inl hd⟩ h
    · next hd => exact absurd ⟨limit, .inr hd⟩ h
    · rfl
  · rfl

theorem Carrier.strayReason_of {c : Carrier} :
    (c.disposition = some .delivery ∨ c.disposition = some .hold → c.strayReason = none)
      ∧ ∀ r, c.disposition = some (.stray r) → c.strayReason = some r := by
  unfold Carrier.strayReason
  exact ⟨by rintro (h | h) <;> rw [h], fun r h => by rw [h]⟩

/-- Settles O56. -/
theorem lapLimitsMakeStrays : Obligations.LapLimitsMakeStrays := by
  refine ⟨fun s k before => ?_, fun s k d e => ?_⟩
  · intro c counting t atLimit expired gone
    refine ⟨fun h => if_neg (mt (Mode.diverts_iff _).1 h), fun h => if_pos ((Mode.diverts_iff _).2 h), fun hn hk => ?_,
      fun h => (if_pos ((s.expireWait_test k).2 h)), fun h => if_neg (mt (s.expireWait_test k).1 h),
      fun h => (State.strayAtLimit_of h.1 h.2.1 h.2.2).1, fun h => (State.strayAtLimit_of h.1 h.2.1 h.2.2).2,
      fun h => State.strayAtLimit_of_not h, fun hm h => ?_, fun hm h hd => ?_⟩
    · obtain ⟨frame, -, carrier⟩ := s.forEach_countLap before hn hk
      exact ⟨frame, carrier⟩
    · rw [exec_waitExpiry, if_pos ⟨hm, h⟩]
    · rw [exec_lapLimit, if_pos ⟨hm, h.1, h.2.1, Carrier.strayReason_of.1 hd, h.2.2⟩]
  · intro c counting expired limited ready becomes
    have becoming {r : StrayReason} {p : Disposition} (hp : p = .delivery ∨ p = .hold) (h : limited p)
        (hd : c.identity = some d) (he : s.entryOf d = some e) (hs : s.strayAtLimit k = s.becomeStray k r) : becomes r := by
      obtain ⟨hm, hc, ht, hl, hdisp⟩ := h
      have hk : k < s.carriers.table.length := s.lt_of_carrier_ne fun he => by
        exact nomatch hc.symm.trans (congrArg Carrier.state he)
      have reason : c.strayReason = none := Carrier.strayReason_of.1 (by rcases hp with rfl | rfl <;> simp [hdisp])
      have strays := (State.becomeStray_spec hk hd he r).retarget (State.retargets_chooseTarget _ k)
      refine ⟨_, ?_, strays.frame, strays.others, strays.own, rfl, rfl, strays.stays, strays.leaves⟩
      rw [exec_lapLimit, if_pos ⟨hm, hc, ht, reason, hl⟩, hs]
    refine ⟨fun h => ?_, fun h => ?_, fun h1 h2 h3 h4 => ?_, fun r h => ?_, fun h hd he => ?_, fun h hd he => ?_⟩
    · rw [exec_waitExpiry, if_neg h]
    · obtain ⟨hm, hc, hl⟩ := h
      have hk : k < s.carriers.table.length := s.lt_of_carrier_ne fun he => by
        exact nomatch hc.symm.trans (congrArg Carrier.state he)
      obtain ⟨frame, rebooked, enter⟩ := s.disposes_giveDisposition (.stray .unknown) hk
      refine ⟨(s.giveDisposition k (.stray .unknown)).setRouter
          { s.router with pendingTags := s.router.pendingTags.filter fun r => r.carrier != k }, ?_, ?_, rfl, rfl, rfl, enter, rebooked⟩
      · rw [exec_waitExpiry, if_pos ⟨hm, hc, hl⟩, State.expireWait_of hc hl, State.chooseTarget_setRouter]
        rfl
      · exact State.changesOnly_comp frame (State.changesOnly_setRouter _ _) (by simp) (by simp)
    · rw [exec_lapLimit, if_neg]
      rintro ⟨hm, hc, ht, -, hl⟩
      cases hd : c.disposition with
      | none => exact h4 hd
      | some p =>
        cases p with
        | delivery => exact h1 ⟨hm, hc, ht, hl, hd⟩
        | hold => exact h2 ⟨hm, hc, ht, hl, hd⟩
        | stray r => exact h3 r hd
    · rw [exec_lapLimit, if_neg]
      rintro ⟨-, -, -, hr, -⟩
      exact nomatch hr.symm.trans (Carrier.strayReason_of.2 r h)
    · exact becoming (.inl rfl) h hd he ((State.strayAtLimit_of h.2.1 h.2.2.1 h.2.2.2.1).1 h.2.2.2.2)
    · exact becoming (.inr rfl) h hd he ((State.strayAtLimit_of h.2.1 h.2.2.1 h.2.2.2.1).2 h.2.2.2.2)

end Sys2Proof.Machine

/-! SUPPORT. Diverts done: arrivals with and without an identity (R76 to R78, R127 to R129, R138, R139). -/

namespace Sys2Proof.Machine

theorem State.changesOnly_setEntryState (s : State) (b : BerthId) (i : Nat) (st : EntryState) (t : Option Nat) :
    s.changesOnly (s.setEntryState b i st t) [.berths] := s.changesOnly_setBerth _ _

/-! ## What every arrival leaves alone -/

/-- What an arrival of carrier `k`'s bag leaves alone: other carriers, fills and inbounds (R129). -/
structure State.Arrives (u v : State) (k : Nat) : Prop where
  frame : u.changesOnly v [.carriers, .lanes, .berths, .coding, .principals, .orders]
  length : v.carriers.table.length = u.carriers.table.length
  others : ∀ m, m ≠ k → v.carrier m = u.carrier m
  lanes : ∀ i, (v.lane i).fill = (u.lane i).fill ∧ (v.lane i).inbound = (u.lane i).inbound

theorem State.Arrives.of_frame {u v : State} (k : Nat) (h : u.changesOnly v [.berths, .coding, .principals, .orders]) :
    u.Arrives v k where
  frame := State.changesOnly_mono h (by simp)
  length := congrArg (·.table.length) (show v.carriers = u.carriers from h .carriers (by simp))
  others m _ := State.carrier_eq_of_carriers (h .carriers (by simp)) m
  lanes i := by rw [State.lane_eq_of_lanes (h .lanes (by simp))]; exact ⟨rfl, rfl⟩

theorem State.Arrives.trans {u v w : State} {k : Nat} (h : u.Arrives v k) (h' : v.Arrives w k) : u.Arrives w k where
  frame := State.changesOnly_trans h.frame h'.frame
  length := h'.length.trans h.length
  others m hm := (h'.others m hm).trans (h.others m hm)
  lanes i := ⟨(h'.lanes i).1.trans (h.lanes i).1, (h'.lanes i).2.trans (h.lanes i).2⟩

theorem State.arrives_post (s : State) (k : Nat) (p : Principal) (body : NoticeBody) : s.Arrives (s.post p body) k :=
  .of_frame k (State.changesOnly_mono (s.changesOnly_post p body) (by simp))

theorem State.arrives_testClosing (s : State) (k : Nat) (b : BerthId) : s.Arrives (s.testClosing b) k := by
  obtain ⟨frame, -, -, lanes, -⟩ := s.testClosing_spec b rfl
  have carriers : (s.testClosing b).carriers = s.carriers := frame .carriers (by simp)
  refine ⟨State.changesOnly_mono frame (by simp), congrArg (·.table.length) carriers,
    fun m _ => State.carrier_eq_of_carriers carriers m, fun i => ?_⟩
  rw [lanes]
  split <;> exact ⟨rfl, rfl⟩

theorem State.changesOnly_postCabin (s : State) (b : BerthId) (c : Cabin) : s.changesOnly (s.postCabin b c) [.principals] := by
  unfold State.postCabin
  split
  · exact s.changesOnly_post _ _
  · split
    · exact s.changesOnly_post _ _
    · exact s.changesOnly_refl _

theorem State.changesOnly_postArrival (s : State) (d : Identity) (j : LaneNo) (st : EntryState) :
    s.changesOnly (s.postArrival d j st) [.principals] := by
  unfold State.postArrival
  split
  · split
    · exact s.changesOnly_post _ _
    · exact State.changesOnly_trans (s.changesOnly_post _ _) (State.changesOnly_postCabin _ _ _)
  · exact s.changesOnly_refl _

theorem State.arrives_recordArrival {s : State} {k : Nat} {d : Identity} (hk : k < s.carriers.table.length)
    (hd : (s.carrier k).identity = some d) (j : LaneNo) (x : Lane) : s.Arrives (s.recordArrival k d j x) k := by
  obtain ⟨frame, carriers, -, others, -, -⟩ :=
    State.dropIdentity_leaves hk hd (arrivalState x.function (s.carrier k).disposition)
  have dropped : s.Arrives (s.dropIdentity k (arrivalState x.function (s.carrier k).disposition)) k :=
    ⟨State.changesOnly_mono frame (by simp), (congrArg (·.table.length) carriers).trans (CarrierTable.store_length _ _ _), others,
      fun i => by rw [State.lane_eq_of_lanes (frame .lanes (by simp))]; exact ⟨rfl, rfl⟩⟩
  have told := dropped.trans (.of_frame k (State.changesOnly_mono (State.changesOnly_postArrival _ d j
    (arrivalState x.function (s.carrier k).disposition)) (by simp)))
  unfold State.recordArrival
  refine (told.trans ?_).trans (State.arrives_testClosing _ k d.berth)
  split
  · exact .of_frame k (State.changesOnly_refl _ _)
  · exact State.arrives_post _ k _ _

/-! ## Strays that arrive -/

/-- R138 step 3: the entry that the record of carrier `k`'s bag refers to is STRAYED with its ticket. -/
def State.strayReferred (s : State) (k : Nat) : State :=
  match (s.strayReference (s.carrier k).candidate).1, (s.strayReference (s.carrier k).candidate).2 with
  | some b, some i => s.setEntryState b i .strayed (some s.coding.issued)
  | _, _ => s

theorem State.strayReferred_spec (s : State) (k : Nat) :
    s.changesOnly (s.strayReferred k) [.berths]
      ∧ (∀ b i, s.strayReference (s.carrier k).candidate = (some b, some i) →
        (s.strayReferred k).berth b = (s.berth b).setEntryState i .strayed (some s.coding.issued))
      ∧ ∀ b, (s.strayReference (s.carrier k).candidate).1 ≠ some b ∨ (s.strayReference (s.carrier k).candidate).2 = none →
        (s.strayReferred k).berth b = s.berth b := by
  unfold State.strayReferred
  rcases s.strayReference (s.carrier k).candidate with ⟨_ | a, _ | m⟩
  · exact ⟨s.changesOnly_refl _, fun _ _ h => by simp at h, fun _ _ => rfl⟩
  · exact ⟨s.changesOnly_refl _, fun _ _ h => by simp at h, fun _ _ => rfl⟩
  · exact ⟨s.changesOnly_refl _, fun _ _ h => by simp at h, fun _ _ => rfl⟩
  · refine ⟨s.changesOnly_setEntryState _ _ _ _, fun b i h => ?_, fun b h => ?_⟩
    · simp only [Prod.mk.injEq, Option.some.injEq] at h
      obtain ⟨rfl, rfl⟩ := h
      exact State.berth_setBerth _ _ _
    · have hb : b ≠ a := by rintro rfl; simp at h
      exact State.berth_setBerth_ne _ _ hb

/-- The record of carrier `k`'s bag in the stray list (R138). -/
def State.strayRecord (s : State) (k : Nat) (j : LaneNo) : StrayRecord :=
  ⟨s.coding.issued, (s.carrier k).arrivalReason, (s.carrier k).candidate, (s.strayReference (s.carrier k).candidate).1,
    (s.strayReference (s.carrier k).candidate).2, (s.carrier k).bagSize, j, s.loop.revolutions, s.loop.position⟩

theorem State.changesOnly_postStray (s : State) (b : Option BerthId) (body : NoticeBody) :
    s.changesOnly (s.postStray b body) [.principals] := by
  cases b with
  | none => exact s.changesOnly_post _ _
  | some b => exact s.changesOnly_postHallAnd _ _

theorem State.PostsAs.postStray {s t : State} (h : s.PostsAs t) (b : Option BerthId) (body : NoticeBody) :
    (s.postStray b body).PostsAs (t.postStray b body) := by
  cases b with
  | none => exact h.post _ _
  | some b => exact h.postHallAnd b body

/-- The stray listed, its LABEL handed over (R138). -/
def State.strayListed (s : State) (k : Nat) (j : LaneNo) : State :=
  ((s.strayReferred k).setCoding { s.coding with
    strays := s.coding.strays ++ [s.strayRecord k j], ticketCounter := nextTicket s.coding.issued }).handOver
      (.label (some s.coding.issued) j (s.carrier k).bagSize (s.carrier k).arrivalReason)

theorem State.strayListed_spec (s : State) (k : Nat) (j : LaneNo) :
    s.changesOnly (s.strayListed k j) [.berths, .coding, .orders]
      ∧ (s.strayListed k j).coding = { s.coding with
        strays := s.coding.strays ++ [s.strayRecord k j], ticketCounter := nextTicket s.coding.issued }
      ∧ (∀ b, (s.strayListed k j).berth b = (s.strayReferred k).berth b)
      ∧ (s.strayListed k j).orders = if s.orders.length < 32 then
        s.orders ++ [.label (some s.coding.issued) j (s.carrier k).bagSize (s.carrier k).arrivalReason] else s.orders := by
  have frame := (s.strayReferred_spec k).1
  have orders : (s.strayReferred k).orders = s.orders := frame .orders (by simp)
  have handed := State.changesOnly_handOver ((s.strayReferred k).setCoding { s.coding with
    strays := s.coding.strays ++ [s.strayRecord k j], ticketCounter := nextTicket s.coding.issued })
      (.label (some s.coding.issued) j (s.carrier k).bagSize (s.carrier k).arrivalReason)
  refine ⟨State.changesOnly_comp (State.changesOnly_comp frame (State.changesOnly_setCoding _ _)
    (rs := [.berths, .coding]) (by simp) (by simp)) handed (by simp) (by simp), handed .coding (by simp),
    fun b => State.berth_eq_of_berths (handed .berths (by simp)) b, ?_⟩
  rw [State.strayListed, State.orders_handOver, State.setCoding_orders, orders]

theorem State.recordStray_eq (s : State) (k : Nat) (j : LaneNo) :
    s.recordStray k j = (s.strayListed k j).postStray (s.strayReference (s.carrier k).candidate).1
      (.strayEntered (some s.coding.issued) (s.carrier k).arrivalReason (s.carrier k).bagSize j (s.carrier k).candidate
        (s.strayReference (s.carrier k).candidate).1 (s.strayReference (s.carrier k).candidate).2
        (s.coding.strays.length + 1)) := by
  have frame := (s.strayReferred_spec k).1
  have coding : (s.strayReferred k).coding = s.coding := frame .coding (by simp)
  have listed : s.strayListed k j = ((s.strayReferred k).setCoding { (s.strayReferred k).coding with
      strays := (s.strayReferred k).coding.strays ++ [s.strayRecord k j]
      ticketCounter := nextTicket s.coding.issued }).handOver
        (.label (some s.coding.issued) j (s.carrier k).bagSize (s.carrier k).arrivalReason) := by
    rw [coding]
    rfl
  have length : (s.strayListed k j).coding.strays.length = s.coding.strays.length + 1 := by
    rw [(s.strayListed_spec k j).2.1, List.length_append]
    rfl
  rw [← length, listed]
  rfl

/-- The order of an unlisted stray, and the count of such (R139). -/
def State.strayCounted (s : State) (k : Nat) (j : LaneNo) : State :=
  (s.setCoding { s.coding with unlisted := min 255 (s.coding.unlisted + 1) }).handOver
    (.label none j (s.carrier k).bagSize (s.carrier k).arrivalReason)

theorem State.strayCounted_spec (s : State) (k : Nat) (j : LaneNo) :
    s.changesOnly (s.strayCounted k j) [.coding, .orders]
      ∧ (s.strayCounted k j).coding = { s.coding with unlisted := min 255 (s.coding.unlisted + 1) }
      ∧ (s.strayCounted k j).orders = if s.orders.length < 32 then
        s.orders ++ [.label none j (s.carrier k).bagSize (s.carrier k).arrivalReason] else s.orders := by
  have handed := State.changesOnly_handOver (s.setCoding { s.coding with unlisted := min 255 (s.coding.unlisted + 1) })
    (.label none j (s.carrier k).bagSize (s.carrier k).arrivalReason)
  exact ⟨State.changesOnly_comp (s.changesOnly_setCoding _) handed (by simp) (by simp), handed .coding (by simp),
    State.orders_handOver _ _⟩

theorem State.countUnlisted_eq (s : State) (k : Nat) (j : LaneNo) :
    s.countUnlisted k j = (s.strayCounted k j).post .hall (.strayEntered none (s.carrier k).arrivalReason
      (s.carrier k).bagSize j (s.carrier k).candidate none none s.coding.strays.length) := by
  have length : (s.strayCounted k j).coding.strays.length = s.coding.strays.length := by
    rw [(s.strayCounted_spec k j).2.1]
  rw [← length]
  rfl

theorem State.arrives_takeStray (s : State) (k : Nat) (j : LaneNo) : s.Arrives (s.takeStray k j) k := by
  unfold State.takeStray
  split
  · rw [s.recordStray_eq]
    exact .of_frame k (State.changesOnly_comp (s.strayListed_spec k j).1 (State.changesOnly_postStray _ _ _) (by simp) (by simp))
  · rw [s.countUnlisted_eq]
    exact .of_frame k (State.changesOnly_comp (s.strayCounted_spec k j).1 (State.changesOnly_post _ _ _) (by simp) (by simp))

theorem State.arrives_handArrival (s : State) {k : Nat} (hk : k < s.carriers.table.length) (j : LaneNo) (x : Lane) :
    s.Arrives (s.handArrival k j x) k := by
  unfold State.handArrival
  split
  · next d hd => exact State.arrives_recordArrival hk hd j x
  · split
    · exact s.arrives_takeStray k j
    · exact s.arrives_post k _ _

/-! ## Bags with an identity that arrive -/

theorem State.reportedCandidate_congr {s u : State} (h : ∀ b, (u.berth b).state = (s.berth b).state) (owner : Principal)
    (candidate : Option Tag) : u.reportedCandidate owner candidate = s.reportedCandidate owner candidate := by
  unfold State.reportedCandidate
  rcases candidate with _ | tag <;> rcases owner with _ | b
  · rfl
  · rfl
  · rfl
  · dsimp only
    rw [h]

theorem arrivalState_eq (f : LaneFunction) (p : Option Disposition) :
    arrivalState f p = if f = .hold ∨ (f = .stray ∧ p = some .hold) then .inHold else .delivered := by
  cases f
  case stray =>
    rcases p with _ | _ | _ | _ <;> rfl
  all_goals rfl

theorem State.reportedCandidate_eq (s : State) (owner : Principal) (candidate : Option Tag) :
    s.reportedCandidate owner candidate = match candidate with
      | none => .absent
      | some tag =>
        if owner = .hall ∨ allBerths.any (fun b => owner == .berth b && (s.berth b).state.ship == some tag.ship)
        then .present tag else .withheld := by
  cases candidate with
  | none => rfl
  | some tag =>
    rcases owner with _ | b
    · rfl
    · have only : (allBerths.any fun a => Principal.berth b == .berth a && (s.berth a).state.ship == some tag.ship)
          = ((s.berth b).state.ship == some tag.ship) := by cases b <;> simp [allBerths]
      simp only [State.reportedCandidate, only]
      by_cases h : (s.berth b).state.ship = some tag.ship <;> simp [h]

/-- The notices to the berth principal of an arrival: BAG TO HOLD, or BAG DELIVERED with CABIN COMPLETE or CABIN OVER
(R76, R77). -/
def State.toldArrival (s : State) (d : Identity) (e : Entry) (y : Cabin) (j : LaneNo) (st : EntryState) : State :=
  if st = .inHold then s.post (.berth d.berth) (.bagToHold y.number e.index e.serial j (y.inHold + 1))
  else
    let told := s.post (.berth d.berth) (.bagDelivered y.number e.index e.serial j (y.delivered + 1) y.expected)
    if y.delivered + 1 = y.expected then
      told.post (.berth d.berth) (.cabinComplete y.number y.deck (y.delivered + 1) y.expected y.inHold)
    else if y.expected < y.delivered + 1 then
      told.post (.berth d.berth) (.cabinOver y.number y.deck (y.delivered + 1) y.expected y.inHold)
    else told

/-- An arrival from the loop raises one count of its cabin (R61). -/
theorem Cabin.recount_arrived (y : Cabin) (f : LaneFunction) (p : Option Disposition) :
    (arrivalState f p = .inHold ∧ y.recount .onLoop (arrivalState f p) = { y with inHold := y.inHold + 1 })
      ∨ (arrivalState f p = .delivered ∧ y.recount .onLoop (arrivalState f p) = { y with delivered := y.delivered + 1 }) := by
  rw [arrivalState_eq]
  split
  · exact .inl ⟨rfl, rfl⟩
  · exact .inr ⟨rfl, rfl⟩

theorem State.PostsAs.postArrival {s u : State} (h : s.PostsAs u) {d : Identity} {e : Entry} {y : Cabin} {f : LaneFunction}
    {p : Option Disposition} (he : u.entryOf d = some { e with state := arrivalState f p, ticket := none })
    (hy : u.cabinOf d = some (y.recount .onLoop (arrivalState f p))) (j : LaneNo) :
    (s.toldArrival d e y j (arrivalState f p)).PostsAs (u.postArrival d j (arrivalState f p)) := by
  simp only [State.postArrival, he, hy, State.toldArrival]
  rcases y.recount_arrived f p with ⟨hst, hc⟩ | ⟨hst, hc⟩
  · rw [hc, if_pos hst, if_pos hst]
    exact h.post _ _
  · have ne : arrivalState f p ≠ .inHold := by rw [hst]; simp
    rw [hc, if_neg ne, if_neg ne, State.postCabin]
    dsimp only
    split
    · exact (h.post _ _).post _ _
    · split
      · exact (h.post _ _).post _ _
      · exact h.post _ _

/-- The state in which an arrival's notices have been posted: to the berth principal, and to an owner that is another
(R76 to R78). -/
def State.arrivalTold (s : State) (k : Nat) (d : Identity) (e : Entry) (y : Cabin) (j : LaneNo) (x : Lane) : State :=
  let told := s.toldArrival d e y j (arrivalState x.function (s.carrier k).disposition)
  if x.owner = .berth d.berth then told
  else told.post x.owner (.laneArrival j k (s.carrier k).size (s.carrier k).disposition
    (s.reportedCandidate x.owner (s.carrier k).candidate))

/-- R76 to R78: the arrival of a bag with an identity. -/
theorem State.recordArrival_spec {s : State} {k : Nat} {d : Identity} {e : Entry} {y : Cabin}
    (hk : k < s.carriers.table.length) (hd : (s.carrier k).identity = some d) (he : s.entryOf d = some e)
    (hst : e.state = .onLoop) (hy : (s.berth d.berth).findCabin e.cabin = some y) (j : LaneNo) (x : Lane) :
    (s.recordArrival k d j x).orders = s.orders
      ∧ (¬s.holdsLastOf k d.berth → s.changesOnly (s.recordArrival k d j x) [.carriers, .berths, .principals]
        ∧ (s.recordArrival k d j x).berth d.berth
          = (s.berth d.berth).setEntryState d.entry (arrivalState x.function (s.carrier k).disposition) none
        ∧ (∀ o, o ≠ d.berth → (s.recordArrival k d j x).berth o = s.berth o)
        ∧ (s.arrivalTold k d e y j x).PostsAs (s.recordArrival k d j x))
      ∧ (s.holdsLastOf k d.berth → (∀ l : State, l.berths = s.berths → l.coding = s.coding → l.lanes = s.lanes →
          l.berthCleared (s.recordArrival k d j x) d.berth)
        ∧ ((s.arrivalTold k d e y j x).postHallAnd d.berth (.berthState d.berth .unbound false)).PostsAs
          (s.recordArrival k d j x)) := by
  obtain ⟨frame, -, own, others, berth, berths⟩ :=
    State.dropIdentity_leaves hk hd (arrivalState x.function (s.carrier k).disposition)
  have posts : s.PostsAs (s.dropIdentity k (arrivalState x.function (s.carrier k).disposition)) :=
    ⟨frame .principals (by simp), frame .loop (by simp)⟩
  have entry : (s.dropIdentity k (arrivalState x.function (s.carrier k).disposition)).entryOf d
      = some { e with state := arrivalState x.function (s.carrier k).disposition, ticket := none } := by
    rw [State.entryOf, berth, Berth.findEntry_setEntryState, show (s.berth d.berth).findEntry d.entry = some e from he]
    simp
  have cabin : (s.dropIdentity k (arrivalState x.function (s.carrier k).disposition)).cabinOf d
      = some (y.recount .onLoop (arrivalState x.function (s.carrier k).disposition)) := by
    rw [State.cabinOf_eq entry, berth, Berth.findCabin_setEntryState (show (s.berth d.berth).findEntry d.entry = some e from he),
      hy, hst]
    simp
  have told := posts.postArrival (e := e) (y := y) entry cabin j
  have tframe := State.changesOnly_postArrival (s.dropIdentity k (arrivalState x.function (s.carrier k).disposition)) d j
    (arrivalState x.function (s.carrier k).disposition)
  have uframe : s.changesOnly ((s.dropIdentity k (arrivalState x.function (s.carrier k).disposition)).postArrival d j
      (arrivalState x.function (s.carrier k).disposition)) [.carriers, .berths, .principals] :=
    State.changesOnly_comp frame tframe (by simp) (by simp)
  have tcarrier := State.carrier_eq_of_carriers (tframe .carriers (by simp))
  have tberth := State.berth_eq_of_berths (tframe .berths (by simp))
  unfold State.recordArrival
  dsimp only
  generalize (s.dropIdentity k (arrivalState x.function (s.carrier k).disposition)).postArrival d j
    (arrivalState x.function (s.carrier k).disposition) = u at told uframe tcarrier tberth
  -- The notice to another owner changes no table.
  have reported : u.reportedCandidate x.owner (s.carrier k).candidate = s.reportedCandidate x.owner (s.carrier k).candidate := by
    refine State.reportedCandidate_congr (fun b => ?_) _ _
    rw [tberth]
    by_cases hb : b = d.berth
    · rw [hb, berth, Berth.state_setEntryState]
    · rw [berths b hb]
  have notified : ∃ v, v = (if x.owner = .berth d.berth then u else u.postLaneArrival k (s.carrier k) j x.owner)
      ∧ u.changesOnly v [.principals] ∧ (s.arrivalTold k d e y j x).PostsAs v := by
    refine ⟨_, rfl, ?_, ?_⟩
    · split
      · exact u.changesOnly_refl _
      · exact u.changesOnly_post _ _
    · unfold State.arrivalTold State.postLaneArrival
      dsimp only
      rw [reported]
      split
      · exact told
      · exact told.post _ _
  obtain ⟨v, hv, vframe, vposts⟩ := notified
  rw [← hv]
  have frame : s.changesOnly v [.carriers, .berths, .principals] := State.changesOnly_comp uframe vframe (by simp) (by simp)
  have vcarrier (m) := (State.carrier_eq_of_carriers (vframe .carriers (by simp)) m).trans (tcarrier m)
  have vberth (b) := (State.berth_eq_of_berths (vframe .berths (by simp)) b).trans (tberth b)
  obtain ⟨cframe, stays, leaves⟩ := State.testClosing_left_spec (s := s) (u := v) (k := k) (b := d.berth)
    (fun m hm => (vcarrier m).trans (others m hm)) (by rw [vcarrier, own]) (frame .router (by simp))
    (by rw [vberth, berth, Berth.state_setEntryState]) (fun o ho => (vberth o).trans (berths o ho)) (frame .coding (by simp))
  refine ⟨(cframe .orders (by simp)).trans (frame .orders (by simp)), fun h => ?_, fun h => ?_⟩
  · rw [stays h]
    exact ⟨frame, (vberth _).trans berth, fun o ho => (vberth o).trans (berths o ho), vposts⟩
  · obtain ⟨cleared, posted⟩ := leaves h
    refine ⟨fun l hb hc hl => cleared l hb hc fun i => ?_, posted.trans (vposts.postHallAnd _ _).1, ?_⟩
    · rw [State.lane_eq_of_lanes (frame .lanes (by simp)), State.lane_eq_of_lanes hl]
      exact Lane.rebooked_refl _
    · refine (cframe .loop (by simp)).trans ((frame .loop (by simp)).trans ?_)
      exact ((State.changesOnly_postHallAnd _ _ _ .loop (by simp)).trans (vposts.2.symm.trans (frame .loop (by simp)))).symm

end Sys2Proof.Machine

/-! SUPPORT. DIVERT DONE as a whole (R128, R156). -/

namespace Sys2Proof.Machine

/-! ## Drains -/

/-- MODE CHANGED when a drain completes (R156). -/
def State.drained (s u : State) (loaded unverified : Nat) : State :=
  if s.mode = .draining ∧ loaded = 0 then u.postAll (.modeChanged .draining .setup .drainComplete 0 unverified) else u

theorem State.testDrain_spec (s : State) :
    s.changesOnly s.testDrain [.mode, .principals] ∧ s.testDrain.carriers = s.carriers
      ∧ s.testDrain.mode = (if s.mode = .draining ∧ s.carriers.loaded = 0 then .setup else s.mode)
      ∧ (s.drained s s.carriers.loaded s.carriers.unverified).PostsAs s.testDrain := by
  unfold State.drained
  by_cases h : s.mode = .draining ∧ s.carriers.loaded = 0
  · obtain ⟨frame, mode, carriers, principals⟩ := s.withMode_spec .setup .drainComplete
    have running : ¬s.mode = .run := by rw [h.1]; simp
    have same : (s.withMode .setup .drainComplete).carriers = s.carriers := by rw [carriers, if_neg running]
    have posts : (s.postAll (.modeChanged s.mode .setup .drainComplete s.carriers.loaded s.carriers.unverified)).PostsAs
        (s.withMode .setup .drainComplete) := State.PostsAs.postAll ⟨rfl, rfl⟩ _
    rw [h.1, h.2] at posts
    rw [State.testDrain_of h.1 h.2, if_pos h, if_pos h]
    refine ⟨fun q hq => ?_, same, mode, posts⟩
    by_cases hc : q = .carriers
    · rw [hc]
      exact same
    · exact frame q (by simpa [hc] using hq)
  · rw [State.testDrain_of_not (by rwa [not_and_or] at h), if_neg h, if_neg h]
    exact ⟨s.changesOnly_refl _, rfl, rfl, rfl, rfl⟩

theorem State.PostsAs.drained {u v : State} (h : u.PostsAs v) (s : State) (loaded unverified : Nat) :
    (s.drained u loaded unverified).PostsAs (s.drained v loaded unverified) := by
  unfold State.drained
  split
  · exact h.postAll _
  · exact h

theorem State.PostsAs.trans {s t u : State} (h : s.PostsAs t) (h' : t.PostsAs u) : s.PostsAs u :=
  ⟨h'.1.trans h.1, h'.2.trans h.2⟩

/-! ## The divert -/

/-- The units of the bag pass from inbound to fill, and the fault score falls by one (R128, R132). -/
def State.landedAt (s : State) (k : Nat) (j : LaneNo) : State :=
  (s.setLane j ((s.lane j).landed (s.carrier k).units)).setDiverter j (s.diverter j).lowered

/-- The state after the arrival has been handed off (R129). -/
def State.handedOff (s : State) (k : Nat) (j : LaneNo) : State :=
  (s.landedAt k j).handArrival k j ((s.landedAt k j).lane j)

theorem exec_divertDone_of {s : State} {k : Nat} {j : LaneNo} (h : (s.carrier k).state = .fired ∧ (s.carrier k).target = some j) :
    exec (.divertDone j.val k) s = .next ((s.handedOff k j).setCarrier k Carrier.empty).testDrain := by
  show execDivertDone j.val k s = _
  rw [execDivertDone, laneOf_val]
  dsimp only
  rw [if_pos (by simpa [Carrier.isFiredAt] using h)]
  rfl

theorem exec_divertDone_of_not {s : State} {k : Nat} {j : LaneNo}
    (h : ¬((s.carrier k).state = .fired ∧ (s.carrier k).target = some j)) : exec (.divertDone j.val k) s = .next s := by
  show execDivertDone j.val k s = _
  rw [execDivertDone, laneOf_val]
  dsimp only
  rw [if_neg (by simpa [Carrier.isFiredAt] using h)]

/-- What DIVERT DONE does for every bag (R128, R156). -/
theorem State.divertDone_spec {s : State} {k : Nat} {j : LaneNo} (hk : k < s.carriers.table.length) {t : State}
    (ht : t = ((s.handedOff k j).setCarrier k Carrier.empty).testDrain) :
    s.changesOnly t [.carriers, .lanes, .diverters, .berths, .coding, .mode, .principals, .orders]
      ∧ (s.handedOff k j).changesOnly t [.carriers, .mode, .principals]
      ∧ t.carrier k = Carrier.empty ∧ (∀ m, m ≠ k → t.carrier m = s.carrier m)
      ∧ (t.lane j).fill = (s.lane j).fill + (s.carrier k).units ∧ (t.lane j).inbound = (s.lane j).inbound - (s.carrier k).units
      ∧ (∀ i, i ≠ j → (t.lane i).fill = (s.lane i).fill ∧ (t.lane i).inbound = (s.lane i).inbound)
      ∧ t.diverter j = { s.diverter j with score := (s.diverter j).score - 1 }
      ∧ (∀ i, i ≠ j → t.diverter i = s.diverter i)
      ∧ t.mode = (if s.mode = .draining ∧ t.carriers.loaded = 0 then .setup else s.mode)
      ∧ (s.drained (s.handedOff k j) t.carriers.loaded t.carriers.unverified).PostsAs t := by
  have arrives : (s.landedAt k j).Arrives (s.handedOff k j) k := (s.landedAt k j).arrives_handArrival hk j _
  have landed : s.changesOnly (s.landedAt k j) [.lanes, .diverters] :=
    State.changesOnly_comp (s.changesOnly_storeLane j _) (State.changesOnly_setDiverter _ j _) (by simp) (by simp)
  have lane (i) : (s.landedAt k j).lane i = (s.setLane j ((s.lane j).landed (s.carrier k).units)).lane i := rfl
  have mode : ((s.handedOff k j).setCarrier k Carrier.empty).mode = s.mode :=
    (arrives.frame .mode (by simp)).trans (landed .mode (by simp))
  have diverters : (s.handedOff k j).diverters = (s.landedAt k j).diverters := arrives.frame .diverters (by simp)
  obtain ⟨frame, carriers, tmode, posts⟩ := ((s.handedOff k j).setCarrier k Carrier.empty).testDrain_spec
  have stored := (s.handedOff k j).changesOnly_storeCarrier k Carrier.empty
  rw [← ht] at frame carriers tmode posts
  have after : (s.handedOff k j).changesOnly t [.carriers, .mode, .principals] :=
    State.changesOnly_comp stored frame (by simp) (by simp)
  have inside : k < (s.handedOff k j).carriers.table.length := arrives.length ▸ hk
  have tlane (i) := State.lane_eq_of_lanes (after .lanes (by simp)) i
  have tdiverter (i) := State.diverter_eq_of_diverters ((after .diverters (by simp)).trans diverters) i
  rw [← carriers] at posts tmode
  simp only [mode] at tmode
  refine ⟨State.changesOnly_comp (State.changesOnly_comp landed arrives.frame
    (rs := [.lanes, .diverters, .carriers, .berths, .coding, .principals, .orders]) (by simp) (by simp)) after (by simp)
    (by simp), after, ?_, fun m hm => ?_, ?_, ?_, fun i hi => ?_, ?_, fun i hi => ?_, ?_, ?_⟩
  · rw [State.carrier_eq_of_carriers carriers, State.carrier_setCarrier_same _ _ inside]
  · rw [State.carrier_eq_of_carriers carriers, State.carrier_setCarrier_ne _ _ hm, arrives.others m hm]
    rfl
  · rw [tlane, (arrives.lanes j).1, lane, State.lane_setLane]; rfl
  · rw [tlane, (arrives.lanes j).2, lane, State.lane_setLane]; rfl
  · rw [tlane, (arrives.lanes i).1, (arrives.lanes i).2, lane, State.lane_setLane_ne _ _ hi]
    exact ⟨rfl, rfl⟩
  · rw [tdiverter, State.landedAt, State.diverter_setDiverter]
    rfl
  · rw [tdiverter, State.landedAt, State.diverter_setDiverter_ne _ _ hi]
    rfl
  · exact tmode
  · have same : (s.drained (s.handedOff k j) t.carriers.loaded t.carriers.unverified)
        = ((s.handedOff k j).setCarrier k Carrier.empty).drained (s.handedOff k j) t.carriers.loaded t.carriers.unverified := by
      simp only [State.drained, mode]
    rw [same]
    exact (State.PostsAs.drained (u := s.handedOff k j) (v := (s.handedOff k j).setCarrier k Carrier.empty) ⟨rfl, rfl⟩
      _ _ _).trans posts

/-! ## What the entry and the reference come to -/

/-- R61: an entry given a state, in the words of the statement. -/
theorem Berth.setEntryState_spec {r : Berth} {e : Entry} (h : r.findEntry e.index = some e) (st : EntryState)
    (held : Option Nat) :
    (r.setEntryState e.index st held).findEntry e.index = some { e with state := st, ticket := held }
      ∧ (∀ m, m ≠ e.index → (r.setEntryState e.index st held).findEntry m = r.findEntry m)
      ∧ (r.setEntryState e.index st held).findCabin e.cabin = (r.findCabin e.cabin).map (·.recount e.state st)
      ∧ ∀ m, m ≠ e.cabin → (r.setEntryState e.index st held).findCabin m = r.findCabin m := by
  refine ⟨?_, fun m hm => ?_, ?_, fun m hm => ?_⟩
  · simp [Berth.findEntry_setEntryState, h]
  · simp [Berth.findEntry_setEntryState, hm]
  · simp [Berth.findCabin_setEntryState h]
  · simp [Berth.findCabin_setEntryState h, hm]

theorem oneIf_beq {α : Type} [BEq α] [LawfulBEq α] (a b : α) [Decidable (a = b)] : oneIf (a == b) = if a = b then 1 else 0 := by
  unfold oneIf
  by_cases h : a = b <;> simp [h]

theorem State.strayReference_none {s : State} {candidate : Option Tag}
    (h : candidate = none ∨ ∃ tag, candidate = some tag ∧ ∀ o, (s.berth o).state.ship ≠ some tag.ship) :
    s.strayReference candidate = (none, none) := by
  rcases h with rfl | ⟨tag, rfl, h⟩
  · rfl
  · rw [State.strayReference, State.berthOfShip_none h]

theorem State.strayReference_some {s : State} {tag : Tag} {b : BerthId}
    (h : ∀ o, (s.berth o).state.ship = some tag.ship ↔ o = b) :
    ((s.berth b).findSerial tag.serial = none → s.strayReference (some tag) = (some b, none))
      ∧ ∀ e, (s.berth b).findSerial tag.serial = some e →
        s.strayReference (some tag) = (some b, if e.state = .strayed ∧ e.ticket = none then some e.index else none) := by
  refine ⟨fun he => ?_, fun e he => ?_⟩
  all_goals
    rw [State.strayReference, State.berthOfShip_some h]
    dsimp only
    rw [he]

/-! ## The kinds of arrival -/

theorem State.PostsAs.toldArrival {s u : State} (h : s.PostsAs u) (d : Identity) (e : Entry) (y : Cabin) (j : LaneNo)
    (st : EntryState) : (s.toldArrival d e y j st).PostsAs (u.toldArrival d e y j st) := by
  unfold State.toldArrival
  dsimp only
  split
  · exact h.post _ _
  · split
    · exact (h.post _ _).post _ _
    · split
      · exact (h.post _ _).post _ _
      · exact h.post _ _

theorem State.landedAt_lane (s : State) (k : Nat) (j : LaneNo) : (s.landedAt k j).lane j = (s.lane j).landed (s.carrier k).units :=
  State.lane_setLane s j _

theorem State.handedOff_identity {s : State} {k : Nat} {d : Identity} (h : (s.carrier k).identity = some d) (j : LaneNo) :
    s.handedOff k j = (s.landedAt k j).recordArrival k d j ((s.lane j).landed (s.carrier k).units) := by
  rw [State.handedOff, State.handArrival, show ((s.landedAt k j).carrier k).identity = some d from h, State.landedAt_lane]

theorem State.handedOff_unlisted {s : State} {k : Nat} (h : (s.carrier k).identity = none) (j : LaneNo) :
    s.handedOff k j = if (s.lane j).function = .stray then (s.landedAt k j).takeStray k j
      else (s.landedAt k j).postLaneArrival k (s.carrier k) j (s.lane j).owner := by
  rw [State.handedOff, State.handArrival, show ((s.landedAt k j).carrier k).identity = none from h, State.landedAt_lane]
  rfl

/-- Settles O57. -/
theorem divertsAreDone : Obligations.DivertsAreDone := by
  intro s n k j d e y tag b c x fired ticket reason ref arrived landed ready reported arrival recorded toOwner one
  refine ⟨fun st held he => ?_, fun h => ?_, fun h => exec_divertDone_of_not h, fun h => ?_, fun h => ?_, fun h hs => ?_⟩
  · intro r r'
    obtain ⟨own, others, cabin, cabins⟩ := Berth.setEntryState_spec he st held
    refine ⟨r.state_setEntryState _ _ _, r.deckMap_setEntryState _ _ _, own, others, cabin.trans ?_, cabins⟩
    refine congrArg (Option.map · (r.findCabin e.cabin)) (funext fun y => ?_)
    simp only [Cabin.recount, oneIf_beq]
    rfl
  · show execDivertDone n k s = _
    rw [execDivertDone, laneOf_none h]
  · have hk : k < s.carriers.table.length := s.lt_of_carrier_ne fun he => by
      exact nomatch h.1.symm.trans (congrArg Carrier.state he)
    refine ⟨_, exec_divertDone_of h, ?_⟩
    obtain ⟨frame, after, own, others, fill, inbound, lanes, diverter, diverters, mode, posts⟩ :=
      State.divertDone_spec (s := s) (j := j) hk rfl
    generalize ((s.handedOff k j).setCarrier k Carrier.empty).testDrain = t at *
    refine ⟨frame, own, others, fill, inbound, lanes, diverter, diverters, mode, fun hd he hst hy => ?_, fun hd hf => ?_,
      fun hd hf hl => ?_, fun hd hf hl => ?_⟩
    -- What is posted before the drain, whatever the kind of arrival.
    all_goals have principals {u : State} (h : u.PostsAs (s.handedOff k j)) :
        t.principals = (s.drained u t.carriers.loaded t.carriers.unverified).principals := ((h.drained s _ _).trans posts).1
    all_goals have landing : s.PostsAs (s.landedAt k j) := ⟨rfl, rfl⟩
    all_goals have berth := State.berth_eq_of_berths (after .berths (by simp))
    all_goals have coding : t.coding = (s.handedOff k j).coding := after .coding (by simp)
    all_goals have orders : t.orders = (s.handedOff k j).orders := after .orders (by simp)
    · have off := State.handedOff_identity hd j
      have arrives : arrivalState ((s.lane j).landed (s.carrier k).units).function (s.carrier k).disposition = arrived :=
        arrivalState_eq _ _
      have report : (s.landedAt k j).reportedCandidate x.owner c.candidate = reported := State.reportedCandidate_eq _ _ _
      obtain ⟨rorders, stays, leaves⟩ := State.recordArrival_spec (s := s.landedAt k j) hk hd he hst hy j
        ((s.lane j).landed (s.carrier k).units)
      rw [← off] at rorders stays leaves
      have told : toOwner.PostsAs ((s.landedAt k j).arrivalTold k d e y j ((s.lane j).landed (s.carrier k).units)) := by
        have recorded : (s.toldArrival d e y j arrived).PostsAs ((s.landedAt k j).toldArrival d e y j arrived) :=
          landing.toldArrival d e y j arrived
        rw [State.arrivalTold, show ((s.landedAt k j).carrier k).disposition = (s.carrier k).disposition from rfl, arrives,
          show ((s.landedAt k j).carrier k).candidate = c.candidate from rfl,
          show ((s.lane j).landed (s.carrier k).units).owner = x.owner from rfl, report]
        show State.PostsAs (if x.owner = .berth d.berth then s.toldArrival d e y j arrived
          else (s.toldArrival d e y j arrived).post x.owner (.laneArrival j k c.size c.disposition reported)) _
        split
        · exact recorded
        · exact recorded.post _ _
      refine ⟨orders.trans rorders, fun hr => ?_, fun hr => ?_⟩
      · obtain ⟨rframe, rberth, rberths, rposts⟩ := stays hr
        refine ⟨(berth _).trans (rberth.trans (by rw [← arrives]; rfl)), fun o ho => (berth o).trans (rberths o ho),
          coding.trans (rframe .coding (by simp)), fun i => ?_, principals (told.trans rposts)⟩
        rw [State.lane_eq_of_lanes (after .lanes (by simp)), State.lane_eq_of_lanes (rframe .lanes (by simp))]
        rfl
      · obtain ⟨cleared, rposts⟩ := leaves hr
        exact ⟨State.berthCleared_of_same (cleared landed rfl rfl rfl) (after .berths (by simp)) coding
          fun i => by rw [State.lane_eq_of_lanes (after .lanes (by simp))]; exact Lane.rebooked_refl _,
          principals ((told.postHallAnd _ _).trans rposts)⟩
    · have off := (State.handedOff_unlisted hd j).trans (if_neg hf)
      have report : (s.landedAt k j).reportedCandidate x.owner c.candidate = reported := State.reportedCandidate_eq _ _ _
      rw [State.postLaneArrival, report] at off
      have posted := (s.landedAt k j).changesOnly_post x.owner (.laneArrival j k c.size c.disposition reported)
      rw [← off] at posted
      exact ⟨(after .berths (by simp)).trans (posted .berths (by simp)), coding.trans (posted .coding (by simp)),
        orders.trans (posted .orders (by simp)), principals (by rw [off]; exact landing.post _ _)⟩
    · have off := (State.handedOff_unlisted hd j).trans ((if_pos hf).trans ((if_pos hl).trans (State.recordStray_eq _ k j)))
      obtain ⟨lframe, lcoding, lberth, lorders⟩ := (s.landedAt k j).strayListed_spec k j
      obtain ⟨-, rsome, rnone⟩ := (s.landedAt k j).strayReferred_spec k
      have posted := ((s.landedAt k j).strayListed k j).changesOnly_postStray
        ((s.landedAt k j).strayReference ((s.landedAt k j).carrier k).candidate).1
        (.strayEntered (some (s.landedAt k j).coding.issued) ((s.landedAt k j).carrier k).arrivalReason
          ((s.landedAt k j).carrier k).bagSize j ((s.landedAt k j).carrier k).candidate
          ((s.landedAt k j).strayReference ((s.landedAt k j).carrier k).candidate).1
          ((s.landedAt k j).strayReference ((s.landedAt k j).carrier k).candidate).2
          ((s.landedAt k j).coding.strays.length + 1))
      rw [← off] at posted
      have tberth (b) := (berth b).trans ((State.berth_eq_of_berths (posted .berths (by simp)) b).trans (lberth b))
      refine ⟨coding.trans ((posted .coding (by simp)).trans lcoding), fun b i hb => (tberth b).trans (rsome b i hb),
        fun b hb => (tberth b).trans (rnone b hb), orders.trans ((posted .orders (by simp)).trans lorders), ?_⟩
      intro entered
      refine principals (u := s.postStray ref.1 entered) ?_
      rw [off]
      exact State.PostsAs.postStray (landing.trans ⟨lframe .principals (by simp), lframe .loop (by simp)⟩) _ _
    · have off := (State.handedOff_unlisted hd j).trans ((if_pos hf).trans ((if_neg (Nat.not_lt.2 hl)).trans
        (State.countUnlisted_eq _ k j)))
      obtain ⟨lframe, lcoding, lorders⟩ := (s.landedAt k j).strayCounted_spec k j
      have posted := ((s.landedAt k j).strayCounted k j).changesOnly_post .hall (.strayEntered none
        ((s.landedAt k j).carrier k).arrivalReason ((s.landedAt k j).carrier k).bagSize j ((s.landedAt k j).carrier k).candidate
        none none (s.landedAt k j).coding.strays.length)
      rw [← off] at posted
      refine ⟨coding.trans ((posted .coding (by simp)).trans lcoding),
        (after .berths (by simp)).trans ((posted .berths (by simp)).trans (lframe .berths (by simp))),
        orders.trans ((posted .orders (by simp)).trans lorders), principals ?_⟩
      rw [off]
      exact State.PostsAs.post (landing.trans ⟨lframe .principals (by simp), lframe .loop (by simp)⟩) _ _
  · exact State.strayReference_none (h.imp id fun h => ⟨tag, h⟩)
  · have hc : ref = s.strayReference (some tag) := congrArg s.strayReference h
    rw [hc]
    exact ⟨(State.strayReference_some hs).1, (State.strayReference_some hs).2 e⟩

end Sys2Proof.Machine

/-! SUPPORT. Poll answers, windows that close, and the scores of the heads (R42 to R50). -/

namespace Sys2Proof.Machine

/-! ## Windows that close -/

/-- The state in which the window has left its station (R43). -/
def State.shut (s : State) (n : StationNo) : State := s.setStation n { s.station n with window := none }

theorem State.closeWindow_accepted {s : State} {n : StationNo} {w : Window} {t : Tag}
    (h : tally w.answers w.votes = .accepted t) :
    s.closeWindow n w = ((s.shut n).takeOutcome w.carrier (.accepted t)).scoreHeads n w.answers t := by
  unfold State.closeWindow
  dsimp only
  rw [h]
  rfl

theorem State.closeWindow_other {s : State} {n : StationNo} {w : Window} {o : ReadOutcome} (h : tally w.answers w.votes = o)
    (ho : o = .noRead ∨ o = .weak ∨ o = .ambiguous) : s.closeWindow n w = (s.shut n).takeOutcome w.carrier o := by
  unfold State.closeWindow
  dsimp only
  rw [h]
  rcases ho with rfl | rfl | rfl <;> rfl

/-! ## Answers -/

theorem exec_pollAnswer_other {s : State} {n : StationNo} {head number : Nat}
    (h : ∀ w, (s.station n).window = some w → w.outstanding ≠ some ⟨head, number⟩) (ship serial : Nat) :
    exec (.pollAnswer n.val head number ship serial) s = .next s := by
  show execPollAnswer n.val head number ship serial s = _
  rw [execPollAnswer, stationOf_val]
  dsimp only
  cases hw : (s.station n).window with
  | none => rfl
  | some w => exact if_neg (h w hw)

theorem exec_pollAnswer_of {s : State} {n : StationNo} {head number : Nat} {w : Window} (hw : (s.station n).window = some w)
    (ho : w.outstanding = some ⟨head, number⟩) (ship serial : Nat) :
    exec (.pollAnswer n.val head number ship serial) s = .next (s.takeAnswer n w head (tagOf ship serial)) := by
  show execPollAnswer n.val head number ship serial s = _
  rw [execPollAnswer, stationOf_val]
  dsimp only
  rw [hw]
  exact if_pos ho

/-- A window with one answer more. -/
def Window.answered (w : Window) (a : Answer) : Window := { w with answers := w.answers ++ [a], outstanding := none }

theorem State.takeAnswer_polls {s : State} {n : StationNo} {w : Window} {head : Nat} {result : Option Tag}
    (h : (w.answers ++ [(⟨head, result⟩ : Answer)]).length < w.polls) :
    s.takeAnswer n w head result = s.sendPoll n (w.answered ⟨head, result⟩) :=
  if_neg (Nat.not_le.2 h)

theorem State.takeAnswer_closes {s : State} {n : StationNo} {w : Window} {head : Nat} {result : Option Tag}
    (h : w.polls ≤ (w.answers ++ [(⟨head, result⟩ : Answer)]).length) :
    s.takeAnswer n w head result = if (s.carrier w.carrier).state = .unread ∨ (s.carrier w.carrier).state = .unverified then
        (s.closeWindow n (w.answered ⟨head, result⟩)).chooseTarget w.carrier
      else s.closeWindow n (w.answered ⟨head, result⟩) := by
  refine (if_pos h).trans ?_
  simp only [Carrier.awaitsRead_iff]
  rfl

/-! ## Scores -/

theorem Station.any_polled_iff (x : Station) (h : Nat) :
    x.polled.any (· != h) = true ↔ ∃ m, m < x.heads ∧ m ≠ h ∧ (x.head m).suspended = false := by
  simp only [Station.polled, List.any_eq_true, List.mem_filter, List.mem_range, Bool.not_eq_true', bne_iff_ne, ne_eq]
  exact exists_congr fun m => by tauto

theorem Station.scored_eq (answers : List Answer) (t : Tag) (x : Station) :
    x.scored answers t = { x with headRecords := (x.scored answers t).headRecords } := by
  induction answers generalizing x with
  | nil => rfl
  | cons a answers ih => exact ih (x.setHead a.head ((x.head a.head).scored t a.result))

/-- The answers of one head score that head, in the order taken (R48). -/
theorem Station.head_scored (x : Station) (answers : List Answer) (t : Tag) {h : Nat} (hh : h < 8) :
    (x.scored answers t).head h
      = (answers.filter fun a => a.head == h).foldl (fun r a => r.scored t a.result) (x.head h) := by
  unfold Station.scored
  induction answers using List.reverseRecOn with
  | nil => rfl
  | append_singleton as a ih =>
    rw [List.foldl_append, List.filter_append, List.foldl_append, ← ih]
    simp only [List.foldl_cons, List.foldl_nil]
    by_cases ha : a.head = h
    · subst ha
      simp [Station.head_setHead, hh]
    · simp [Station.head_setHead, ha, Ne.symm ha]

theorem State.judgeHead_suspended {s : State} {n : StationNo} {h : Nat} (hs : ((s.station n).head h).suspended = true) :
    s.judgeHead n h = s := if_pos hs

theorem State.judgeHead_sound {s : State} {n : StationNo} {h : Nat} (hs : ((s.station n).head h).suspended = false)
    (hl : ((s.station n).head h).score < 128) :
    s.judgeHead n h = s.setStation n ((s.station n).setHead h { (s.station n).head h with degraded := false }) :=
  (if_neg (by rw [hs]; simp)).trans (if_neg (Nat.not_le.2 hl))

theorem State.judgeHead_poor {s : State} {n : StationNo} {h : Nat} (hs : ((s.station n).head h).suspended = false)
    (hl : 128 ≤ ((s.station n).head h).score) :
    s.judgeHead n h = if (s.station n).polled.any (· != h) then
        s.setStation n ((s.station n).setHead h { (s.station n).head h with suspended := true, degraded := false })
      else if ((s.station n).head h).degraded then s
      else (s.setStation n ((s.station n).setHead h { (s.station n).head h with degraded := true })).post .hall
        (.headDegraded n h ((s.station n).head h).score) :=
  (if_neg (by rw [hs]; simp)).trans (if_pos hl)

/-- Settles O53. -/
theorem pollAnswersAreTakenAndScored : Obligations.PollAnswersAreTakenAndScored := by
  refine ⟨fun s a n head number ship serial w tag => ?_, fun s n h r accepted other answers => ?_⟩
  · intro x result answers answered number' head' closed awaits stray read
    refine ⟨fun ha => ?_, fun hw => exec_pollAnswer_other (fun w h => nomatch hw.symm.trans h) ship serial, fun hw ho => ?_,
      fun hw ho => ?_⟩
    · show execPollAnswer a head number ship serial s = _
      rw [execPollAnswer, stationOf_none ha]
    · refine exec_pollAnswer_other (fun v h => ?_) ship serial
      obtain rfl := Option.some.inj (hw.symm.trans h)
      exact ho
    · have taken := exec_pollAnswer_of hw ho ship serial
      refine ⟨fun hl => taken.trans (congrArg _ (State.takeAnswer_polls hl)), fun hl => ?_⟩
      have closes := taken.trans (congrArg _ (State.takeAnswer_closes hl))
      -- An outcome that accepts no tag makes a stray of a carrier that awaits one.
      have other {o : ReadOutcome} {r : StrayReason} (ht : tally answers w.votes = o) (ho : o = .noRead ∨ o = .weak ∨ o = .ambiguous)
          (hr : awaits → closed.takeOutcome w.carrier o = closed.enterDisposition w.carrier (.stray r)) :
          answered = .next (if awaits then stray r else closed) := by
        have shut : s.closeWindow n (w.answered ⟨head, result⟩) = closed.takeOutcome w.carrier o :=
          State.closeWindow_other (w := w.answered ⟨head, result⟩) ht ho
        refine closes.trans (congrArg _ ?_)
        by_cases ha : awaits
        · exact (if_pos ha).trans ((congrArg (State.chooseTarget · w.carrier) (shut.trans (hr ha))).trans (if_pos ha).symm)
        · exact (if_neg ha).trans ((shut.trans (State.takeOutcome_of_not (s := closed) ha o)).trans (if_neg ha).symm)
      have accepts (ht : tally answers w.votes = .accepted tag) :
          s.closeWindow n (w.answered ⟨head, result⟩) = read.scoreHeads n answers tag :=
        State.closeWindow_accepted (w := w.answered ⟨head, result⟩) ht
      refine ⟨fun ht => other ht (by simp) fun ha => State.takeOutcome_of (s := closed) ha .noRead,
        fun ht => other ht (by simp) fun ha => State.takeOutcome_of (s := closed) ha .weak,
        fun ht => other ht (by simp) fun ha => State.takeOutcome_of (s := closed) ha .ambiguous, fun ht ha => ?_, fun ht ha => ?_⟩
      · exact closes.trans (congrArg _ ((if_pos ha).trans (congrArg (State.chooseTarget · w.carrier) (accepts ht))))
      · refine closes.trans (congrArg _ ((if_neg ha).trans ((accepts ht).trans ?_)))
        exact congrArg (State.scoreHeads · n answers tag) (State.takeOutcome_of_not (s := closed) ha _)
  · intro x y stored others scored
    have alone : x.polled.any (· != h) = true ↔ others := x.any_polled_iff h
    refine ⟨if_pos rfl, fun ho => if_neg ho, rfl, State.judgeHead_suspended, State.judgeHead_sound, fun hs hl ho => ?_,
      fun hs hl ho hd => ?_, fun hs hl ho hd => ?_, Station.scored_eq answers accepted x,
      fun hh => x.head_scored answers accepted hh, ?_⟩
    · exact (State.judgeHead_poor hs hl).trans (if_pos (alone.2 ho))
    · exact (State.judgeHead_poor hs hl).trans ((if_neg (mt alone.1 ho)).trans (if_pos hd))
    · exact (State.judgeHead_poor hs hl).trans ((if_neg (mt alone.1 ho)).trans (if_neg (Bool.eq_false_iff.1 hd)))
    · have heads : scored.heads = x.heads := by rw [show scored = _ from Station.scored_eq answers accepted x]
      unfold State.scoreHeads
      dsimp only
      rw [State.station_setStation, show ((s.station n).scored answers accepted).heads = x.heads from heads]
      rfl

end Sys2Proof.Machine

/-! SUPPORT. The windows of an ADVANCE: those that close, the poll order, those that open (R39 to R41, R44). -/

namespace Sys2Proof.Machine

/-! ## What an outcome touches -/

/-- The parts that the outcome of carrier `k`'s window may change, and no other carrier (R82 to R87). -/
def State.Routes (s t : State) (k : Nat) : Prop :=
  s.changesOnly t [.carriers, .berths, .router, .lanes, .principals] ∧ ∀ m, m ≠ k → t.carrier m = s.carrier m

theorem State.Routes.refl (s : State) (k : Nat) : s.Routes s k := ⟨s.changesOnly_refl _, fun _ _ => rfl⟩

theorem State.Routes.trans {s t u : State} {k : Nat} (h : s.Routes t k) (h' : t.Routes u k) : s.Routes u k :=
  ⟨State.changesOnly_trans h.1 h'.1, fun m hm => (h'.2 m hm).trans (h.2 m hm)⟩

theorem State.routes_setCarrier (s : State) (k : Nat) (c : Carrier) : s.Routes (s.setCarrier k c) k :=
  ⟨State.changesOnly_mono (s.changesOnly_storeCarrier k c) (by simp), fun _ hm => s.carrier_setCarrier_ne c hm⟩

theorem State.routes_enterDisposition (s : State) (k : Nat) (d : Disposition) : s.Routes (s.enterDisposition k d) k := by
  obtain ⟨frame, -, -, -, -, -, others⟩ := s.retargets_dropTarget k
  have dropped : s.Routes (s.dropTarget k) k :=
    ⟨State.changesOnly_mono frame (by simp), fun m hm => others m (by simpa using hm)⟩
  exact dropped.trans (State.routes_setCarrier _ k _)

theorem State.routes_setBerth (s : State) (b : BerthId) (r : Berth) (k : Nat) : s.Routes (s.setBerth b r) k :=
  ⟨State.changesOnly_mono (s.changesOnly_setBerth b r) (by simp),
    fun m _ => State.carrier_eq_of_carriers (s.setBerth_carriers b r) m⟩

theorem State.routes_matchEntry (s : State) (k : Nat) (d : Identity) : s.Routes (s.matchEntry k d) k := by
  rw [State.matchEntry_eq]
  exact ((s.routes_setCarrier k _).trans (State.routes_enterDisposition _ k _)).trans (State.routes_setBerth _ _ _ k)

theorem State.routes_joinPending (s : State) (k : Nat) (b : BerthId) (serial : Nat) : s.Routes (s.joinPending k b serial) k := by
  have listed : s.Routes (s.setRouter { s.router with pendingTags := s.router.pendingTags ++ [⟨b, serial, k⟩] }) k :=
    ⟨State.changesOnly_mono (s.changesOnly_setRouter _) (by simp), fun _ _ => rfl⟩
  refine (listed.trans (State.routes_setCarrier _ k _)).trans ⟨State.changesOnly_mono (State.changesOnly_post _ _ _) (by simp),
    fun m _ => State.carrier_eq_of_carriers (State.changesOnly_post _ _ _ .carriers (by simp)) m⟩

theorem State.routes_takeAccepted (s : State) (k : Nat) (t : Tag) : s.Routes (s.takeAccepted k t) k := by
  refine (s.routes_setCarrier k { s.carrier k with candidate := some t }).trans ?_
  unfold State.takeAccepted
  dsimp only
  split
  · exact State.routes_enterDisposition _ k _
  · split
    · exact State.routes_enterDisposition _ k _
    · split
      · unfold State.takeListed
        split
        · exact State.routes_matchEntry _ k _
        all_goals exact State.routes_enterDisposition _ k _
      · unfold State.takeUnlisted
        split
        · exact State.routes_enterDisposition _ k _
        · split
          · exact State.routes_joinPending _ k _ _
          · exact State.routes_enterDisposition _ k _

theorem State.routes_takeOutcome (s : State) (k : Nat) (o : ReadOutcome) : s.Routes (s.takeOutcome k o) k := by
  unfold State.takeOutcome
  split
  · cases o with
    | noRead => exact s.routes_enterDisposition k _
    | weak => exact s.routes_enterDisposition k _
    | ambiguous => exact s.routes_enterDisposition k _
    | accepted t => exact s.routes_takeAccepted k t
  · exact .refl s k

/-! ## Scores change head records alone -/

/-- Of station `n` the head records may have changed, and nothing else of the stations (R48 to R50). -/
def State.Scores (s t : State) (n : StationNo) : Prop :=
  s.changesOnly t [.stations, .principals] ∧ t.station n = { s.station n with headRecords := (t.station n).headRecords }
    ∧ ∀ m, m ≠ n → t.station m = s.station m

theorem State.Scores.refl (s : State) (n : StationNo) : s.Scores s n := ⟨s.changesOnly_refl _, rfl, fun _ _ => rfl⟩

theorem State.Scores.trans {s t u : State} {n : StationNo} (h : s.Scores t n) (h' : t.Scores u n) : s.Scores u n := by
  obtain ⟨f, own, others⟩ := h
  obtain ⟨f', own', others'⟩ := h'
  refine ⟨State.changesOnly_trans f f', ?_, fun m hm => (others' m hm).trans (others m hm)⟩
  rw [own', own]

theorem State.scores_setStation (s : State) (n : StationNo) {x : Station}
    (h : x = { s.station n with headRecords := x.headRecords }) : s.Scores (s.setStation n x) n := by
  refine ⟨State.changesOnly_mono (s.changesOnly_setStation n x) (by simp), ?_, fun m hm => s.station_setStation_ne x hm⟩
  rw [State.station_setStation]
  exact h

theorem State.scores_judgeHead (s : State) (n : StationNo) (h : Nat) : s.Scores (s.judgeHead n h) n := by
  unfold State.judgeHead
  dsimp only
  split
  · exact .refl s n
  · split
    · split
      · exact s.scores_setStation n rfl
      · split
        · exact .refl s n
        · refine (s.scores_setStation n (x := (s.station n).setHead h { (s.station n).head h with degraded := true }) rfl).trans ?_
          have posted := State.changesOnly_post
            (s.setStation n ((s.station n).setHead h { (s.station n).head h with degraded := true })) .hall
            (.headDegraded n h ((s.station n).head h).score)
          have same := State.station_eq_of_stations (posted .stations (by simp))
          exact ⟨State.changesOnly_mono posted (by simp), by rw [same], fun m _ => same m⟩
    · exact s.scores_setStation n rfl

theorem State.scores_scoreHeads (s : State) (n : StationNo) (answers : List Answer) (t : Tag) :
    s.Scores (s.scoreHeads n answers t) n := by
  refine (s.scores_setStation n (Station.scored_eq answers t (s.station n))).trans ?_
  refine forEach_keeps (fun u => State.Scores _ u n) _ _ _ (.refl _ n) fun u h _ hu => hu.trans (u.scores_judgeHead n h)

/-! ## Windows that close -/

/-- What the close of station `n`'s window does (R44, R47). -/
theorem State.closeWindow_spec (s : State) (n : StationNo) (w : Window) :
    s.changesOnly (s.closeWindow n w) [.stations, .carriers, .berths, .router, .lanes, .principals]
      ∧ (s.closeWindow n w).station n = { s.station n with
        window := none, headRecords := ((s.closeWindow n w).station n).headRecords }
      ∧ (∀ m, m ≠ n → (s.closeWindow n w).station m = s.station m)
      ∧ ∀ k, w.carrier ≠ k → (s.closeWindow n w).carrier k = s.carrier k := by
  have shut : s.changesOnly (s.shut n) [.stations] := s.changesOnly_setStation n _
  obtain ⟨rframe, rothers⟩ := (s.shut n).routes_takeOutcome w.carrier (tally w.answers w.votes)
  have rstation := State.station_eq_of_stations (rframe .stations (by simp))
  have scored : ((s.shut n).takeOutcome w.carrier (tally w.answers w.votes)).Scores (s.closeWindow n w) n := by
    cases ht : tally w.answers w.votes with
    | accepted t =>
      rw [State.closeWindow_accepted ht]
      exact State.scores_scoreHeads _ n _ _
    | noRead => rw [State.closeWindow_other ht (by simp)]; exact .refl _ n
    | weak => rw [State.closeWindow_other ht (by simp)]; exact .refl _ n
    | ambiguous => rw [State.closeWindow_other ht (by simp)]; exact .refl _ n
  obtain ⟨sframe, sown, sothers⟩ := scored
  refine ⟨State.changesOnly_comp (State.changesOnly_comp shut rframe
    (rs := [.stations, .carriers, .berths, .router, .lanes, .principals]) (by simp) (by simp)) sframe (by simp) (by simp), ?_,
    fun m hm => ?_, fun k hk => ?_⟩
  · rw [sown, rstation, State.shut, State.station_setStation]
  · rw [sothers m hm, rstation, State.shut, State.station_setStation_ne _ _ hm]
  · rw [State.carrier_eq_of_carriers (sframe .carriers (by simp)), rothers k (Ne.symm hk)]
    rfl

theorem Station.unread_of {x : Station} (h : x.window = none) : x = { x with window := none } := by
  cases x
  exact congrArg _ h

/-- The step of R44 at one station. -/
def State.closeAt (acc : State × List Nat) (n : StationNo) : State × List Nat :=
  match (acc.1.station n).window with
  | none => acc
  | some w => (acc.1.closeWindow n w, acc.2 ++ if (acc.1.carrier w.carrier).awaitsRead then [w.carrier] else [])

/-- What has been closed when the stations `ns` have been looked at. -/
structure State.ClosedUpTo (s t : State) (ns : List StationNo) : Prop where
  frame : s.changesOnly t [.stations, .carriers, .berths, .router, .lanes, .principals]
  closed : ∀ n ∈ ns, t.station n = { s.station n with window := none, headRecords := (t.station n).headRecords }
  others : ∀ n, n ∉ ns → t.station n = s.station n
  carrier : ∀ k, (∀ n, ∀ w ∈ (s.station n).window, w.carrier ≠ k) → t.carrier k = s.carrier k

theorem State.ClosedUpTo.step {s : State} {acc : State × List Nat} {ns : List StationNo} {n : StationNo}
    (h : s.ClosedUpTo acc.1 ns) (hn : n ∉ ns) : s.ClosedUpTo (State.closeAt acc n).1 (ns ++ [n]) := by
  have own := h.others n hn
  unfold State.closeAt
  split
  · next hw =>
    refine ⟨h.frame, fun m hm => ?_, fun m hm => h.others m (by simp at hm; exact hm.1), h.carrier⟩
    rcases List.mem_append.1 hm with hm | hm
    · exact h.closed m hm
    · rw [List.mem_singleton.1 hm, own]
      rw [own] at hw
      exact Station.unread_of hw
  · next w hw =>
    obtain ⟨frame, closed, others, carrier⟩ := acc.1.closeWindow_spec n w
    refine ⟨State.changesOnly_trans h.frame frame, fun m hm => ?_, fun m hm => ?_, fun k hk => ?_⟩
    · by_cases hmn : m = n
      · rw [hmn, ← own]
        exact closed
      · have hm : m ∈ ns := by simpa [hmn] using hm
        rw [others m hmn]
        exact h.closed m hm
    · simp only [List.mem_append, List.mem_singleton, not_or] at hm
      exact (others m hm.2).trans (h.others m hm.1)
    · exact (carrier k (hk n w (own ▸ hw))).trans (h.carrier k hk)

theorem State.closedUpTo_foldl (s : State) (ns : List StationNo) (hn : ns.Nodup) :
    s.ClosedUpTo (ns.foldl State.closeAt (s, [])).1 ns := by
  induction ns using List.reverseRecOn with
  | nil => exact ⟨s.changesOnly_refl _, fun n hn => by simp at hn, fun _ _ => rfl, fun _ _ => rfl⟩
  | append_singleton ns n ih =>
    rw [List.nodup_append] at hn
    obtain ⟨hn, -, apart⟩ := hn
    rw [List.foldl_append]
    exact (ih hn).step fun h => apart n h n (List.mem_singleton.2 rfl) rfl

theorem State.closeWindows_eq (s : State) : s.closeWindows = allStations.foldl State.closeAt (s, []) := rfl

/-! ## The poll order -/

theorem Station.cycle_ne_nil {x : Station} (h : x.polled ≠ []) : x.cycle ≠ [] := by
  unfold Station.cycle
  dsimp only
  split
  · exact h
  · next hne =>
    simp only [Bool.or_eq_true, List.isEmpty_iff, not_or] at hne
    obtain ⟨o, rest, ho⟩ := List.exists_cons_of_ne_nil hne.2
    rw [ho]
    simp

theorem Station.pollOrder_get {x : Station} (h : x.polled ≠ []) {i : Nat} (hi : i < x.polls) :
    x.pollOrder[i]? = x.cycle[i % x.cycle.length]? := by
  have inside : i % x.cycle.length < x.cycle.length := Nat.mod_lt _ (List.length_pos_iff.2 (Station.cycle_ne_nil h))
  simp [Station.pollOrder, hi, List.getD_eq_getElem?_getD, inside]

/-! ## Windows that open -/

/-- The carrier on which station `n` opens a window (R40). -/
def State.opensOn (s : State) (excluded : List Nat) (n : StationNo) : Option Nat :=
  (s.station n).offset.bind fun d =>
    if (s.station n).enabled = true ∧ (s.mode = .run ∨ s.mode = .hold ∨ s.mode = .draining)
      ∧ ((s.carrier (s.loop.carrierAt d)).state = .unread ∨ (s.carrier (s.loop.carrierAt d)).state = .unverified)
      ∧ s.loop.carrierAt d ∉ excluded then some (s.loop.carrierAt d) else none

theorem State.considerWindow_eq (s : State) (excluded : List Nat) (n : StationNo) :
    s.considerWindow excluded n = match s.opensOn excluded n with
      | none => s
      | some k => s.openWindow n k := by
  have test (d) : (s.mode.sorts && (s.carrier (s.loop.carrierAt d)).awaitsRead && !excluded.contains (s.loop.carrierAt d)) = true
      ↔ (s.mode = .run ∨ s.mode = .hold ∨ s.mode = .draining)
        ∧ ((s.carrier (s.loop.carrierAt d)).state = .unread ∨ (s.carrier (s.loop.carrierAt d)).state = .unverified)
        ∧ s.loop.carrierAt d ∉ excluded := by
    simp [Mode.sorts_iff, Carrier.awaitsRead_iff, and_assoc]
  unfold State.considerWindow State.opensOn
  cases he : (s.station n).enabled <;> cases ho : (s.station n).offset with
  | none => rfl
  | some d => ?_
  · simp
  · dsimp only [Option.bind_some]
    by_cases h : (s.mode.sorts && (s.carrier (s.loop.carrierAt d)).awaitsRead && !excluded.contains (s.loop.carrierAt d)) = true
    · rw [if_pos h, if_pos ⟨rfl, (test d).1 h⟩]
    · rw [if_neg h, if_neg fun hc => h ((test d).2 hc.2)]

/-- The poll number of the first poll of a window. -/
def State.firstPoll (s : State) (n : StationNo) : Nat := ((s.station n).pollNumber + 1) % 256

/-- The head of the first poll of a window. -/
def State.firstHead (s : State) (n : StationNo) : Nat := (s.station n).pollOrder.getD 0 0

/-- A station whose window has been opened on carrier `k`, its first poll sent (R40). -/
def State.stationOpened (s : State) (n : StationNo) (k : Nat) : Station :=
  { s.station n with
    pollNumber := s.firstPoll n
    window := some ⟨k, (s.carrier k).state, (s.station n).polls, (s.station n).votes, (s.station n).pollOrder, [],
      some ⟨s.firstHead n, s.firstPoll n⟩⟩ }

theorem State.openWindow_eq (s : State) (n : StationNo) (k : Nat) :
    s.openWindow n k = (s.setStation n (s.stationOpened n k)).handOver (.poll n (s.firstHead n) (s.firstPoll n)) := rfl

/-- What has been opened when the stations `ns` have been looked at. -/
structure State.OpenedUpTo (s t : State) (excluded : List Nat) (ns : List StationNo) : Prop where
  frame : s.changesOnly t [.stations, .orders]
  closed : ∀ n, (n ∈ ns → s.opensOn excluded n = none) → t.station n = s.station n
  opened : ∀ n ∈ ns, ∀ k ∈ s.opensOn excluded n, t.station n = s.stationOpened n k
  orders : t.orders = s.orders ++ (ns.filterMap fun n => (s.opensOn excluded n).map fun _ =>
    Order.poll n (s.firstHead n) (s.firstPoll n)).take (32 - s.orders.length)

theorem State.OpenedUpTo.step {s t : State} {excluded : List Nat} {ns : List StationNo} {n : StationNo}
    (h : s.OpenedUpTo t excluded ns) (hn : n ∉ ns) : s.OpenedUpTo (t.considerWindow excluded n) excluded (ns ++ [n]) := by
  have own : t.station n = s.station n := h.closed n fun hmem => absurd hmem hn
  have loop : t.loop = s.loop := h.frame .loop (by simp)
  have mode : t.mode = s.mode := h.frame .mode (by simp)
  have carrier := State.carrier_eq_of_carriers (h.frame .carriers (by simp))
  have opens : t.opensOn excluded n = s.opensOn excluded n := by
    simp only [State.opensOn, own, loop, mode, carrier]
  rw [State.considerWindow_eq, opens]
  cases ho : s.opensOn excluded n with
  | none =>
    refine ⟨h.frame, fun m hm => h.closed m fun hmem => hm (List.mem_append_left _ hmem), fun m hm k hk => ?_, ?_⟩
    · rcases List.mem_append.1 hm with hm | hm
      · exact h.opened m hm k hk
      · rw [List.mem_singleton.1 hm, ho] at hk
        cases hk
    · rw [h.orders, List.filterMap_append]
      simp [ho]
  | some k =>
    dsimp only
    have first : t.firstPoll n = s.firstPoll n ∧ t.firstHead n = s.firstHead n := by
      rw [State.firstPoll, State.firstHead, own]
      exact ⟨rfl, rfl⟩
    have opened : t.stationOpened n k = s.stationOpened n k := by
      rw [State.stationOpened, State.stationOpened, own, carrier, first.1, first.2]
    rw [State.openWindow_eq, opened, first.1, first.2]
    have handed := State.changesOnly_handOver (t.setStation n (s.stationOpened n k)) (.poll n (s.firstHead n) (s.firstPoll n))
    have station := State.station_eq_of_stations (handed .stations (by simp))
    refine ⟨State.changesOnly_comp (State.changesOnly_comp h.frame (t.changesOnly_setStation n _) (rs := [.stations, .orders])
      (by simp) (by simp)) handed (by simp) (by simp), fun m hm => ?_, fun m hm i hi => ?_, ?_⟩
    · have hmn : m ≠ n := by
        rintro rfl
        exact nomatch (hm (by simp)).symm.trans ho
      rw [station, State.station_setStation_ne _ _ hmn]
      exact h.closed m fun hmem => hm (List.mem_append_left _ hmem)
    · by_cases hmn : m = n
      · subst hmn
        rw [station, State.station_setStation]
        rw [Option.some.inj (hi.symm.trans ho)]
      · rw [station, State.station_setStation_ne _ _ hmn]
        exact h.opened m (by simpa [hmn] using hm) i hi
    · rw [State.orders_handOver, State.setStation_orders, h.orders, List.filterMap_append]
      simpa [ho] using append_take_room 32 s.orders _ (Order.poll n (s.firstHead n) (s.firstPoll n))

theorem State.openedUpTo_forEach (s : State) (excluded : List Nat) (ns : List StationNo) (hn : ns.Nodup) :
    s.OpenedUpTo (forEach ns (fun s n => s.considerWindow excluded n) s) excluded ns := by
  induction ns using List.reverseRecOn with
  | nil => exact ⟨s.changesOnly_refl _, fun _ _ => rfl, fun n hn => by simp at hn, by simp [forEach]⟩
  | append_singleton ns n ih =>
    rw [List.nodup_append] at hn
    obtain ⟨hn, -, apart⟩ := hn
    rw [forEach, List.foldl_append]
    exact (ih hn).step fun h => apart n h n (List.mem_singleton.2 rfl) rfl

theorem Carrier.append_awaitsRead (c : Carrier) (ks : List Nat) (k : Nat) :
    (if c.state = .unread ∨ c.state = .unverified then ks ++ [k] else ks) = ks ++ if c.awaitsRead then [k] else [] := by
  simp only [← Carrier.awaitsRead_iff]
  split <;> simp

/-- Settles O54. -/
theorem windowsCloseAndOpen : Obligations.WindowsCloseAndOpen := by
  refine ⟨fun s n w tag => ?_, fun s => ?_, fun x => ?_, fun s excluded => ?_⟩
  · intro closed outcome
    refine ⟨fun h => ?_, fun h => State.closeWindow_other rfl h⟩
    rw [h]
    exact State.closeWindow_accepted h
  · intro close t
    have steps (acc n) : close acc n = State.closeAt acc n := by
      unfold State.closeAt
      dsimp only [close]
      cases (acc.1.station n).window with
      | none => rfl
      | some w =>
        dsimp only
        rw [Carrier.append_awaitsRead]
    have closed : s.ClosedUpTo t allStations := s.closedUpTo_foldl allStations (List.nodup_finRange 4)
    refine ⟨?_, closed.frame, fun n => ?_, closed.carrier⟩
    · simp only [steps]
      rfl
    · have h := closed.closed n (List.mem_finRange n)
      exact ⟨by rw [h], h⟩
  · intro polled first others cycle hp
    have same : cycle = x.cycle := by
      simp only [cycle, Station.cycle, Bool.or_eq_true, List.isEmpty_iff]
      rfl
    rw [same]
    exact ⟨Station.cycle_ne_nil hp, by simp [Station.pollOrder], fun i hi => Station.pollOrder_get hp hi⟩
  · intro t opens number head
    have opened : s.OpenedUpTo t excluded allStations := s.openedUpTo_forEach excluded allStations (List.nodup_finRange 4)
    exact ⟨opened.frame, fun n hn => opened.closed n fun _ => hn, fun n k hk => opened.opened n (List.mem_finRange n) k hk,
      opened.orders⟩

end Sys2Proof.Machine

/-! SUPPORT. The coding station's exchanges: the checks of R141 and the requests without a new entry (R142, R145, R146). -/

namespace Sys2Proof.Machine

/-! ## The checks of R141 -/

theorem ticketOf_eq_none_iff (n : Nat) : (ticketOf n).isNone = true ↔ ¬(1 ≤ n ∧ n ≤ 4095) := by
  unfold ticketOf
  split <;> simp_all [Config.lastTicket]

section
variable {s : State} (q : CodingRequest) {ticket : Nat} (body : StrayRecord → Coded)

theorem State.codingRequest_busy (h : s.coding.exchange ≠ none) :
    s.codingRequest q ticket body = s.handOver (.busy q ticket) :=
  if_pos (Option.isSome_iff_ne_none.2 h)

theorem State.codingRequest_untold (h : s.coding.exchange = none) (hv : ¬(1 ≤ ticket ∧ ticket ≤ 4095)) :
    s.codingRequest q ticket body = s.answer q ticket [.error q ticket .noTicket] := by
  rw [State.codingRequest, if_neg (by simp [h]), if_pos ((ticketOf_eq_none_iff ticket).2 hv)]

theorem State.codingRequest_coded (h : s.coding.exchange = none) (hv : 1 ≤ ticket ∧ ticket ≤ 4095)
    (hc : s.coding.reinject.any (·.ticket == ticket) = true) :
    s.codingRequest q ticket body = s.answer q ticket [.error q ticket .alreadyCoded] := by
  rw [State.codingRequest, if_neg (by simp [h]), if_neg fun hn => (ticketOf_eq_none_iff ticket).1 hn hv, if_pos hc]

theorem State.codingRequest_missing (h : s.coding.exchange = none) (hv : 1 ≤ ticket ∧ ticket ≤ 4095)
    (hc : s.coding.reinject.any (·.ticket == ticket) = false)
    (hf : s.coding.strays.find? (·.ticket == ticket) = none) :
    s.codingRequest q ticket body = s.answer q ticket [.error q ticket .noTicket] := by
  rw [State.codingRequest, if_neg (by simp [h]), if_neg fun hn => (ticketOf_eq_none_iff ticket).1 hn hv,
    if_neg (ne_true_of_eq_false hc), hf]

theorem State.codingRequest_found {r : StrayRecord} (h : s.coding.exchange = none) (hv : 1 ≤ ticket ∧ ticket ≤ 4095)
    (hc : s.coding.reinject.any (·.ticket == ticket) = false)
    (hf : s.coding.strays.find? (·.ticket == ticket) = some r) :
    (∀ e, body r = .error e → s.codingRequest q ticket body = s.answer q ticket [.error q ticket e])
      ∧ ∀ u data, body r = .done u data → s.codingRequest q ticket body = u.answer q ticket (doneRecords q ticket data) := by
  rw [State.codingRequest, if_neg (by simp [h]), if_neg fun hn => (ticketOf_eq_none_iff ticket).1 hn hv,
    if_neg (ne_true_of_eq_false hc), hf]
  exact ⟨fun e he => by simp only [he], fun u data hd => by simp only [hd]⟩

end

/-- The rule of each request, after the checks of R141. -/
def State.codedBy (s : State) (m n : Nat) : CodingRequest → StrayRecord → Coded
  | .fetch => fun r => .done s (s.fetchData r)
  | .codeTag => s.codeTag m n
  | .codeCabin => s.codeCabin m n
  | .remove => fun r => .done (s.removeStray r) []
  | .retry => s.retryStray

/-! ## Those who are told -/

/-- HALL is told, and the principal of an entry's berth when there is one (R149). -/
def State.tellReferred (s : State) (d : Option Identity) (body : NoticeBody) : State :=
  match d with
  | none => s.post .hall body
  | some d => s.postHallAnd d.berth body

theorem State.postResolved_reference (s : State) (d : Option Identity) (body : NoticeBody) :
    s.postResolved (d.map (·.berth)).toList body = s.tellReferred d body := by
  rcases d with _ | ⟨b, n⟩
  · rfl
  · cases b <;> rfl

/-- Settles O59. -/
theorem codingRequestsAreTaken : Obligations.CodingRequestsAreTaken := by
  intro s ticket m n r answered outcome valid coded found free record entry berth rest told tell removed gone moved
  have requested (q) : outcome q = .next (s.codingRequest q ticket (s.codedBy m n q)) := by cases q <;> rfl
  refine ⟨fun q h => ?_, fun q h hv => ?_, fun q h hv hc => ?_, fun q h hv hc hf => ?_, fun h hv hc hf => ?_⟩
  · rw [requested q, State.codingRequest_busy q _ h]
    rfl
  · rw [requested q, State.codingRequest_untold q _ h hv]
    rfl
  · rw [requested q, State.codingRequest_coded q _ h hv hc]
    rfl
  · rw [requested q, State.codingRequest_missing q _ h hv hc hf]
    rfl
  · have hr : r.ticket = ticket := by simpa using List.find?_some hf
    have answers (q) := State.codingRequest_found q (s.codedBy m n q) h hv hc hf
    refine ⟨?_, ?_, fun hl => ?_, fun hl => ?_⟩
    · rw [requested .fetch, (answers .fetch).2 s (s.fetchData r) rfl]
      have data : s.fetchData r = record ++ (match entry with | none => List.replicate 9 0 | some bytes => 1 :: bytes)
          ++ match berth with | none => [0, 0, 0] | some bytes => 1 :: bytes := by
        have parts : s.fetchData r = record ++ groupBytes 8 entry ++ groupBytes 2 berth := rfl
        rw [parts]
        cases entry <;> cases berth <;> rfl
      rw [data]
      rfl
    · rw [requested .remove, (answers .remove).2 (s.removeStray r) [] rfl]
      have effect : s.removeStray r = tell gone (told gone .remove .offSystem) := by
        unfold State.removeStray
        simp only [State.postResolved_reference, hr]
        dsimp only [tell, gone, told, removed, rest]
        cases r.reference <;> rfl
      rw [effect]
      rfl
    · rw [requested .retry, (answers .retry).1 .listFull (if_pos hl)]
      rfl
    · rw [requested .retry, (answers .retry).2 (tell moved (told moved .retry .unchanged)) [] ?_]
      · rfl
      · refine (if_neg (Nat.not_le.2 hl)).trans ?_
        rw [State.postResolved_reference, hr, State.moveRecord, hr]
        rfl

end Sys2Proof.Machine

/-! SUPPORT. CODE TAG and CODE CABIN (R143, R144). -/

namespace Sys2Proof.Machine

/-! ## Leaving an entry -/

theorem State.entryOf_setBerth (s : State) (b : BerthId) (r : Berth) (d : Identity) :
    (s.setBerth b r).entryOf d = if d.berth = b then r.findEntry d.entry else s.entryOf d := by
  unfold State.entryOf
  by_cases h : d.berth = b
  · rw [h, State.berth_setBerth, if_pos rfl]
  · rw [State.berth_setBerth_ne s r h, if_neg h]

theorem State.entryOf_congr {s t : State} (h : t.berths = s.berths) (d : Identity) : t.entryOf d = s.entryOf d := by
  rw [State.entryOf, State.berth_eq_of_berths h, State.entryOf]

theorem State.entryOf_dropEntryTicket (s : State) (old d : Identity) :
    (s.dropEntryTicket old.berth old.entry).entryOf d
      = if d = old then (s.entryOf d).map fun e => { e with ticket := none } else s.entryOf d := by
  obtain ⟨b, n⟩ := old
  obtain ⟨b', m⟩ := d
  show (s.setBerth b ((s.berth b).untickets n)).entryOf _ = _
  rw [State.entryOf_setBerth, Berth.findEntry_untickets]
  by_cases hb : b' = b
  · subst hb
    by_cases hm : m = n
    · subst hm
      simp [State.entryOf]
    · simp [State.entryOf, hm]
  · simp [hb]

/-- The entry that step 1 of R143 takes the ticket from: the one that the record refers to, unless it is resolved to. -/
theorem State.entryOf_leaveEntry (s : State) (r : StrayRecord) (kept : Option Identity) (d : Identity) :
    (s.leaveEntry r kept).entryOf d
      = if r.reference = some d ∧ some d ≠ kept then (s.entryOf d).map fun e => { e with ticket := none }
        else s.entryOf d := by
  unfold State.leaveEntry
  cases hr : r.reference with
  | none => simp
  | some old =>
    dsimp only
    by_cases ho : some old = kept
    · rw [if_pos ho]
      by_cases hd : old = d
      · rw [if_neg fun h => h.2 (hd ▸ ho)]
      · rw [if_neg fun h => hd (Option.some.inj h.1)]
    · rw [if_neg ho, State.entryOf_dropEntryTicket]
      by_cases hd : d = old
      · rw [if_pos hd, if_pos ⟨congrArg some hd.symm, hd ▸ ho⟩]
      · rw [if_neg hd, if_neg fun h => hd (Option.some.inj h.1).symm]

theorem State.changesOnly_leaveEntry (s : State) (r : StrayRecord) (kept : Option Identity) :
    s.changesOnly (s.leaveEntry r kept) [.berths] := by
  unfold State.leaveEntry
  split
  · exact s.changesOnly_refl _
  · split
    · exact s.changesOnly_refl _
    · exact s.changesOnly_setBerth _ _

theorem State.deckMap_leaveEntry (s : State) (r : StrayRecord) (kept : Option Identity) (b : BerthId) :
    ((s.leaveEntry r kept).berth b).deckMap = (s.berth b).deckMap := by
  unfold State.leaveEntry
  split
  · rfl
  · next old _ =>
    split
    · rfl
    · unfold State.dropEntryTicket
      by_cases h : b = old.berth
      · rw [h, State.berth_setBerth]
        rfl
      · rw [State.berth_setBerth_ne _ _ h]

/-! ## The record passes to the reinject list -/

/-- What is told of a stray resolved, to the principals of the berths named (R149). -/
theorem State.postResolved_eq (s : State) (bs : List BerthId) (body : NoticeBody) (told : BerthId → State → State)
    (h : ∀ o u, told o u = if o ∈ bs then u.post (.berth o) body else u) :
    s.postResolved bs body = told .two (told .one (s.post .hall body)) := by
  rw [h, h]
  by_cases h1 : BerthId.one ∈ bs <;> by_cases h2 : BerthId.two ∈ bs <;>
    simp [State.postResolved, allBerths, forEach, h1, h2]

/-- The state in which the entry coded to holds the ticket, and the record is still in the stray list. -/
structure State.CodesEntry (s u : State) (r : StrayRecord) (d : Identity) (serial : Option Nat) : Prop where
  frame : s.changesOnly u [.berths]
  left : ∀ x, r.reference = some x → x ≠ d → u.entryOf x = (s.entryOf x).map fun e => { e with ticket := none }
  others : ∀ x, r.reference ≠ some x → x ≠ d → u.entryOf x = s.entryOf x
  state : ∀ o, (u.berth o).state = (s.berth o).state
  deckMap : ∀ o, (u.berth o).deckMap = (s.berth o).deckMap
  serial : (u.entryOf d).bind (·.serial) = serial

/-- A berth record put in, after the record's reference has been left, that differs in one entry and in cabins alone. -/
theorem State.CodesEntry.of_leave {s : State} {r : StrayRecord} {kept : Option Identity} {b : BerthId} {n : Nat}
    {y : Berth} {e : Entry} (hto : ∀ x, kept = some x → x = ⟨b, n⟩) (hentry : y.findEntry n = some e)
    (hothers : ∀ m, m ≠ n → y.findEntry m = ((s.leaveEntry r kept).berth b).findEntry m)
    (hstate : y.state = ((s.leaveEntry r kept).berth b).state)
    (hdeck : y.deckMap = ((s.leaveEntry r kept).berth b).deckMap) :
    s.CodesEntry ((s.leaveEntry r kept).setBerth b y) r ⟨b, n⟩ e.serial := by
  have others (x : Identity) (hx : x ≠ ⟨b, n⟩) :
      ((s.leaveEntry r kept).setBerth b y).entryOf x = (s.leaveEntry r kept).entryOf x := by
    rw [State.entryOf_setBerth]
    split
    · next hb =>
      have hm : x.entry ≠ n := fun h => hx (by cases x; cases hb; cases h; rfl)
      rw [hothers _ hm, State.entryOf, hb]
    · rfl
  refine ⟨State.changesOnly_comp (s.changesOnly_leaveEntry r kept) (State.changesOnly_setBerth _ b _) (by simp) (by simp),
    fun x hx hne => ?_, fun x hx hne => ?_, fun o => ?_, fun o => ?_, ?_⟩
  · rw [others x hne, State.entryOf_leaveEntry, if_pos ⟨hx, fun h => hne (hto x h.symm)⟩]
  · rw [others x hne, State.entryOf_leaveEntry, if_neg fun h => hx h.1]
  · by_cases ho : o = b
    · rw [ho, State.berth_setBerth, hstate]
      exact (s.berth_leaveEntry r kept b).2.1
    · rw [State.berth_setBerth_ne _ _ ho]
      exact (s.berth_leaveEntry r kept o).2.1
  · by_cases ho : o = b
    · rw [ho, State.berth_setBerth, hdeck]
      exact s.deckMap_leaveEntry r kept b
    · rw [State.berth_setBerth_ne _ _ ho]
      exact s.deckMap_leaveEntry r kept o
  · rw [State.entryOf_setBerth, if_pos rfl, hentry]
    rfl

theorem State.coding_codeTo (u : State) (q : CodingRequest) (r : StrayRecord) (d : Identity) :
    (u.codeTo q r d).coding = (u.moveRecord r .coded (some d.berth) (some d.entry)).coding :=
  State.coding_postResolved _ _ _

theorem State.changesOnly_postResolved (s : State) (bs : List BerthId) (body : NoticeBody) :
    s.changesOnly (s.postResolved bs body) [.principals] :=
  State.changesOnly_trans (s.changesOnly_post _ _)
    (forEach_changesOnly (fun u o => u.changesOnly_post (.berth o) body) _ _)

theorem State.changesOnly_codeTo (u : State) (q : CodingRequest) (r : StrayRecord) (d : Identity) :
    u.changesOnly (u.codeTo q r d) [.coding, .principals] :=
  State.changesOnly_comp (u.changesOnly_setCoding _) (State.changesOnly_postResolved _ _ _) (by simp) (by simp)

/-- What an answer leaves: its records and exchange, when there is room for all of them (R141, R184). -/
theorem State.answer_spec (u : State) (q : CodingRequest) (ticket : Nat) (records : List Order) :
    (if u.orders.length + records.length ≤ 32 then
      (u.answer q ticket records).orders = u.orders ++ records
        ∧ (u.answer q ticket records).coding.exchange = some ⟨q, ticket⟩
    else (u.answer q ticket records).orders = u.orders
      ∧ (u.answer q ticket records).coding.exchange = u.coding.exchange)
    ∧ (u.answer q ticket records).coding = { u.coding with exchange := (u.answer q ticket records).coding.exchange } := by
  by_cases h : u.orders.length + records.length ≤ 32
  · rw [if_pos h, show u.answer q ticket records = _ from if_pos h]
    exact ⟨⟨rfl, rfl⟩, rfl⟩
  · rw [if_neg h, show u.answer q ticket records = _ from if_neg h]
    exact ⟨⟨rfl, rfl⟩, rfl⟩

/-- The STRAY RESOLVED notice of a record coded to an entry, with the sizes of both lists after the move (R149). -/
def StrayRecord.codedNotice (r : StrayRecord) (s : State) (q : CodingRequest) (d : Identity) (serial : Option Nat) : NoticeBody :=
  .strayResolved r.ticket q (some d.berth) (some d.entry) serial .strayedWithTicket
    (s.coding.strays.filter (·.ticket != r.ticket)).length (s.coding.reinject.length + 1)

theorem State.PostsAs.postResolved {s t : State} (h : s.PostsAs t) (bs : List BerthId) (body : NoticeBody) :
    (s.postResolved bs body).PostsAs (t.postResolved bs body) := by
  unfold State.postResolved
  have start := h.post .hall body
  generalize s.post .hall body = u, t.post .hall body = v at start
  generalize allBerths.filter (bs.contains ·) = os
  induction os generalizing u v with
  | nil => exact start
  | cons o os ih => exact ih _ _ (start.post (.berth o) body)

theorem State.CodesEntry.principals_codeTo {s u : State} {r : StrayRecord} {d : Identity} {serial : Option Nat}
    (h : s.CodesEntry u r d serial) (q : CodingRequest) :
    (u.codeTo q r d).principals
      = (s.postResolved (d.berth :: (r.reference.map (·.berth)).toList) (r.codedNotice s q d serial)).principals := by
  have coding : u.coding = s.coding := h.frame .coding (by simp)
  have notice : (u.moveRecord r .coded (some d.berth) (some d.entry)).resolvedNotice q r.ticket (some d) .strayedWithTicket
      = r.codedNotice s q d serial := by
    have entry : (u.moveRecord r .coded (some d.berth) (some d.entry)).entryOf d = u.entryOf d := rfl
    rw [State.resolvedNotice, Option.bind_some, entry, h.serial]
    simp [State.moveRecord, StrayRecord.codedNotice, coding]
  rw [State.codeTo, notice]
  have same : s.PostsAs (u.moveRecord r .coded (some d.berth) (some d.entry)) :=
    ⟨h.frame .principals (by simp), h.frame .loop (by simp)⟩
  exact (same.postResolved _ _).1

theorem State.berths_codeTo_answer (u : State) (q q' : CodingRequest) (r : StrayRecord) (d : Identity) (ticket : Nat)
    (records : List Order) : ((u.codeTo q r d).answer q' ticket records).berths = u.berths :=
  (State.changesOnly_answer _ q' ticket records .berths (by simp)).trans (u.changesOnly_codeTo q r d .berths (by simp))

theorem State.findCabin_leaveEntry (s : State) (r : StrayRecord) (kept : Option Identity) (b : BerthId) (m : Nat) :
    ((s.leaveEntry r kept).berth b).findCabin m = (s.berth b).findCabin m :=
  congrArg (fun cs : List Cabin => cs.find? fun c : Cabin => c.number == m) (s.berth_leaveEntry r kept b).1

/-! ## The checks -/

theorem State.boundTo_none {s : State} {ship : Nat} (h : ∀ o, (s.berth o).state ≠ .bound ship) : s.boundTo ship = none :=
  List.find?_eq_none.2 fun o _ => by simpa using h o

theorem State.boundTo_some {s : State} {ship : Nat} {b : BerthId} (h : ∀ o, (s.berth o).state = .bound ship ↔ o = b) :
    s.boundTo ship = some b := by
  have test : (fun o => (s.berth o).state == .bound ship) = fun o => decide (o = b) :=
    funext fun o => by rw [beq_eq_decide, decide_eq_decide]; exact h o
  rw [State.boundTo, test]
  cases b <;> rfl

theorem Entry.codable_iff (e : Entry) (ticket : Nat) :
    e.codable ticket = true ↔ e.state = .expected ∨ e.state = .offSystem
      ∨ e.state = .strayed ∧ (e.ticket = none ∨ e.ticket = some ticket) := by
  unfold Entry.codable
  cases e.state <;> simp

section
variable {s : State} {r : StrayRecord} {b : BerthId} {ship serial : Nat} {e : Entry}

theorem State.codeTag_known (hb : s.boundTo ship = some b) (he : (s.berth b).findSerial serial = some e) :
    s.codeTag ship serial r = if !e.codable r.ticket then .error .tagInUse
      else if 16 ≤ s.coding.reinject.length then .error .listFull
      else .done (((s.leaveEntry r (some ⟨b, e.index⟩)).setEntryState b e.index .strayed (some r.ticket)).codeTo .codeTag r
        ⟨b, e.index⟩) (codedData ⟨b, e.index⟩ ((s.berth b).cabinOfEntry e)) := by
  simp only [State.codeTag, hb, he]
  rfl

theorem State.codeCabin_known {cabin : Nat} {x : Cabin} (hb : (s.berth b).state.isBound = true)
    (hx : (s.berth b).findCabin cabin = some x) :
    s.codeCabin b.number cabin r = if 15 ≤ x.entries.length then .error .cabinFull
      else if 8192 ≤ (s.berth b).tags.length then .error .tableFull
      else if 16 ≤ s.coding.reinject.length then .error .listFull
      else .done (((s.leaveEntry r none).setBerth b (((s.leaveEntry r none).berth b).makeEntry none cabin .strayed
        (some r.ticket))).codeTo .codeCabin r ⟨b, (s.berth b).freeIndex⟩) (codedData ⟨b, (s.berth b).freeIndex⟩ x) := by
  have number : berthOf b.number = some b := by cases b <;> rfl
  simp only [State.codeCabin, number, hb, hx]
  rfl

end

/-- Leaving an entry keeps the free index of each berth (R59). -/
theorem State.freeIndex_leaveEntry (s : State) (r : StrayRecord) (kept : Option Identity) (b : BerthId) :
    ((s.leaveEntry r kept).berth b).freeIndex = (s.berth b).freeIndex := by
  have indexes : ((s.leaveEntry r kept).berth b).tags.map (·.index) = (s.berth b).tags.map (·.index) := by
    unfold State.leaveEntry
    split
    · rfl
    · next old _ =>
      split
      · rfl
      · unfold State.dropEntryTicket
        by_cases h : b = old.berth
        · rw [h, State.berth_setBerth]
          show (List.map _ _).map _ = _
          rw [List.map_map]
          exact List.map_congr_left fun e _ => by simp only [Function.comp]; split <;> rfl
        · rw [State.berth_setBerth_ne _ _ h]
  have same (x y : Berth) (h : x.tags.map (·.index) = y.tags.map (·.index)) : x.freeIndex = y.freeIndex := by
    have length : x.tags.length = y.tags.length := by simpa using congrArg List.length h
    have free (z : Berth) (i : Nat) : z.tags.all (·.index != i) = (z.tags.map (·.index)).all (· != i) := by
      rw [List.all_map]
      rfl
    simp only [Berth.freeIndex, length, free, h]
  exact same _ _ indexes

/-- Settles O60. -/
theorem straysAreCoded : Obligations.StraysAreCoded := by
  intro s ticket ship serial n cabin i r b e x hfree hlow hhigh hreinject hfound
  obtain rfl : r.ticket = ticket := by simpa using List.find?_some hfound
  intro tagged inCabin error bound usable free told coded
  have tag := State.codingRequest_found .codeTag (s.codeTag ship serial) hfree ⟨hlow, hhigh⟩ hreinject hfound
  have cab (n) := State.codingRequest_found .codeCabin (s.codeCabin n cabin) hfree ⟨hlow, hhigh⟩ hreinject hfound
  have tagError (c) (h : s.codeTag ship serial r = .error c) : tagged = .next (error .codeTag c) :=
    congrArg Host.Outcome.next (tag.1 c h)
  have cabError (n c) (h : s.codeCabin n cabin r = .error c) : inCabin n = .next (error .codeCabin c) :=
    congrArg Host.Outcome.next ((cab n).1 c h)
  have finish (q entry serial c u) (h : s.CodesEntry u r ⟨b, entry⟩ serial) :
      coded q entry serial c ((u.codeTo q r ⟨b, entry⟩).answer q r.ticket (doneRecords q r.ticket (codedData ⟨b, entry⟩ c))) := by
    obtain ⟨uframe, left, others, state, deckMap, hserial⟩ := h
    have ucoding : u.coding = s.coding := uframe .coding (by simp)
    have uloop : u.loop = s.loop := uframe .loop (by simp)
    have cframe := u.changesOnly_codeTo q r ⟨b, entry⟩
    have ccoding := u.coding_codeTo q r ⟨b, entry⟩
    have telling (o : BerthId) (w : State) : told o (r.codedNotice s q ⟨b, entry⟩ serial) w
        = if o ∈ b :: (r.reference.map (·.berth)).toList then w.post (.berth o) (r.codedNotice s q ⟨b, entry⟩ serial)
          else w := by
      simp only [told, List.mem_cons, Option.mem_toList]
    have cprincipals : (u.codeTo q r ⟨b, entry⟩).principals
        = (told .two (r.codedNotice s q ⟨b, entry⟩ serial) (told .one (r.codedNotice s q ⟨b, entry⟩ serial)
          (s.post .hall (r.codedNotice s q ⟨b, entry⟩ serial)))).principals :=
      (State.CodesEntry.principals_codeTo ⟨uframe, left, others, state, deckMap, hserial⟩ q).trans
        (congrArg State.principals (State.postResolved_eq s _ _ (fun o w => told o _ w) telling))
    generalize u.codeTo q r ⟨b, entry⟩ = v at *
    obtain ⟨answered, acoding⟩ := v.answer_spec q r.ticket (doneRecords q r.ticket (codedData ⟨b, entry⟩ c))
    have aframe := v.changesOnly_answer q r.ticket (doneRecords q r.ticket (codedData ⟨b, entry⟩ c))
    have vorders : v.orders = s.orders := (cframe .orders (by simp)).trans (uframe .orders (by simp))
    have vexchange : v.coding.exchange = none := by
      rw [ccoding]
      exact (congrArg Coding.exchange ucoding).trans hfree
    generalize v.answer q r.ticket (doneRecords q r.ticket (codedData ⟨b, entry⟩ c)) = t at *
    have tberth := State.berth_eq_of_berths (s := u) (t := t)
      ((aframe .berths (by simp)).trans (cframe .berths (by simp)))
    have tentry := State.entryOf_congr (s := u) (t := t)
      ((aframe .berths (by simp)).trans (cframe .berths (by simp)))
    have strays : t.coding.strays = s.coding.strays.filter fun y => y.ticket != r.ticket := by
      rw [acoding, ccoding, State.moveRecord, ucoding]
      rfl
    rw [vorders, vexchange] at answered
    refine ⟨State.changesOnly_comp (State.changesOnly_comp uframe cframe (rs := [.berths, .coding, .principals])
      (by simp) (by simp)) aframe (by simp) (by simp), strays, ?_, ?_, ?_, fun d hd hne => ?_, fun d hd hne => ?_,
      fun o => ⟨by rw [tberth, state], by rw [tberth, deckMap]⟩, ?_, answered⟩
    · rw [acoding, ccoding, State.moveRecord, ucoding, uloop]
      rfl
    · rw [acoding, ccoding, State.moveRecord, ucoding]
      rfl
    · rw [acoding, ccoding, State.moveRecord, ucoding]
      rfl
    · rw [tentry, left d hd hne]
    · rw [tentry, others d hd hne]
    · rw [strays]
      exact (aframe .principals (by simp)).trans cprincipals
  refine ⟨fun h => tagError _ ?_, fun hb he => tagError _ ?_, fun hb he _ => ⟨fun hu => tagError _ ?_,
    fun hu hl => tagError _ ?_, fun hu hl hentry hx => ?_⟩, fun h1 h2 => cabError n _ ?_, fun hb => cabError _ _ ?_,
    fun hb => ⟨fun hx => cabError _ _ ?_, fun hx => ⟨fun hc => cabError _ _ ?_, fun hc ht => cabError _ _ ?_,
      fun hc ht hl => cabError _ _ ?_, fun hc ht hl hi => ?_⟩⟩⟩
  · rw [State.codeTag, State.boundTo_none h]
  · simp only [State.codeTag, State.boundTo_some hb, he]
  · rw [State.codeTag_known (State.boundTo_some hb) he]
    exact if_pos (by simpa using fun h => hu ((Entry.codable_iff e r.ticket).1 h))
  · rw [State.codeTag_known (State.boundTo_some hb) he, (Entry.codable_iff e r.ticket).2 hu]
    exact if_pos hl
  · have named : ((s.leaveEntry r (some ⟨b, e.index⟩)).berth b).findEntry e.index = some e :=
      (s.entryOf_leaveEntry r (some ⟨b, e.index⟩) ⟨b, e.index⟩).trans ((if_neg fun h => h.2 rfl).trans hentry)
    obtain ⟨own, others, -, -⟩ := Berth.setEntryState_spec named .strayed (some r.ticket)
    have codes := State.CodesEntry.of_leave (s := s) (r := r) (kept := some ⟨b, e.index⟩) (b := b) (n := e.index)
      (fun y hy => (Option.some.inj hy).symm) own others (Berth.state_setEntryState _ _ _ _)
      (Berth.deckMap_setEntryState _ _ _ _)
    have data : (s.berth b).cabinOfEntry e = x := by rw [Berth.cabinOfEntry, hx, Option.getD_some]
    have done := State.codeTag_known (r := r) (State.boundTo_some hb) he
    rw [(Entry.codable_iff e r.ticket).2 hu, if_neg (by simp : ¬(!true) = true), if_neg (Nat.not_le.2 hl), data] at done
    refine ⟨_, congrArg Host.Outcome.next (tag.2 _ _ done), finish _ _ _ x _ codes, ?_, fun o m => ?_⟩
    · rw [State.entryOf_congr (State.berths_codeTo_answer _ _ _ _ _ _ _), State.setEntryState, State.entryOf_setBerth,
        if_pos rfl]
      exact own
    · rw [State.berth_eq_of_berths (State.berths_codeTo_answer _ _ _ _ _ _ _), State.setEntryState]
      by_cases ho : o = b
      · have uncounted : e.state ≠ .delivered ∧ e.state ≠ .inHold := by
          rcases hu with h | h | h <;> simp [h]
        rw [ho, State.berth_setBerth, ← s.findCabin_leaveEntry r (some ⟨b, e.index⟩) b m]
        exact congrArg (fun cs : List Cabin => cs.find? fun c : Cabin => c.number == m)
          (Berth.cabins_setEntryState named uncounted (by simp) (some r.ticket))
      · rw [State.berth_setBerth_ne _ _ ho]
        exact s.findCabin_leaveEntry r _ o m
  · have number : berthOf n = none := by
      unfold berthOf
      split <;> simp_all
    simp only [State.codeCabin, number]
  · have number : berthOf b.number = some b := by cases b <;> rfl
    simp only [State.codeCabin, number, hb]
    rfl
  · have number : berthOf b.number = some b := by cases b <;> rfl
    simp only [State.codeCabin, number, hb, hx]
    rfl
  · rw [State.codeCabin_known hb hx, if_pos hc]
  · rw [State.codeCabin_known hb hx, if_neg (Nat.not_le.2 hc), if_pos ht]
  · rw [State.codeCabin_known hb hx, if_neg (Nat.not_le.2 hc), if_neg (Nat.not_le.2 ht), if_pos hl]
  · obtain rfl : (s.berth b).freeIndex = i := Berth.freeIndex_of_free hi.1 hi.2
    have index := s.freeIndex_leaveEntry r none b
    have done := State.codeCabin_known (r := r) hb hx
    rw [if_neg (Nat.not_le.2 hc), if_neg (Nat.not_le.2 ht), if_neg (Nat.not_le.2 hl)] at done
    have own := ((s.leaveEntry r none).berth b).findEntry_makeEntry none cabin .strayed (some r.ticket)
    rw [index] at own
    have codes := State.CodesEntry.of_leave (s := s) (r := r) (kept := none) (b := b) (n := (s.berth b).freeIndex)
      (fun y hy => nomatch hy) ((own _).trans (if_pos rfl)) (fun m hm => (own m).trans (if_neg hm)) rfl rfl
    have cabins := ((s.leaveEntry r none).berth b).findCabin_makeEntry none cabin .strayed (some r.ticket)
    rw [index] at cabins
    refine ⟨_, congrArg Host.Outcome.next ((cab b.number).2 _ _ done), finish _ _ _ x _ codes, ?_, ?_, fun o m hne => ?_⟩
    · rw [State.entryOf_congr (State.berths_codeTo_answer _ _ _ _ _ _ _), State.entryOf_setBerth, if_pos rfl]
      exact (own _).trans (if_pos rfl)
    · rw [State.berth_eq_of_berths (State.berths_codeTo_answer _ _ _ _ _ _ _), State.berth_setBerth, cabins,
        s.findCabin_leaveEntry, hx, Option.map_some, if_pos rfl]
      rfl
    · rw [State.berth_eq_of_berths (State.berths_codeTo_answer _ _ _ _ _ _ _)]
      by_cases ho : o = b
      · have hm : m ≠ cabin := fun h => hne ⟨ho, h⟩
        rw [ho, State.berth_setBerth, cabins, s.findCabin_leaveEntry]
        simp [hm]
      · rw [State.berth_setBerth_ne _ _ ho]
        exact s.findCabin_leaveEntry r _ o m

end Sys2Proof.Machine

/-! SUPPORT. A failed divert: what it takes back, cancels and makes a stray (R130 to R133). -/

namespace Sys2Proof.Machine

/-! ## Targets dropped -/

theorem State.dropTarget_setDiverter (s : State) (j : LaneNo) (v : Diverter) (k : Nat) :
    (s.setDiverter j v).dropTarget k = (s.dropTarget k).setDiverter j v := by
  cases h : (s.carrier k).target with
  | none => rw [State.dropTarget_none h, State.dropTarget_none (s := s.setDiverter j v) h]
  | some i => rw [State.dropTarget_some h, State.dropTarget_some (s := s.setDiverter j v) h]; rfl

theorem State.dropTargets_setDiverter (s : State) (j : LaneNo) (v : Diverter) (ks : List Nat) :
    (s.setDiverter j v).dropTargets ks = (s.dropTargets ks).setDiverter j v := by
  induction ks generalizing s with
  | nil => rfl
  | cons k ks ih =>
    refine (congrArg (fun u => State.dropTargets u ks) (s.dropTarget_setDiverter j v k)).trans ?_
    exact ih (s.dropTarget k)

theorem State.dropTargets_append (s : State) (ks ls : List Nat) :
    s.dropTargets (ks ++ ls) = (s.dropTargets ks).dropTargets ls :=
  List.foldl_append

/-- What a carrier is after its target has been dropped, in a list of them or not. -/
theorem State.carrier_dropTargets (ks : List Nat) (s : State) (m : Nat) :
    (m ∈ ks → ((s.dropTargets ks).carrier m).target = none)
      ∧ (m ∉ ks ∨ (s.carrier m).target = none → (s.dropTargets ks).carrier m = s.carrier m) := by
  have one (u : State) (k : Nat) : ((u.dropTarget k).carrier k).target = none := by
    by_cases hk : k < u.carriers.table.length
    · rw [(u.dropTarget_spec hk).2.2.1]
    · rw [State.carrier_of_ge]
      · rfl
      · rw [(u.retargets_dropTarget k).2.2.1]
        exact Nat.le_of_not_lt hk
  have keep (u : State) (k : Nat) (h : m ≠ k ∨ (u.carrier m).target = none) : (u.dropTarget k).carrier m = u.carrier m := by
    by_cases hm : m = k
    · subst hm
      rw [State.dropTarget_none (h.resolve_left fun h => h rfl)]
    · exact (u.retargets_dropTarget k).2.2.2.2.2.2 m (by simpa using hm)
  have gone (u : State) (k : Nat) (h : (u.carrier m).target = none) : ((u.dropTarget k).carrier m).target = none := by
    rw [keep u k (.inr h)]
    exact h
  induction ks generalizing s with
  | nil => exact ⟨fun h => by simp at h, fun _ => rfl⟩
  | cons k ks ih =>
    obtain ⟨dropped, kept⟩ := ih (s.dropTarget k)
    refine ⟨fun hm => ?_, fun hm => ?_⟩
    · show (((s.dropTarget k).dropTargets ks).carrier m).target = none
      by_cases hk : m ∈ ks
      · exact dropped hk
      · obtain rfl := (List.mem_cons.1 hm).resolve_right hk
        rw [kept (.inl hk)]
        exact one s m
    · refine (kept ?_).trans (keep s k ?_)
      · exact hm.imp (fun h hk => h (List.mem_cons_of_mem _ hk)) (gone s k)
      · exact hm.imp_left fun h hk => h (hk ▸ List.mem_cons_self)

theorem State.dropTargets_filter (ks : List Nat) (p : Nat → Bool) (s : State)
    (h : ∀ k ∈ ks, p k = false → (s.carrier k).target = none) : s.dropTargets (ks.filter p) = s.dropTargets ks := by
  induction ks generalizing s with
  | nil => rfl
  | cons k ks ih =>
    have after (m) (hm : m ∈ ks) (hp : p m = false) : ((s.dropTarget k).carrier m).target = none := by
      have kept := (s.carrier_dropTargets [k] m).2 (.inr (h m (List.mem_cons_of_mem _ hm) hp))
      exact (congrArg Carrier.target kept).trans (h m (List.mem_cons_of_mem _ hm) hp)
    cases hp : p k with
    | true =>
      rw [List.filter_cons_of_pos hp]
      exact ih (s.dropTarget k) after
    | false =>
      rw [List.filter_cons_of_neg (by simp [hp])]
      have none : s.dropTarget k = s := State.dropTarget_none (h k List.mem_cons_self hp)
      have same := ih s fun m hm => h m (List.mem_cons_of_mem _ hm)
      refine same.trans ?_
      show s.dropTargets ks = (s.dropTarget k).dropTargets ks
      rw [none]

theorem Carrier.isTentativeAt_iff (c : Carrier) (j : LaneNo) :
    c.isTentativeAt j = true ↔ c.state = .carrying ∧ c.target = some j ∧ c.armed = false := by
  simp [Carrier.isTentativeAt, and_assoc]

theorem State.mem_tentativeAt (s : State) (j : LaneNo) (k : Nat) :
    k ∈ s.tentativeAt j ↔ k < s.carriers.table.length ∧ (s.carrier k).isTentativeAt j = true := by
  simp [State.tentativeAt, State.carriersWith, State.carrierNumbers]

/-- The tentative targets left at a lane when others have been dropped. -/
theorem State.dropTargets_tentative (s : State) (ks : List Nat) (j : LaneNo) :
    (s.dropTargets ks).dropTargets ((s.dropTargets ks).tentativeAt j) = (s.dropTargets ks).dropTargets (s.tentativeAt j) := by
  have left : (s.dropTargets ks).tentativeAt j = (s.tentativeAt j).filter fun m => !ks.contains m := by
    unfold State.tentativeAt State.carriersWith State.carrierNumbers
    rw [(s.retargets_dropTargets ks).2.2.1, List.filter_filter]
    refine List.filter_congr fun m _ => ?_
    rw [Bool.eq_iff_iff, Bool.and_eq_true]
    by_cases hm : m ∈ ks
    · simp [Carrier.isTentativeAt_iff, (s.carrier_dropTargets ks m).1 hm, hm]
    · simp [(s.carrier_dropTargets ks m).2 (.inl hm), hm]
  rw [left]
  refine State.dropTargets_filter _ _ _ fun m _ hm => (s.carrier_dropTargets ks m).1 ?_
  simpa using hm

/-! ## The carrier taken back -/

/-- A carrier taken back from its diverter (R130). -/
def Carrier.takenBack (c : Carrier) : Carrier :=
  { c with state := .carrying, target := none, armed := false, tries := min 2 (c.tries + 1) }

/-- The fault score after one more failure (R132). -/
def State.raisedScore (s : State) (j : LaneNo) : Nat := min 31 ((s.diverter j).score + 8)

/-- Carrier `k` taken back from lane `j`, whose score has risen (R130, R132). -/
def State.backAt (s : State) (k : Nat) (j : LaneNo) : State :=
  ((s.setCarrier k (s.carrier k).takenBack).setLane j
    { s.lane j with inbound := (s.lane j).inbound - (s.carrier k).units }).setDiverter j
      { s.diverter j with score := s.raisedScore j }

section
variable {s : State} {k : Nat} {j : LaneNo}

theorem State.takeBack_eq (hk : k < s.carriers.table.length) (hj : (s.carrier k).target = some j) :
    (s.takeBack k).setDiverter j ((s.takeBack k).diverter j).raised = s.backAt k j := by
  have own := (s.dropTarget_spec hk).2.2.1
  have same := State.setCarrier_setCarrier_kept s k (a := { s.carrier k with target := none, armed := false }) rfl
    (s.carrier k).takenBack
  have swap (u : State) (c : Carrier) (x : Lane) : (u.setLane j x).setCarrier k c = (u.setCarrier k c).setLane j x := rfl
  have taken : s.takeBack k = (s.dropTarget k).setCarrier k (s.carrier k).takenBack := by
    rw [State.takeBack]
    dsimp only
    rw [own]
    rfl
  rw [taken, State.dropTarget_some hj, swap, same]
  rfl

theorem State.carrier_backAt (hk : k < s.carriers.table.length) :
    (s.backAt k j).carrier k = (s.carrier k).takenBack ∧ ∀ m, m ≠ k → (s.backAt k j).carrier m = s.carrier m :=
  ⟨State.carrier_setCarrier_same s _ hk, fun _ hm => State.carrier_setCarrier_ne s _ hm⟩

theorem State.lane_backAt (i : LaneNo) : (s.lane i).rebooked ((s.backAt k j).lane i) := by
  show (s.lane i).rebooked (((s.setCarrier k (s.carrier k).takenBack).setLane j _).lane i)
  by_cases hi : i = j
  · rw [hi, State.lane_setLane]
    exact rfl
  · rw [State.lane_setLane_ne _ _ hi]
    exact rfl

theorem State.changesOnly_backAt : s.changesOnly (s.backAt k j) [.carriers, .lanes, .diverters] :=
  State.changesOnly_comp (State.changesOnly_comp (s.changesOnly_storeCarrier k _) (State.changesOnly_storeLane _ j _)
    (rs := [.carriers, .lanes]) (by simp) (by simp)) (State.changesOnly_setDiverter _ j _) (by simp) (by simp)

theorem State.length_backAt : (s.backAt k j).carriers.table.length = s.carriers.table.length :=
  CarrierTable.store_length _ _ _

theorem State.tentativeAt_backAt (hk : k < s.carriers.table.length) (hf : (s.carrier k).state = .fired) :
    (s.backAt k j).tentativeAt j = s.tentativeAt j := by
  unfold State.tentativeAt State.carriersWith State.carrierNumbers
  rw [State.length_backAt]
  refine List.filter_congr fun m _ => ?_
  obtain ⟨own, others⟩ := State.carrier_backAt (j := j) hk
  by_cases hm : m = k
  · rw [hm, own, Bool.eq_iff_iff, Carrier.isTentativeAt_iff, Carrier.isTentativeAt_iff]
    simp [Carrier.takenBack, hf]
  · rw [others m hm]

theorem State.firedAt_backAt (hk : k < s.carriers.table.length) (hf : (s.carrier k).isFiredAt j = true) :
    ((s.backAt k j).firedAt j).length = (s.firedAt j).length - 1 := by
  obtain ⟨own, others⟩ := State.carrier_backAt (j := j) hk
  have left : (s.backAt k j).firedAt j = (s.firedAt j).filter (· != k) := by
    unfold State.firedAt State.carriersWith State.carrierNumbers
    rw [State.length_backAt, List.filter_filter]
    refine List.filter_congr fun m _ => ?_
    by_cases hm : m = k
    · rw [hm, own]
      simp [Carrier.takenBack, Carrier.isFiredAt]
    · rw [others m hm]
      simp [hm]
  have nodup : (s.firedAt j).Nodup := s.nodup_carriersWith _
  have mem : k ∈ s.firedAt j := by
    simp [State.firedAt, State.carriersWith, State.carrierNumbers, hk, hf]
  rw [left, ← nodup.erase_eq_filter, List.length_erase_of_mem mem]

/-! ## The lane faulted -/

/-- Lane `j` made FAULTED. -/
def State.withFault (s : State) (j : LaneNo) : State := s.setLane j { s.lane j with state := .faulted }

theorem State.faultLane_eq (u : State) (i : LaneNo) :
    u.faultLane i = State.dropTargets (((u.withFault i).dropTargets (u.diverter i).queue).setDiverter i
        { u.diverter i with queue := [] })
      ((((u.withFault i).dropTargets (u.diverter i).queue).setDiverter i { u.diverter i with queue := [] }).tentativeAt i) := rfl

/-- The failure makes the lane FAULTED (R132, R133). -/
def State.faultsAt (s : State) (j : LaneNo) : Prop := 16 ≤ s.raisedScore j ∧ (s.lane j).state ≠ .faulted

/-- The carriers whose target at the lane a fault takes away. -/
def State.cancelledAt (s : State) (j : LaneNo) : List Nat := (s.diverter j).queue ++ s.tentativeAt j

/-- Carrier `k` taken back from a lane that becomes FAULTED (R133). -/
def State.faultedAt (s : State) (k : Nat) (j : LaneNo) : State :=
  State.dropTargets (((s.backAt k j).withFault j).setDiverter j ⟨[], s.raisedScore j⟩) (s.cancelledAt j)

theorem State.diverter_backAt (i : LaneNo) :
    (s.backAt k j).diverter i = if i = j then ⟨(s.diverter j).queue, s.raisedScore j⟩ else s.diverter i := by
  by_cases hi : i = j
  · rw [if_pos hi, hi]
    exact State.diverter_setDiverter _ j _
  · rw [if_neg hi]
    exact State.diverter_setDiverter_ne _ _ hi

theorem State.faultLane_backAt (hk : k < s.carriers.table.length) (hf : (s.carrier k).state = .fired) :
    (s.backAt k j).faultLane j = s.faultedAt k j := by
  have armed : (s.backAt k j).diverter j = ⟨(s.diverter j).queue, s.raisedScore j⟩ :=
    (State.diverter_backAt j).trans (if_pos rfl)
  have tentative : ((s.backAt k j).withFault j).tentativeAt j = s.tentativeAt j := State.tentativeAt_backAt hk hf
  have swap : (((s.backAt k j).withFault j).dropTargets (s.diverter j).queue).setDiverter j ⟨[], s.raisedScore j⟩
      = State.dropTargets (((s.backAt k j).withFault j).setDiverter j ⟨[], s.raisedScore j⟩) (s.diverter j).queue :=
    (State.dropTargets_setDiverter _ _ _ _).symm
  rw [State.faultedAt, State.cancelledAt, State.dropTargets_append, ← tentative]
  have same := State.dropTargets_tentative (((s.backAt k j).withFault j).setDiverter j ⟨[], s.raisedScore j⟩)
    (s.diverter j).queue j
  rw [← swap] at same ⊢
  refine Eq.trans ?_ same
  rw [State.faultLane_eq, armed]

end

/-- Carrier `k` was taken back from lane `j`, the targets of the carriers `ks` dropped; lanes are those of `f` but for inbounds. -/
structure State.TakesBack (s f t : State) (k : Nat) (ks : List Nat) : Prop where
  frame : s.changesOnly t [.carriers, .lanes, .diverters]
  length : t.carriers.table.length = s.carriers.table.length
  own : t.carrier k = (s.carrier k).takenBack
  each : ∀ m, m ≠ k → (s.carrier m).retargeted (t.carrier m)
  dropped : ∀ m ∈ ks, m ≠ k → (t.carrier m).target = none
  others : ∀ m, m ≠ k → m ∉ ks → t.carrier m = s.carrier m
  lanes : ∀ i, (f.lane i).rebooked (t.lane i)

section
variable {s : State} {k : Nat} {j : LaneNo}

theorem State.takesBack_backAt (hk : k < s.carriers.table.length) : s.TakesBack s (s.backAt k j) k [] := by
  obtain ⟨own, others⟩ := State.carrier_backAt (j := j) hk
  exact ⟨State.changesOnly_backAt, State.length_backAt, own, fun m hm => by rw [others m hm]; exact rfl,
    fun m hm => by simp at hm, fun m hm _ => others m hm, State.lane_backAt⟩

theorem State.lane_withFault (u : State) (i o : LaneNo) :
    (u.withFault i).lane o = if o = i then { u.lane i with state := .faulted } else u.lane o := by
  unfold State.withFault
  by_cases h : o = i
  · rw [if_pos h, h, State.lane_setLane]
  · rw [if_neg h, State.lane_setLane_ne _ _ h]

theorem State.takesBack_faultedAt (hk : k < s.carriers.table.length) :
    s.TakesBack (s.withFault j) (s.faultedAt k j) k (s.cancelledAt j) := by
  obtain ⟨own, others⟩ := State.carrier_backAt (j := j) hk
  obtain ⟨frame, rebooked, length, -, -, each, -⟩ :=
    State.retargets_dropTargets (((s.backAt k j).withFault j).setDiverter j ⟨[], s.raisedScore j⟩) (s.cancelledAt j)
  have target := State.carrier_dropTargets (s.cancelledAt j) (((s.backAt k j).withFault j).setDiverter j ⟨[], s.raisedScore j⟩)
  have start : s.changesOnly (((s.backAt k j).withFault j).setDiverter j ⟨[], s.raisedScore j⟩) [.carriers, .lanes, .diverters] :=
    State.changesOnly_comp (State.changesOnly_comp State.changesOnly_backAt (State.changesOnly_storeLane _ j _)
      (rs := [.carriers, .lanes, .diverters]) (by simp) (by simp)) (State.changesOnly_setDiverter _ j _) (by simp) (by simp)
  refine ⟨State.changesOnly_comp start frame (by simp) (by simp), length.trans (State.length_backAt (j := j)), ?_, fun m hm => ?_,
    fun m hm _ => (target m).1 hm, fun m hm hn => ((target m).2 (.inl hn)).trans (others m hm), fun i => ?_⟩
  · refine ((target k).2 (.inr ?_)).trans own
    exact congrArg Carrier.target own
  · have h := each m
    rwa [show ((((s.backAt k j).withFault j).setDiverter j ⟨[], s.raisedScore j⟩).carrier m) = s.carrier m from others m hm] at h
  · refine Lane.rebooked_trans ?_ (rebooked i)
    show ((s.withFault j).lane i).rebooked (((s.backAt k j).withFault j).lane i)
    have back := State.lane_backAt (s := s) (k := k) (j := j) i
    rw [State.lane_withFault, State.lane_withFault]
    by_cases hi : i = j
    · subst hi
      rw [if_pos rfl, if_pos rfl]
      unfold Lane.rebooked at back ⊢
      rw [back]
    · rwa [if_neg hi, if_neg hi]

theorem State.diverter_faultedAt (i : LaneNo) :
    (s.faultedAt k j).diverter i = if i = j then ⟨[], s.raisedScore j⟩ else s.diverter i := by
  have frame := (State.retargets_dropTargets (((s.backAt k j).withFault j).setDiverter j ⟨[], s.raisedScore j⟩)
    (s.cancelledAt j)).1
  refine (State.diverter_eq_of_diverters (frame .diverters (by simp)) i).trans ?_
  by_cases hi : i = j
  · rw [if_pos hi, hi]
    exact State.diverter_setDiverter _ j _
  · rw [if_neg hi]
    refine (State.diverter_setDiverter_ne _ _ hi).trans ?_
    exact (State.diverter_backAt i).trans (if_neg hi)

end

/-! ## The failure as a whole -/

/-- The bag fails for the second time, and is one for a berth (R130, R101). -/
def Carrier.straysAtFailure (c : Carrier) : Prop :=
  min 2 (c.tries + 1) = 2 ∧ (c.disposition = some .delivery ∨ c.disposition = some .hold)

theorem State.settleFailed_of {s : State} {k : Nat} {c : Carrier} (h : s.carrier k = c.takenBack) :
    (c.straysAtFailure → s.settleFailed k = s.becomeStray k .divertFail) ∧ (¬c.straysAtFailure → s.settleFailed k = s) := by
  have tries : (s.carrier k).tries = min 2 (c.tries + 1) := by rw [h]; rfl
  have disposition : (s.carrier k).disposition = c.disposition := by rw [h]; rfl
  unfold State.settleFailed
  rw [tries, disposition]
  refine ⟨fun ⟨ht, hd⟩ => ?_, fun hn => ?_⟩
  · rw [if_neg (by omega)]
    rcases hd with hd | hd <;> rw [hd]
  · by_cases ht : min 2 (c.tries + 1) < 2
    · rw [if_pos ht]
    · rw [if_neg ht]
      have ht : min 2 (c.tries + 1) = 2 := by omega
      cases hd : c.disposition with
      | none => rfl
      | some p =>
        cases p with
        | delivery => exact absurd ⟨ht, .inl hd⟩ hn
        | hold => exact absurd ⟨ht, .inr hd⟩ hn
        | stray r => rfl

/-- The LANE FAULT report of a failure (R133). -/
def State.faultReport (s : State) (k : Nat) (j : LaneNo) (cause : DivertCause) : FaultReport :=
  ⟨j, s.raisedScore j, k, cause, (s.diverter j).queue.length, (s.tentativeAt j).length, (s.firedAt j).length - 1⟩

theorem State.failDivert_of {s : State} {k : Nat} {j : LaneNo} (hk : k < s.carriers.table.length)
    (hf : (s.carrier k).isFiredAt j = true) (cause : DivertCause) :
    (¬s.faultsAt j → s.failDivert k j cause = ⟨(s.backAt k j).settleFailed k, [k], none⟩)
      ∧ (s.faultsAt j → s.failDivert k j cause
        = ⟨(s.faultedAt k j).settleFailed k, k :: s.cancelledAt j, some (s.faultReport k j cause)⟩) := by
  obtain ⟨hstate, htarget⟩ : (s.carrier k).state = .fired ∧ (s.carrier k).target = some j := by
    simpa [Carrier.isFiredAt] using hf
  have back := State.takeBack_eq hk htarget
  have diverter : (s.backAt k j).diverter j = ⟨(s.diverter j).queue, s.raisedScore j⟩ :=
    (State.diverter_backAt j).trans (if_pos rfl)
  have state : ((s.backAt k j).lane j).state = (s.lane j).state := Lane.rebooked_state (State.lane_backAt j)
  have test : (Config.faultThreshold ≤ ((s.backAt k j).diverter j).score ∧ ((s.backAt k j).lane j).state ≠ .faulted)
      ↔ s.faultsAt j := by
    rw [diverter, state]
    exact Iff.rfl
  unfold State.failDivert
  dsimp only
  rw [back]
  refine ⟨fun h => if_neg (mt test.1 h), fun h => (if_pos (test.2 h)).trans ?_⟩
  rw [State.faultLane_backAt hk hstate, diverter, State.tentativeAt_backAt hk hstate, State.firedAt_backAt hk hf]
  rfl

/-- A lane as the clear of a berth may leave it: as it was but for its inbound, or back with the hall and CLOSED. -/
def Lane.maybeHandedBack (x y : Lane) : Prop :=
  y.fill = x.fill ∧ (y.state = x.state ∨ y.owner = .hall ∧ y.state = .closed)

theorem Lane.maybeHandedBack_rebooked {x y z : Lane} (h : x.maybeHandedBack y) (h' : y.rebooked z) : x.maybeHandedBack z := by
  unfold Lane.rebooked at h'
  rw [h']
  exact h

/-- Carrier `k` has no identity any more, whatever became of the berth it was of (R56, R58). -/
structure State.LeavesBerth (s u : State) (k : Nat) : Prop where
  frame : s.changesOnly u [.carriers, .lanes, .berths, .coding, .principals]
  length : u.carriers.table.length = s.carriers.table.length
  others : ∀ m, m ≠ k → u.carrier m = s.carrier m
  own : u.carrier k = { s.carrier k with identity := none }
  lanes : ∀ i, (s.lane i).maybeHandedBack (u.lane i)

theorem State.leavesBerth_testClosing {s u : State} {k : Nat} (h : s.LeavesBerth u k) (b : BerthId) :
    s.LeavesBerth (u.testClosing b) k := by
  obtain ⟨frame, -, -, lanes, -⟩ := u.testClosing_spec b rfl
  have carriers : (u.testClosing b).carriers = u.carriers := frame .carriers (by simp)
  refine ⟨State.changesOnly_comp h.frame frame (by simp) (by simp), (congrArg (·.table.length) carriers).trans h.length,
    fun m hm => (State.carrier_eq_of_carriers carriers m).trans (h.others m hm),
    (State.carrier_eq_of_carriers carriers k).trans h.own, fun i => ?_⟩
  obtain ⟨fill, state⟩ := h.lanes i
  rw [lanes i]
  split
  · exact ⟨fill, .inr ⟨rfl, rfl⟩⟩
  · exact ⟨fill, state⟩

theorem State.becomeStray_leaves (s : State) {k : Nat} (hk : k < s.carriers.table.length) (r : StrayReason) :
    ∃ u, s.LeavesBerth u k ∧ s.becomeStray k r = u.enterDisposition k (.stray r) := by
  cases hd : (s.carrier k).identity with
  | none =>
    refine ⟨s, ⟨s.changesOnly_refl _, rfl, fun _ _ => rfl, ?_, fun i => ⟨rfl, .inl rfl⟩⟩, ?_⟩
    · rw [← hd]
    · simp only [State.becomeStray, hd]
  | some d =>
    obtain ⟨frame, carriers, own, others, -⟩ := State.dropIdentity_leaves hk hd .strayed
    have dropped : s.LeavesBerth (s.dropIdentity k .strayed) k := by
      refine ⟨State.changesOnly_mono frame (by simp), ?_, others, own, fun i => ?_⟩
      · rw [carriers]
        exact CarrierTable.store_length _ _ _
      · rw [State.lane_eq_of_lanes (frame .lanes (by simp))]
        exact ⟨rfl, .inl rfl⟩
    cases he : s.entryOf d with
    | none =>
      exact ⟨_, State.leavesBerth_testClosing dropped d.berth, by simp only [State.becomeStray, hd, he]⟩
    | some e =>
      have posted := State.changesOnly_post (s.dropIdentity k .strayed) (.berth d.berth) (.bagStrayed e.cabin e.index e.serial r k)
      have told : s.LeavesBerth ((s.dropIdentity k .strayed).bagStrayed k r d e) k := by
        refine ⟨State.changesOnly_comp dropped.frame posted (by simp) (by simp), ?_, fun m hm => ?_, ?_, fun i => ?_⟩
        · exact (congrArg (·.table.length) (show _ = _ from posted .carriers (by simp))).trans dropped.length
        · exact (State.carrier_eq_of_carriers (posted .carriers (by simp)) m).trans (others m hm)
        · exact (State.carrier_eq_of_carriers (posted .carriers (by simp)) k).trans own
        · have same := State.lane_eq_of_lanes (posted .lanes (by simp)) i
          rw [State.bagStrayed, same]
          exact dropped.lanes i
      exact ⟨_, State.leavesBerth_testClosing told d.berth, State.becomeStray_some hd he r⟩

/-- What becoming a stray does, whether or not the bag has an identity (R101). -/
theorem State.becomeStray_frame (s : State) {k : Nat} (hk : k < s.carriers.table.length) (r : StrayReason) :
    s.changesOnly (s.becomeStray k r) [.carriers, .lanes, .berths, .coding, .principals]
      ∧ (s.becomeStray k r).carriers.table.length = s.carriers.table.length
      ∧ (∀ m, m ≠ k → (s.becomeStray k r).carrier m = s.carrier m)
      ∧ Carrier.entered { s.carrier k with identity := none } ((s.becomeStray k r).carrier k) (.stray r)
      ∧ ((s.becomeStray k r).carrier k).target = none
      ∧ ∀ i, (s.lane i).maybeHandedBack ((s.becomeStray k r).lane i) := by
  obtain ⟨u, left, same⟩ := s.becomeStray_leaves hk r
  have hk : k < u.carriers.table.length := left.length.symm ▸ hk
  obtain ⟨frame, rebooked, length, others, own⟩ := u.disposes_enterDisposition (.stray r) hk
  have own := own k (by simp)
  rw [left.own] at own
  obtain ⟨-, dlength, down, -⟩ := u.dropTarget_spec hk
  rw [same]
  refine ⟨State.changesOnly_comp left.frame frame (by simp) (by simp), length.trans left.length,
    fun m hm => (others m (by simpa using hm)).trans (left.others m hm), own, ?_,
    fun i => Lane.maybeHandedBack_rebooked (left.lanes i) (rebooked i)⟩
  rw [State.enterDisposition, State.carrier_setCarrier_same _ _ (dlength.symm ▸ hk), down]

end Sys2Proof.Machine

/-! SUPPORT. What a failed divert leaves, its choices made and its notices posted (R130 to R133, R101). -/

namespace Sys2Proof.Machine

/-- A berth that was cleared, seen from a state whose lanes differ in inbounds. -/
theorem State.berthCleared_rebase {f s t : State} {b : BerthId} (h : s.berthCleared t b) (hb : s.berths = f.berths)
    (hc : s.coding = f.coding) (hl : ∀ j, (f.lane j).rebooked (s.lane j)) : f.berthCleared t b := by
  obtain ⟨own, others, coding, lanes⟩ := h
  refine ⟨own, fun o ho => (others o ho).trans (State.berth_eq_of_berths hb o), hc ▸ coding, fun j => ?_⟩
  have lane := lanes j
  rw [Lane.rebooked_owner (hl j)] at lane
  refine Lane.rebooked_trans ?_ lane
  have base := hl j
  split
  · unfold Lane.rebooked at base
    rw [base]
    exact rfl
  · exact base

/-- The berth's last bag is on the carrier before the failure as after it: identities are kept. -/
theorem State.holdsLastOf_congr {s u : State} {k : Nat} (hb : u.berths = s.berths) (hr : u.router = s.router)
    (hc : ∀ m, m ≠ k → (s.carrier m).retargeted (u.carrier m)) (b : BerthId) : u.holdsLastOf k b ↔ s.holdsLastOf k b := by
  have others : (∀ m, m ≠ k → (u.carrier m).isOf b = false) ↔ ∀ m, m ≠ k → (s.carrier m).isOf b = false :=
    forall_congr' fun m => imp_congr_right fun hm => by
      have h := hc m hm
      unfold Carrier.retargeted at h
      rw [h]
      exact Iff.rfl
  unfold State.holdsLastOf
  rw [State.berth_eq_of_berths hb, hr, others]

/-- What is left when carrier `k` was taken back, settled, and choices were made for it and some of `ks`. -/
structure State.Fails (s f freed t : State) (k : Nat) (ks : List Nat) : Prop where
  frame : s.changesOnly t [.carriers, .lanes, .diverters, .berths, .coding, .principals]
  length : t.carriers.table.length = s.carriers.table.length
  diverters : t.diverters = freed.diverters
  lanes : ∀ i, (f.lane i).maybeHandedBack (t.lane i)
  kept : ¬(s.carrier k).straysAtFailure → Carrier.retargeted (s.carrier k).takenBack (t.carrier k)
  strayed : (s.carrier k).straysAtFailure →
    Carrier.entered { (s.carrier k).takenBack with identity := none } (t.carrier k) (.stray .divertFail)
  each : ∀ m, m ≠ k → (s.carrier m).retargeted (t.carrier m)
  others : ∀ m, m ≠ k → m ∉ ks → t.carrier m = s.carrier m
  left : ∀ j, (f.lane j).state = .faulted → ∀ m, m = k ∨ m ∈ ks → (t.carrier m).target ≠ some j
  quiet : ¬(s.carrier k).straysAtFailure → t.berths = s.berths ∧ t.coding = s.coding ∧ t.principals = s.principals
    ∧ ∀ i, (f.lane i).rebooked (t.lane i)
  told : (s.carrier k).straysAtFailure → ∀ d e, (s.carrier k).identity = some d → s.entryOf d = some e →
    (¬s.holdsLastOf k d.berth → t.berth d.berth = (s.berth d.berth).setEntryState d.entry .strayed none
      ∧ (∀ o, o ≠ d.berth → t.berth o = s.berth o) ∧ t.coding = s.coding ∧ (∀ i, (f.lane i).rebooked (t.lane i))
      ∧ t.principals = (s.bagStrayed k .divertFail d e).principals)
    ∧ (s.holdsLastOf k d.berth → f.berthCleared t d.berth
      ∧ t.principals
        = ((s.bagStrayed k .divertFail d e).postHallAnd d.berth (.berthState d.berth .unbound false)).principals)

section
variable {s f freed : State} {k : Nat} {ks : List Nat}


theorem State.fails_settled (hk : k < s.carriers.table.length) (h : s.TakesBack f freed k ks)
    (hb : f.berths = s.berths) (hc : f.coding = s.coding) : s.Fails f freed (freed.settleFailed k) k ks := by
  have berths : freed.berths = s.berths := h.frame .berths (by simp)
  have coding : freed.coding = s.coding := h.frame .coding (by simp)
  have router : freed.router = s.router := h.frame .router (by simp)
  have target : (freed.carrier k).target = none := by rw [h.own]; rfl
  have dropped (m) (hm : m = k ∨ m ∈ ks) : (freed.carrier m).target = none := by
    by_cases hmk : m = k
    · rw [hmk, target]
    · exact h.dropped m (hm.resolve_left hmk) hmk
  by_cases hs : (s.carrier k).straysAtFailure
  · rw [(State.settleFailed_of h.own).1 hs]
    obtain ⟨frame, length, others, own, none, lanes⟩ := freed.becomeStray_frame (h.length.symm ▸ hk) .divertFail
    rw [h.own] at own
    refine ⟨State.changesOnly_comp h.frame frame (by simp) (by simp), length.trans h.length, frame .diverters (by simp),
      fun i => ?_, fun hn => absurd hs hn, fun _ => own, fun m hm => (others m hm).symm ▸ h.each m hm,
      fun m hm hn => (others m hm).trans (h.others m hm hn), fun j _ m hm => ?_, fun hn => absurd hs hn, fun _ d e hd he => ?_⟩
    · have base := h.lanes i
      have after := lanes i
      unfold Lane.rebooked at base
      rw [base] at after
      exact after
    · by_cases hmk : m = k
      · rw [hmk, none]
        simp
      · rw [others m hmk, dropped m hm]
        simp
    · have hd' : (freed.carrier k).identity = some d := by rw [h.own]; exact hd
      have he' : freed.entryOf d = some e := (State.entryOf_congr berths d).trans he
      have strays := State.becomeStray_spec (h.length.symm ▸ hk) hd' he' .divertFail
      have last := State.holdsLastOf_congr berths router h.each d.berth
      have posts : (s.bagStrayed k .divertFail d e).PostsAs (freed.bagStrayed k .divertFail d e) :=
        State.PostsAs.post ⟨h.frame .principals (by simp), h.frame .loop (by simp)⟩ _ _
      refine ⟨fun hn => ?_, fun hl => ?_⟩
      · obtain ⟨berth, other, same, rebooked, principals⟩ := strays.stays (mt last.1 hn)
        have base := State.berth_eq_of_berths berths
        exact ⟨berth.trans (by rw [base]), fun o ho => (other o ho).trans (base o), same.trans coding,
          fun i => Lane.rebooked_trans (h.lanes i) (rebooked i), principals.trans posts.1⟩
      · obtain ⟨cleared, principals⟩ := strays.leaves (last.2 hl)
        exact ⟨State.berthCleared_rebase cleared (berths.trans hb.symm) (coding.trans hc.symm) h.lanes,
          principals.trans (posts.postHallAnd _ _).1⟩
  · rw [(State.settleFailed_of h.own).2 hs]
    refine ⟨State.changesOnly_mono h.frame (by simp), h.length, rfl, fun i => ?_, fun _ => h.own ▸ rfl, fun hn => absurd hn hs, h.each, h.others,
      fun j _ m hm => by rw [dropped m hm]; simp, fun _ => ⟨berths, coding, h.frame .principals (by simp), h.lanes⟩,
      fun hn => absurd hn hs⟩
    exact Lane.maybeHandedBack_rebooked ⟨rfl, .inl rfl⟩ (h.lanes i)

/-- Choices for the carriers taken back keep it so. -/
theorem State.Fails.choose {t : State} (h : s.Fails f freed t k ks) {ls : List Nat} (hls : ∀ m ∈ ls, m = k ∨ m ∈ ks) :
    s.Fails f freed (t.chooseAll ls) k ks := by
  obtain ⟨frame, rebooked, length, -, -, each, others⟩ := t.retargets_chooseAll ls
  refine ⟨State.changesOnly_comp h.frame frame (by simp) (by simp), length.trans h.length,
    (frame .diverters (by simp)).trans h.diverters, fun i => Lane.maybeHandedBack_rebooked (h.lanes i) (rebooked i), fun hn => Carrier.retargeted_trans (h.kept hn) (each k),
    fun hs => Carrier.entered_of_retargeted (h.strayed hs) (each k), fun m hm => Carrier.retargeted_trans (h.each m hm) (each m),
    fun m hm hn => (others m fun hl => (hls m hl).elim hm hn).trans (h.others m hm hn), fun j hj m hm => ?_, fun hn => ?_,
    fun hs d e hd he => ?_⟩
  · refine State.chooseAll_not_at ls ?_ (h.left j hj m hm)
    rcases (h.lanes j).2 with hstate | ⟨-, hstate⟩
    · rw [hstate, hj]
      simp
    · rw [hstate]
      simp
  · obtain ⟨berths, coding, principals, lanes⟩ := h.quiet hn
    exact ⟨(frame .berths (by simp)).trans berths, (frame .coding (by simp)).trans coding,
      (frame .principals (by simp)).trans principals, fun i => Lane.rebooked_trans (lanes i) (rebooked i)⟩
  · obtain ⟨stays, leaves⟩ := h.told hs d e hd he
    have same := State.berth_eq_of_berths (frame .berths (by simp))
    refine ⟨fun hn => ?_, fun hl => ?_⟩
    · obtain ⟨berth, other, coding, lanes, principals⟩ := stays hn
      exact ⟨(same _).trans berth, fun o ho => (same o).trans (other o ho), (frame .coding (by simp)).trans coding,
        fun i => Lane.rebooked_trans (lanes i) (rebooked i), (frame .principals (by simp)).trans principals⟩
    · obtain ⟨cleared, principals⟩ := leaves hl
      exact ⟨State.berthCleared_retarget cleared (State.changesOnly_mono frame (by simp)) rebooked,
        (frame .principals (by simp)).trans principals⟩

end

/-- The carriers that ask a choice after a failure, ascending. -/
theorem State.ascending_wants (t : State) {s : State} (h : t.carriers.table.length = s.carriers.table.length) (k : Nat)
    (ks : List Nat) : t.ascending (k :: ks) = (List.range s.carriers.table.length).filter fun m => m = k ∨ m ∈ ks := by
  unfold State.ascending State.carrierNumbers
  rw [h]
  exact List.filter_congr fun m _ => by simp

theorem State.changesOnly_postFault (s : State) (r : FaultReport) : s.changesOnly (s.postFault r) [.principals] :=
  s.changesOnly_postOwner _ _

theorem State.PostsAs.postOwner {s t : State} (h : s.PostsAs t) (p : Principal) (body : NoticeBody) :
    (s.postOwner p body).PostsAs (t.postOwner p body) := by
  cases p with
  | hall => exact h.post _ _
  | berth b => exact h.postHallAnd b body

/-- A notice of the lane's fault leaves all but the notices as it was. -/
theorem State.Fails.of_frame {s f freed t u : State} {k : Nat} {ks : List Nat} (h : s.Fails f freed t k ks)
    (hu : t.changesOnly u [.principals]) :
    u.carriers = t.carriers ∧ u.lanes = t.lanes ∧ s.changesOnly u [.carriers, .lanes, .diverters, .berths, .coding, .principals]
      ∧ u.diverters = freed.diverters ∧ u.berths = t.berths ∧ u.coding = t.coding :=
  ⟨hu .carriers (by simp), hu .lanes (by simp), State.changesOnly_comp h.frame hu (by simp) (by simp),
    (hu .diverters (by simp)).trans h.diverters, hu .berths (by simp), hu .coding (by simp)⟩

theorem isFiredAt_iff (c : Carrier) (j : LaneNo) : c.isFiredAt j = true ↔ c.state = .fired ∧ c.target = some j := by
  simp [Carrier.isFiredAt]

section
variable {s : State} {k : Nat} {j : LaneNo}

/-- The state of a failed divert with its choices made (R130). -/
def State.chosenAfter (s freed : State) (k : Nat) (ks : List Nat) : State :=
  (freed.settleFailed k).chooseAll ((List.range s.carriers.table.length).filter fun m => m = k ∨ m ∈ ks)

theorem State.fails_chosenAfter {f freed : State} {ks : List Nat} (hk : k < s.carriers.table.length)
    (h : s.TakesBack f freed k ks) (hb : f.berths = s.berths) (hc : f.coding = s.coding) :
    s.Fails f freed (s.chosenAfter freed k ks) k ks :=
  (State.fails_settled hk h hb hc).choose fun m hm => by simpa using (List.mem_filter.1 hm).2

/-- A failure that makes the lane no FAULTED one (R130). -/
theorem State.finish_unfaulted (hk : k < s.carriers.table.length) (hf : (s.carrier k).isFiredAt j = true)
    (hn : ¬s.faultsAt j) (cause : DivertCause) :
    (s.failDivert k j cause).finish = s.chosenAfter (s.backAt k j) k [] := by
  have length := (State.fails_settled hk (State.takesBack_backAt (j := j) hk) rfl rfl).length
  rw [(State.failDivert_of hk hf cause).1 hn, State.chosenAfter, ← State.ascending_wants _ length]
  rfl

/-- A failure that makes the lane FAULTED (R133). -/
theorem State.finish_faulted (hk : k < s.carriers.table.length) (hf : (s.carrier k).isFiredAt j = true)
    (hn : s.faultsAt j) (cause : DivertCause) :
    (s.failDivert k j cause).finish
      = (s.chosenAfter (s.faultedAt k j) k (s.cancelledAt j)).postFault (s.faultReport k j cause) := by
  have length := (State.fails_settled hk (State.takesBack_faultedAt (j := j) hk) rfl rfl).length
  rw [(State.failDivert_of hk hf cause).2 hn, State.chosenAfter, ← State.ascending_wants _ length]
  rfl

end

/-! ## Timeouts -/

/-- The lane at which a carrier times out (R131). -/
theorem State.timedOutAt_eq (s : State) (k : Nat) :
    s.timedOutAt k = if (s.carrier k).state = .fired then (s.carrier k).target.filter fun j =>
      (s.lane j).offset.any fun d => s.loop.distance k d == s.loop.count - s.loop.commit else none := by
  unfold State.timedOutAt
  cases (s.carrier k).state with
  | fired =>
    cases (s.carrier k).target with
    | none => rfl
    | some j =>
      dsimp only
      rw [if_pos rfl]
      cases ho : (s.lane j).offset with
      | none => simp [Option.filter, ho]
      | some d => simp [Option.filter, ho]
  | _ => rfl

theorem State.timedOutAt_some_iff (s : State) (k : Nat) (j : LaneNo) :
    s.timedOutAt k = some j ↔ ((s.carrier k).state = .fired ∧ (s.carrier k).target = some j)
      ∧ ∃ d, (s.lane j).offset = some d ∧ s.loop.distance k d = s.loop.count - s.loop.commit := by
  rw [State.timedOutAt_eq]
  by_cases h : (s.carrier k).state = .fired
  · rw [if_pos h, Option.filter_eq_some_iff, Option.any_eq_true]
    simp [h]
  · simp [h]

theorem exec_noReportTimeout_none {s : State} {k : Nat} (h : s.timedOutAt k = none) :
    exec (.noReportTimeout k) s = .next s := by
  show execNoReportTimeout k s = _
  rw [execNoReportTimeout, h]

theorem exec_noReportTimeout_some {s : State} {k : Nat} {j : LaneNo} (h : s.timedOutAt k = some j) :
    exec (.noReportTimeout k) s = .next (s.failDivert k j .noReport).finish := by
  show execNoReportTimeout k s = _
  rw [execNoReportTimeout, h]

/-- One timeout of an ADVANCE, its choices and its notice left to do (R131). -/
def State.takeTimeout (acc : State × List Nat × List FaultReport) (k : Nat) : State × List Nat × List FaultReport :=
  match acc.1.timedOutAt k with
  | none => acc
  | some j => ((acc.1.failDivert k j .noReport).state, acc.2.1 ++ (acc.1.failDivert k j .noReport).wants,
    acc.2.2 ++ (acc.1.failDivert k j .noReport).report.toList)

theorem State.timeouts_eq (s : State) :
    (s.timeouts.1.state, s.timeouts.1.wants, s.timeouts.2)
      = (List.range s.carriers.table.length).foldl State.takeTimeout (s, [], []) := by
  unfold State.timeouts State.carrierNumbers
  refine (List.foldl_hom (fun acc : Failure × List FaultReport => (acc.1.state, acc.1.wants, acc.2))
    (init := (⟨s, [], none⟩, [])) fun acc k => ?_).symm
  unfold State.takeTimeout
  dsimp only
  cases acc.1.state.timedOutAt k <;> rfl

/-- Settles O58. -/
theorem divertsFail : Obligations.DivertsFail := by
  constructor
  · intro s n k j d e c x fired due score faults tries strays armed ready faulted told back freed settled chosen fails
    have failing (event : Instr) (cause : DivertCause) (hf : fired)
        (he : exec event s = .next (s.failDivert k j cause).finish) : fails event cause := by
      have hfired : (s.carrier k).isFiredAt j = true := (isFiredAt_iff _ _).2 hf
      have hk : k < s.carriers.table.length := s.lt_of_carrier_ne fun h => by
        exact nomatch hf.1.symm.trans (congrArg Carrier.state h)
      have settling (u : State) (hu : u.carrier k = c.takenBack) : u.settleFailed k = if strays then u.becomeStray k .divertFail else u := by
        by_cases hs : strays
        · rw [if_pos hs, (State.settleFailed_of hu).1 hs]
        · rw [if_neg hs, (State.settleFailed_of hu).2 hs]
      by_cases hfaults : faults
      · have h := State.fails_chosenAfter hk (State.takesBack_faultedAt (j := j) hk) rfl rfl
        have same : chosen = s.chosenAfter (s.faultedAt k j) k (s.cancelledAt j) := by
          have hfreed : freed = s.faultedAt k j := if_pos hfaults
          have hlist : ((List.range s.carriers.table.length).filter fun m =>
              decide (m = k ∨ faults ∧ (m ∈ armed ∨ m ∈ s.tentativeAt j)))
              = (List.range s.carriers.table.length).filter fun m => decide (m = k ∨ m ∈ s.cancelledAt j) :=
            List.filter_congr fun m _ => decide_eq_decide.2
              (or_congr_right ((and_iff_right hfaults).trans List.mem_append.symm))
          show State.chooseAll (if strays then freed.becomeStray k .divertFail else freed) _ = _
          rw [hfreed, ← settling _ (State.takesBack_faultedAt hk).own]
          exact congrArg (State.chooseAll _) hlist
        have post := (s.chosenAfter (s.faultedAt k j) k (s.cancelledAt j)).changesOnly_postFault (s.faultReport k j cause)
        rw [State.finish_faulted hk hfired hfaults] at he
        obtain ⟨carriers, lanes, frame, diverters, berths, coding⟩ := h.of_frame post
        have carrier (m) := State.carrier_eq_of_carriers carriers m
        have lane (i) := State.lane_eq_of_lanes lanes i
        have diverter (i) := State.diverter_eq_of_diverters diverters i
        have state : ((s.withFault j).lane j).state = .faulted := by rw [State.lane_withFault, if_pos rfl]
        have base : (s.withFault j).lane j = { s.lane j with state := .faulted } := by rw [State.lane_withFault, if_pos rfl]
        have handed := h.lanes j
        rw [base] at handed
        refine ⟨_, he, by rw [same, carriers], by rw [same, lanes], frame, ?_, ?_, fun i hi => ?_, ?_, fun _ => ?_,
          fun hs => ?_, fun hs => ?_, fun hn => absurd hfaults hn, fun _ => ⟨fun m hm => ?_, ?_, fun m hm => ?_,
            fun m hm hq ht => ?_⟩, ?_⟩
        · exact congrArg Diverter.score ((diverter j).trans ((State.diverter_faultedAt j).trans (if_pos rfl)))
        · exact (congrArg Diverter.queue ((diverter j).trans ((State.diverter_faultedAt j).trans (if_pos rfl)))).trans
            (if_pos hfaults).symm
        · exact (diverter i).trans ((State.diverter_faultedAt i).trans (if_neg hi))
        · rw [lane]
          exact handed.1
        · rw [lane]
          exact handed.2
        · rw [carrier]
          exact h.kept hs
        · rw [carrier]
          exact h.strayed hs
        · rw [carrier]
          exact h.each m hm
        · rw [List.eq_nil_iff_forall_not_mem]
          intro m hm
          obtain ⟨hlt, ht⟩ := (State.mem_tentativeAt _ j m).1 hm
          rw [carrier] at ht
          rw [carriers, h.length] at hlt
          by_cases hc : m = k ∨ m ∈ s.cancelledAt j
          · exact h.left j state m hc ((Carrier.isTentativeAt_iff _ j).1 ht).2.1
          · rw [not_or] at hc
            rw [h.others m hc.1 hc.2] at ht
            exact hc.2 (List.mem_append_right _ ((s.mem_tentativeAt j m).2 ⟨hlt, ht⟩))
        · rw [carrier]
          exact h.left j state m (.inr (List.mem_append_left _ hm))
        · rw [carrier]
          refine h.others m hm fun hc => (List.mem_append.1 hc).elim hq fun hc => ?_
          rw [((s.mem_tentativeAt j m).1 hc).2] at ht
          exact nomatch ht
        · intro reported
          have loop : (s.chosenAfter (s.faultedAt k j) k (s.cancelledAt j)).loop = s.loop := h.frame .loop (by simp)
          have notice (u : State) (hp : (s.chosenAfter (s.faultedAt k j) k (s.cancelledAt j)).principals = u.principals)
              (hl : u.loop = s.loop) : ((s.chosenAfter (s.faultedAt k j) k (s.cancelledAt j)).postFault
                (s.faultReport k j cause)).principals = (reported u).principals := by
            have posts : u.PostsAs (s.chosenAfter (s.faultedAt k j) k (s.cancelledAt j)) := ⟨hp, loop.trans hl.symm⟩
            rw [show reported u = _ from if_pos hfaults, lane]
            exact (posts.postOwner _ _).1
          have faulted_eq : faulted = s.withFault j := if_pos hfaults
          rw [faulted_eq, berths, coding]
          simp only [State.berth_eq_of_berths berths, lane]
          refine ⟨fun hs => ?_, fun hs hd he => ⟨fun hn => ?_, fun hl => ?_⟩⟩
          · obtain ⟨hb, hc, hp, hr⟩ := h.quiet hs
            exact ⟨hb, hc, notice s hp rfl, hr⟩
          · obtain ⟨hb, ho, hc, hr, hp⟩ := (h.told hs d e hd he).1 hn
            exact ⟨hb, ho, hc, hr, notice _ hp (s.loop_post _ _)⟩
          · obtain ⟨hc, hp⟩ := (h.told hs d e hd he).2 hl
            refine ⟨State.berthCleared_of_frame hc post, notice _ hp ?_⟩
            exact (State.changesOnly_postHallAnd _ _ _ .loop (by simp)).trans (s.loop_post _ _)
      · have h := State.fails_chosenAfter hk (State.takesBack_backAt (j := j) hk) rfl rfl
        have same : chosen = s.chosenAfter (s.backAt k j) k [] := by
          have hfreed : freed = s.backAt k j := if_neg hfaults
          have hlist : ((List.range s.carriers.table.length).filter fun m =>
              decide (m = k ∨ faults ∧ (m ∈ armed ∨ m ∈ s.tentativeAt j)))
              = (List.range s.carriers.table.length).filter fun m => decide (m = k ∨ m ∈ ([] : List Nat)) :=
            List.filter_congr fun m _ => decide_eq_decide.2
              (or_congr_right ⟨fun h => absurd h.1 hfaults, fun h => absurd h List.not_mem_nil⟩)
          show State.chooseAll (if strays then freed.becomeStray k .divertFail else freed) _ = _
          rw [hfreed, ← settling _ (State.takesBack_backAt hk).own]
          exact congrArg (State.chooseAll _) hlist
        rw [State.finish_unfaulted hk hfired hfaults] at he
        have diverter (i) := State.diverter_eq_of_diverters h.diverters i
        refine ⟨_, he, by rw [same], by rw [same], h.frame, ?_, ?_, fun i hi => ?_, (h.lanes j).1, fun hn => absurd hn hfaults,
          h.kept, h.strayed, fun _ m hm => h.others m hm (by simp), fun hn => absurd hn hfaults, ?_⟩
        · exact congrArg Diverter.score ((diverter j).trans ((State.diverter_backAt j).trans (if_pos rfl)))
        · exact (congrArg Diverter.queue ((diverter j).trans ((State.diverter_backAt j).trans (if_pos rfl)))).trans
            (if_neg hfaults).symm
        · exact (diverter i).trans ((State.diverter_backAt i).trans (if_neg hi))
        · intro reported
          have unreported (u : State) : reported u = u := if_neg hfaults
          have faulted_eq : faulted = s := if_neg hfaults
          rw [unreported, unreported, unreported, faulted_eq]
          exact ⟨h.quiet, fun hs hd he => h.told hs d e hd he⟩
    have failed (hj : laneOf j.val = some j) : exec (.divertFailed j.val k) s
        = .next (if (s.carrier k).isFiredAt j then (s.failDivert k j .failed).finish else s) := by
      show execDivertFailed j.val k s = _
      rw [execDivertFailed, hj]
    refine ⟨fun h => ?_, fun h => ?_, fun h => failing _ .failed h ?_, fun h => ?_, fun h hd => ?_, fun h => failing _ .noReport h.1 ?_⟩
    · show execDivertFailed n k s = _
      rw [execDivertFailed, laneOf_none h]
    · rw [failed (laneOf_val j), if_neg (mt (isFiredAt_iff _ _).1 h)]
    · rw [failed (laneOf_val j), if_pos ((isFiredAt_iff _ _).2 h)]
    · refine exec_noReportTimeout_none (Option.eq_none_iff_forall_ne_some.2 fun i hi => ?_)
      obtain ⟨⟨hc, ht⟩, -⟩ := (s.timedOutAt_some_iff k i).1 hi
      exact h.elim (fun h => h hc) fun h => nomatch h.symm.trans ht
    · refine exec_noReportTimeout_none (Option.eq_none_iff_forall_ne_some.2 fun i hi => ?_)
      obtain ⟨hf, hdue⟩ := (s.timedOutAt_some_iff k i).1 hi
      obtain rfl : i = j := Option.some.inj (hf.2.symm.trans h.2)
      exact hd ⟨h, hdue⟩
    · exact exec_noReportTimeout_some ((s.timedOutAt_some_iff k j).2 h)
  · intro s dueAt take done
    have due (u : State) (k : Nat) : dueAt u k = u.timedOutAt k := (u.timedOutAt_eq k).symm
    have same : take = State.takeTimeout := funext fun acc => funext fun k => by
      simp only [take, due]
      rfl
    have all : done = (s.timeouts.1.state, s.timeouts.1.wants, s.timeouts.2) := by
      rw [s.timeouts_eq, ← same]
    refine ⟨by rw [all], by rw [all], by rw [all], fun k j h => exec_noReportTimeout_some (due s k ▸ h)⟩

end Sys2Proof.Machine

/-! SUPPORT. What the blocks may touch at an ADVANCE, and what they leave alone when there is nothing to do (R3). -/

namespace Sys2Proof.Machine

/-! ## The parts that the blocks may touch -/

/-- The parts that the blocks after the Loop Tracker may change at an ADVANCE. -/
def State.Advances (s t : State) : Prop :=
  s.changesOnly t [.carriers, .induction, .stations, .berths, .router, .lanes, .diverters, .coding, .principals, .orders]

theorem State.Advances.refl (s : State) : s.Advances s := s.changesOnly_refl _

theorem State.Advances.trans {s t u : State} (h : s.Advances t) (h' : t.Advances u) : s.Advances u :=
  State.changesOnly_trans h h'

theorem State.Advances.of_frame {s t : State} {ps : List Part} (h : s.changesOnly t ps)
    (hs : ∀ p ∈ ps, p ∈ [Part.carriers, .induction, .stations, .berths, .router, .lanes, .diverters, .coding, .principals,
      .orders]) : s.Advances t := State.changesOnly_mono h hs

theorem State.advances_setCarrier (s : State) (k : Nat) (c : Carrier) : s.Advances (s.setCarrier k c) :=
  .of_frame (s.changesOnly_storeCarrier k c) (by simp)

theorem forEach_advances {α : Type} {f : State → α → State} (hf : ∀ (s : State) a, s.Advances (f s a)) (xs : List α) (s : State) :
    s.Advances (forEach xs f s) :=
  forEach_keeps (fun t => s.Advances t) f xs s (.refl s) fun t a _ h => h.trans (hf t a)

/-! ## The points -/

theorem State.advances_grant (s : State) (i : PointNo) (k : Nat) (w : Waiting) : s.Advances (s.grant i k w).1 := by
  have gave : s.Advances (s.gaveUp i k) := .of_frame (s.changesOnly_gaveUp i k) (by simp)
  refine gave.trans ?_
  show (s.gaveUp i k).Advances ((s.gaveUp i k).loadBag i k w).1
  unfold State.loadBag
  split
  · unfold State.grantTicketed
    split
    · exact State.advances_setCarrier _ _ _
    · next r _ =>
      have consumed : (s.gaveUp i k).Advances ((s.gaveUp i k).consume r) :=
        .of_frame (State.changesOnly_consume _ r) (by simp)
      split
      · exact consumed.trans (State.advances_setCarrier _ _ _)
      · exact consumed.trans ((State.advances_setCarrier _ _ _).trans
          (.of_frame (State.routes_matchEntry _ k _).1 (by simp)))
  · exact State.advances_setCarrier _ _ _

theorem State.advances_waitOn (s : State) (i : PointNo) (d k : Nat) (w : Waiting) : s.Advances (s.waitOn i d k w) := by
  have lapsed : s.Advances (if (s.carrier k).reservation = some i then
      s.setCarrier k { s.carrier k with reservation := none } else s) := by
    split
    · exact State.advances_setCarrier _ _ _
    · exact .refl s
  unfold State.waitOn
  dsimp only
  generalize (if (s.carrier k).reservation = some i then s.setCarrier k { s.carrier k with reservation := none } else s) = u
    at lapsed ⊢
  have waited := lapsed.trans (.of_frame (u.changesOnly_setPoint i
    { u.point i with waiting := some { w with wait := raiseTo 255 w.wait 1 } }) (by simp))
  split
  · refine waited.trans ?_
    unfold State.reserve
    split
    · exact .refl _
    · exact State.advances_setCarrier _ _ _
  · exact waited

theorem Granting.advances_pointStep (g : Granting) (i : PointNo) : g.state.Advances (g.pointStep i).state := by
  unfold Granting.pointStep
  dsimp only
  split
  · split
    · exact g.state.advances_grant i _ _
    · exact g.state.advances_waitOn i _ _ _
  · exact .refl _

theorem State.advances_induct (s : State) : s.Advances s.induct.state := by
  have keep (is : List PointNo) (g : Granting) (h : s.Advances g.state) : s.Advances (is.foldl Granting.pointStep g).state := by
    induction is generalizing g with
    | nil => exact h
    | cons i is ih => exact ih _ (h.trans (g.advances_pointStep i))
  exact keep allPoints ⟨s, [], []⟩ (.refl s)

/-! ## Windows, laps, timeouts, firing and arming -/

theorem State.advances_closeWindows (s : State) : s.Advances s.closeWindows.1 := by
  rw [State.closeWindows_eq]
  exact .of_frame (s.closedUpTo_foldl allStations (List.nodup_finRange 4)).frame (by simp)

theorem State.advances_openWindows (s : State) (excluded : List Nat) : s.Advances (s.openWindows excluded) :=
  .of_frame (s.openedUpTo_forEach excluded allStations (List.nodup_finRange 4)).frame (by simp)

theorem State.advances_expireWait (s : State) (k : Nat) : s.Advances (s.expireWait k) := by
  unfold State.expireWait
  split
  · have removed : s.Advances (s.removePending k) := .of_frame (s.changesOnly_setRouter _) (by simp)
    exact removed.trans (.of_frame (State.routes_enterDisposition _ k _).1 (by simp))
  · exact .refl s

theorem State.advances_strayAtLimit (s : State) (k : Nat) : s.Advances (s.strayAtLimit k) := by
  unfold State.strayAtLimit
  split
  · next h =>
    have hk : k < s.carriers.table.length := s.lt_of_carrier_ne fun he => by
      exact nomatch ((s.strayAtLimit_test k).1 h).1.symm.trans (congrArg Carrier.state he)
    split
    · exact .of_frame (s.becomeStray_frame hk _).1 (by simp)
    · exact .of_frame (s.becomeStray_frame hk _).1 (by simp)
    · exact .refl s
  · exact .refl s

theorem State.advances_countLaps (s : State) (before : List Nat) : s.Advances (s.countLaps before) := by
  unfold State.countLaps
  split
  · exact (forEach_advances (fun u k => u.advances_setCarrier k _) before s).trans
      (forEach_advances (fun u k => (u.advances_expireWait k).trans (State.advances_strayAtLimit _ k)) before _)
  · exact .refl s

theorem State.advances_failDivert {s : State} {k : Nat} {j : LaneNo} (h : s.timedOutAt k = some j) :
    s.Advances (s.failDivert k j .noReport).state := by
  obtain ⟨hf, -⟩ := (s.timedOutAt_some_iff k j).1 h
  have hk : k < s.carriers.table.length := s.lt_of_carrier_ne fun he => by
    exact nomatch hf.1.symm.trans (congrArg Carrier.state he)
  have hfired := (isFiredAt_iff (s.carrier k) j).2 hf
  by_cases hn : s.faultsAt j
  · rw [(State.failDivert_of hk hfired .noReport).2 hn]
    exact .of_frame (State.fails_settled hk (State.takesBack_faultedAt (j := j) hk) rfl rfl).frame (by simp)
  · rw [(State.failDivert_of hk hfired .noReport).1 hn]
    exact .of_frame (State.fails_settled hk (State.takesBack_backAt (j := j) hk) rfl rfl).frame (by simp)

theorem State.advances_timeouts (s : State) : s.Advances s.timeouts.1.state := by
  have step (acc : State × List Nat × List FaultReport) (k : Nat) : acc.1.Advances (State.takeTimeout acc k).1 := by
    unfold State.takeTimeout
    split
    · exact .refl _
    · next h => exact State.advances_failDivert h
  have keep (ks : List Nat) (acc : State × List Nat × List FaultReport) (h : s.Advances acc.1) :
      s.Advances (ks.foldl State.takeTimeout acc).1 := by
    induction ks generalizing acc with
    | nil => exact h
    | cons k ks ih => exact ih _ (h.trans (step acc k))
  rw [show s.timeouts.1.state = _ from congrArg Prod.fst s.timeouts_eq]
  exact keep _ _ (.refl s)

theorem State.advances_fireAll (s : State) : s.Advances s.fireAll :=
  forEach_advances (fun u j => by
    unfold State.fireAt
    split
    · exact .refl u
    · split
      · exact State.Advances.trans (.of_frame (State.changesOnly_comp (u.changesOnly_handOver _)
          (State.changesOnly_setDiverter _ j _) (rs := [.orders, .diverters]) (by simp) (by simp)) (by simp))
          (State.advances_setCarrier _ _ _)
      · exact .refl u) allLanes s

theorem State.advances_armAll (s : State) : s.Advances s.armAll := by
  unfold State.armAll
  split
  · refine forEach_advances (fun u k => ?_) _ s
    unfold State.armOne
    split
    · exact .refl u
    · split
      · exact (u.advances_setCarrier k _).trans (.of_frame (State.changesOnly_setDiverter _ _ _) (by simp))
      · exact .refl u
  · exact .refl s

theorem Advance.advances_finish (a : Advance) : a.state.Advances a.finish :=
  State.Advances.trans (.of_frame (a.state.retargets_chooseAll _).1 (by simp))
    (forEach_advances (fun u r => .of_frame (u.changesOnly_postFault r) (by simp)) a.reports _)

end Sys2Proof.Machine

/-! SUPPORT. ADVANCE: the order of the blocks, and position and counts (R1 to R4). -/

namespace Sys2Proof.Machine

/-! ## The Loop Tracker -/

/-- Position and counts after an ADVANCE (R2, R4, Table 1-2). -/
def Loop.afterAdvance (l : Loop) (mark : Byte) : Loop :=
  if (l.position + 1) % l.count = 0 ∧ mark ≠ 0 then { l with position := 0, revolutions := (l.revolutions + 1) % 65536 }
  else if (l.position + 1) % l.count = 0 then
    { l with position := 0, revolutions := (l.revolutions + 1) % 65536, homeMissed := min 255 (l.homeMissed + 1) }
  else if mark = 0 then { l with position := (l.position + 1) % l.count }
  else { l with position := 0, revolutions := (l.revolutions + 1) % 65536, slips := min 255 (l.slips + 1) }

theorem State.track_spec (s : State) (mark : Byte) :
    (s.track (isHomeMark mark)).1.loop = s.loop.afterAdvance mark
      ∧ s.changesOnly (s.track (isHomeMark mark)).1
        [.loop, .carriers, .stations, .berths, .router, .lanes, .diverters, .coding, .mode, .principals]
      ∧ (((s.loop.position + 1) % s.loop.count = 0 ↔ mark ≠ 0) →
        (s.track (isHomeMark mark)).1 = { s with loop := s.loop.afterAdvance mark })
      ∧ ((s.loop.position + 1) % s.loop.count = 0 → mark = 0 → (s.track (isHomeMark mark)).1
        = State.post { s with loop := s.loop.afterAdvance mark } .hall (.homeMissed (s.loop.afterAdvance mark).homeMissed))
      ∧ (mark ≠ 0 → (s.loop.position + 1) % s.loop.count ≠ 0 → (s.track (isHomeMark mark)).1 = s.slip) := by
  have home : isHomeMark mark = true ↔ mark ≠ 0 := by simp [isHomeMark]
  unfold Loop.afterAdvance
  cases hn : (s.loop.position + 1) % s.loop.count with
  | zero =>
    cases hm : isHomeMark mark with
    | true =>
      have mark : mark ≠ 0 := home.1 hm
      have track : s.track true = (s.setLoop s.loop.atHome, true) := by
        simp only [State.track, show s.loop.expected = 0 from hn]
      rw [track, if_pos ⟨rfl, mark⟩]
      exact ⟨rfl, State.changesOnly_mono (s.changesOnly_setLoop _) (by simp), fun _ => rfl, fun _ h => absurd h mark,
        fun _ h => absurd rfl h⟩
    | false =>
      have mark : mark = 0 := by_contra fun h => by simp [home.2 h] at hm
      have track : s.track false = (s.missHome, true) := by
        simp only [State.track, show s.loop.expected = 0 from hn]
      rw [track, if_neg fun h => h.2 mark, if_pos rfl]
      have post := State.changesOnly_post (s.setLoop { s.loop.atHome with homeMissed := raiseTo 255 s.loop.homeMissed 1 }) .hall
        (.homeMissed (raiseTo 255 s.loop.homeMissed 1))
      refine ⟨post .loop (by simp), ?_, fun h => absurd mark (h.1 rfl), fun _ _ => rfl, fun h => absurd mark h⟩
      exact State.changesOnly_comp (s.changesOnly_setLoop _) post (by simp) (by simp)
  | succ n =>
    cases hm : isHomeMark mark with
    | true =>
      have mark : mark ≠ 0 := home.1 hm
      have track : s.track true = (s.slip, false) := by
        simp only [State.track, show s.loop.expected = n + 1 from hn]
      obtain ⟨-, loop, frame, -⟩ := slipLosesTrack s
      rw [track, if_neg (by simp), if_neg (by simp), if_neg mark]
      exact ⟨loop, frame, fun h => absurd (h.2 mark) (by simp), fun h => absurd h (by simp), fun _ _ => rfl⟩
    | false =>
      have mark : mark = 0 := by_contra fun h => by simp [home.2 h] at hm
      have track : s.track false = (s.setLoop { s.loop with position := n + 1 }, false) := by
        simp only [State.track, show s.loop.expected = n + 1 from hn]
      rw [track, if_neg (by simp), if_neg (by simp), if_pos mark]
      exact ⟨rfl, State.changesOnly_mono (s.changesOnly_setLoop _) (by simp), fun _ => rfl, fun h => absurd h (by simp),
        fun h => absurd mark h⟩

/-! ## The order of the blocks -/

/-- What the blocks leave of an ADVANCE after the points: the windows close and open, laps are counted at a home crossing,
then timeouts, firing and arming (R3). -/
def Granting.passOn (g : Granting) (home : Bool) (before : List Nat) : Advance :=
  let closed := g.state.closeWindows
  let opened := closed.1.openWindows (closed.2 ++ g.granted)
  let counted := if home then opened.countLaps before else opened
  ⟨counted.timeouts.1.state.fireAll.armAll, g.wants ++ closed.2 ++ (if home then before else []) ++ counted.timeouts.1.wants,
    counted.timeouts.2⟩

theorem State.passOn_eq (s : State) (mark : Bool) :
    s.passOn mark = (s.track mark).1.induct.passOn (s.track mark).2 (s.carriersWith (·.isLapping)) := rfl

theorem Granting.advances_passOn (g : Granting) (home : Bool) (before : List Nat) :
    g.state.Advances (g.passOn home before).state := by
  have windows := g.state.advances_closeWindows.trans
    (g.state.closeWindows.1.advances_openWindows (g.state.closeWindows.2 ++ g.granted))
  have laps (u : State) : u.Advances (if home then u.countLaps before else u) := by
    split
    · exact u.advances_countLaps before
    · exact .refl u
  have counted := windows.trans (laps _)
  dsimp only [Granting.passOn]
  generalize (if home then _ else _ : State) = u at counted ⊢
  have fired := u.advances_timeouts.trans u.timeouts.1.state.advances_fireAll
  exact counted.trans (fired.trans u.timeouts.1.state.fireAll.advances_armAll)

theorem Advance.finish_eq (a : Advance) :
    a.finish = a.reports.foldl (fun u r => u.postOwner (u.lane r.lane).owner
        (.laneFault r.lane (u.lane r.lane).owner r.score r.carrier r.cause r.cancelled r.rechosen r.fired))
      (a.state.chooseAll ((List.range a.state.carriers.table.length).filter fun k => a.wants.contains k)) := rfl

/-! ## A loop with nothing to do -/

/-- SETUP, with nothing on the loop, waiting or armed. -/
structure State.Idles (s : State) : Prop where
  mode : s.mode = .setup
  waiting : ∀ i, (s.point i).waiting = none
  window : ∀ n, (s.station n).window = none
  empty : ∀ c ∈ s.carriers.table, c.state = .empty
  queue : ∀ j, (s.diverter j).queue = []

theorem State.Idles.of_frame {s t : State} (h : s.Idles) (ht : s.changesOnly t [.loop, .principals]) : t.Idles where
  mode := (show t.mode = s.mode from ht .mode (by simp)).trans h.mode
  waiting i := by
    rw [State.point_eq_of_induction (ht .induction (by simp))]
    exact h.waiting i
  window n := by
    rw [State.station_eq_of_stations (ht .stations (by simp))]
    exact h.window n
  empty c hc := h.empty c ((show t.carriers = s.carriers from ht .carriers (by simp)) ▸ hc)
  queue j := by
    rw [State.diverter_eq_of_diverters (ht .diverters (by simp))]
    exact h.queue j

section
variable {s : State} (h : s.Idles)
include h

theorem State.Idles.carrier (k : Nat) : (s.carrier k).state = .empty := by
  by_cases hk : k < s.carriers.table.length
  · exact h.empty _ (List.mem_of_getElem? (State.getElem?_carriers hk))
  · rw [State.carrier_of_ge s (Nat.le_of_not_lt hk)]
    rfl

theorem State.Idles.lapping : s.carriersWith (·.isLapping) = [] :=
  List.filter_eq_nil_iff.2 fun k _ => by simp [Carrier.isLapping, Carrier.isUntargeted, h.carrier k]

theorem State.Idles.induct : s.induct = ⟨s, [], []⟩ :=
  List.foldl_fixed' (fun i => Granting.pointStep_skip (.inr (.inr (h.waiting i)))) allPoints

theorem State.Idles.closeWindows : s.closeWindows = (s, []) := by
  rw [State.closeWindows_eq]
  refine List.foldl_fixed' (fun n => ?_) allStations
  rw [State.closeAt, h.window n]

theorem State.Idles.openWindows (excluded : List Nat) : s.openWindows excluded = s := by
  have none (n : StationNo) : s.opensOn excluded n = none := by
    unfold State.opensOn
    cases (s.station n).offset <;> simp [h.mode]
  refine forEach_keeps (· = s) _ allStations s rfl fun t n _ ht => ?_
  rw [ht, State.considerWindow_eq, none]

theorem State.Idles.timeouts : s.timeouts.1.state = s ∧ s.timeouts.1.wants = [] ∧ s.timeouts.2 = [] := by
  have none (k : Nat) : s.timedOutAt k = none := by
    rw [State.timedOutAt_eq, if_neg (by rw [h.carrier k]; simp)]
  have step (k : Nat) : State.takeTimeout (s, [], []) k = (s, [], []) := by
    rw [State.takeTimeout, none]
  have all := s.timeouts_eq.trans (List.foldl_fixed' step _)
  exact ⟨congrArg (·.1) all, congrArg (·.2.1) all, congrArg (·.2.2) all⟩

theorem State.Idles.fireAll : s.fireAll = s :=
  forEach_keeps (· = s) _ allLanes s rfl fun t j _ ht => by rw [ht, State.fireAt, h.queue j]

theorem State.Idles.passOn (mark : Bool) (ht : s.changesOnly (s.track mark).1 [.loop, .principals]) :
    (s.passOn mark).finish = (s.track mark).1 := by
  have idle := h.of_frame ht
  rw [State.passOn_eq, h.lapping]
  generalize s.track mark = t at idle ⊢
  obtain ⟨state, wants, reports⟩ := idle.timeouts
  have diverts : t.1.mode.diverts = false := by rw [idle.mode]; rfl
  have laps : (if t.2 then t.1.countLaps [] else t.1) = t.1 := by
    rw [State.countLaps, diverts, if_neg Bool.false_ne_true, ite_self]
  rw [idle.induct, Granting.passOn]
  simp only [idle.closeWindows, idle.openWindows, laps, state, wants, reports, idle.fireAll, State.armAll, diverts]
  simp [Advance.finish_eq, State.chooseAll, forEach]

end

/-- Settles O47. -/
theorem advanceRunsEveryBlock : Obligations.AdvanceRunsEveryBlock := by
  refine ⟨fun s mark => ?_, fun s mark => ?_⟩
  · intro before tracked granted closed opened counted timed armed wants asking
    have points : allPoints = [0, 1, 2, 3, 4, 5] := rfl
    have granting : (s.track (mark != 0)).1.induct = granted := by
      rw [State.induct, points]
    have passed : s.passOn (isHomeMark mark) = ⟨armed, wants, timed.2⟩ := by
      rw [s.passOn_eq (isHomeMark mark), show isHomeMark mark = (mark != 0) from rfl, granting]
      rfl
    show Host.Outcome.next (s.passOn (isHomeMark mark)).finish = _
    rw [passed, Advance.finish_eq]
  · intro next home after quiet
    obtain ⟨loop, frame, plain, missed, -⟩ := s.track_spec mark
    have rest : (s.track (isHomeMark mark)).1.Advances (s.passOn (isHomeMark mark)).finish := by
      rw [s.passOn_eq]
      exact (State.advances_induct _).trans ((Granting.advances_passOn _ _ _).trans (Advance.advances_finish _))
    refine ⟨⟨_, rfl, (rest .loop (by simp)).trans loop, State.changesOnly_comp frame rest (by simp) (by simp)⟩,
      fun ⟨hm, hw, hn, hc, hq⟩ hnext hmark => ?_, fun ⟨hm, hw, hn, hc, hq⟩ hnext => ?_⟩
    · have track := missed hnext hmark
      refine (congrArg Host.Outcome.next (State.Idles.passOn ⟨hm, hw, hn, hc, hq⟩ _ ?_)).trans (congrArg Host.Outcome.next track)
      rw [track]
      exact State.changesOnly_comp (s.changesOnly_setLoop _) (State.changesOnly_post _ _ _) (by simp) (by simp)
    · have track := plain (by tauto)
      refine (congrArg Host.Outcome.next (State.Idles.passOn ⟨hm, hw, hn, hc, hq⟩ _ ?_)).trans (congrArg Host.Outcome.next track)
      rw [track]
      exact State.changesOnly_mono (s.changesOnly_setLoop _) (by simp)

end Sys2Proof.Machine

/-! SUPPORT. The agreement of carriers with entries, tickets, pending records and armed queues, stated by number, and with the
carriers that a rule has in hand left out (R9, R10, R63, R86, R124, R136). -/

namespace Sys2Proof.Machine

/-! ## The invariant by numbers -/

/-- The entry that an identity names is ON_LOOP. -/
def State.rides (s : State) (d : Identity) : Prop := ∃ e, s.entryOf d = some e ∧ e.state = .onLoop

/-- The entry that an identity names holds a ticket. -/
def State.holds (s : State) (d : Identity) (t : Nat) : Prop := ∃ e, s.entryOf d = some e ∧ e.ticket = some t

/-- The berth is BOUND or CLOSING. -/
def State.opens (s : State) (b : BerthId) : Prop := (s.berth b).state.isOpen = true

/-- R10: the identities of carriers are the ON_LOOP entries of open berths, one for one, those of `L` left out. -/
structure State.IdsAgree (s : State) (L : Identity → Prop) : Prop where
  opened : ∀ d, s.rides d → s.opens d.berth
  named : ∀ k d, ¬L d → (s.carrier k).identity = some d → s.rides d
  once : ∀ k m d, (s.carrier k).identity = some d → (s.carrier m).identity = some d → k = m
  carried : ∀ d, ¬L d → s.rides d → ∃ k, (s.carrier k).identity = some d

/-- R63, R136: tickets are unique over both lists, and the entries that records name hold them. -/
structure State.TicketsHeld (s : State) : Prop where
  unique : (s.coding.references.map (·.1)).Nodup
  range : ∀ r ∈ s.coding.references, 1 ≤ r.1 ∧ r.1 ≤ 4095
  whole : ∀ r ∈ s.coding.references, r.2.2 ≠ none → r.2.1 ≠ none
  opened : ∀ r ∈ s.coding.references, ∀ b ∈ r.2.1, s.opens b
  held : ∀ t d, (t, some d.berth, some d.entry) ∈ s.coding.references ↔ s.holds d t
  strayed : ∀ d e, s.entryOf d = some e → e.ticket ≠ none → e.state = .strayed

/-- R86: pending records and WAITING carriers, those of `K` left out. -/
structure State.PendAgrees (s : State) (K : Nat → Prop) : Prop where
  carriers : (s.router.pendingTags.map (·.carrier)).Nodup
  tags : (s.router.pendingTags.map fun r => (r.berth, r.serial)).Nodup
  waits : ∀ r ∈ s.router.pendingTags, ¬K r.carrier → (s.carrier r.carrier).state = .waiting
    ∧ ∃ t ∈ (s.carrier r.carrier).candidate, t.serial = r.serial ∧ (s.berth r.berth).state = .bound t.ship
  listed : ∀ k, ¬K k → (s.carrier k).state = .waiting → ∃ r ∈ s.router.pendingTags, r.carrier = k

/-- The distance by which an armed queue is in order (R124). -/
def State.ahead (s : State) (j : LaneNo) (k : Nat) : Nat := s.loop.distance k ((s.lane j).offset.getD 0)

/-- R124: armed queues and armed carriers, those of `K` left out, at distances that satisfy `R` for K. -/
structure State.ArmAgrees (s : State) (K : Nat → Prop) (R : Nat → Nat → Prop) : Prop where
  queued : ∀ j, ∀ k ∈ (s.diverter j).queue, ¬K k → (s.carrier k).state = .carrying ∧ (s.carrier k).armed = true
    ∧ (s.carrier k).target = some j ∧ (s.lane j).offset ≠ none ∧ R s.loop.commit (s.ahead j k)
  ordered : ∀ j, (s.diverter j).queue.Pairwise fun a b => ¬K a → ¬K b → s.ahead j a < s.ahead j b
  armed : ∀ k j, ¬K k → (s.carrier k).armed = true → (s.carrier k).target = some j → k ∈ (s.diverter j).queue
  idle : s.mode = .setup ∨ s.mode = .halted → ∀ j, (s.diverter j).queue = []

/-- Every agreement between the tables, the carriers of `K` and the identities of `L` left out, armed carriers at distances
that satisfy `R` for K. -/
structure State.Coheres (s : State) (K : Nat → Prop) (L : Identity → Prop) (R : Nat → Nat → Prop) : Prop where
  counted : s.counted
  offsets : s.offsetsInRange
  ids : s.IdsAgree L
  tickets : s.TicketsHeld
  fields : ∀ k, ¬K k → (s.carrier k).fieldsAgree
  setup : s.mode = .setup → ∀ k, ¬K k → (s.carrier k).state = .empty
  pend : s.PendAgrees K
  arm : s.ArmAgrees K R

/-- No carrier is in hand. -/
def noneHeld : Nat → Prop := fun _ => False

/-- No identity is left out. -/
def noneLost : Identity → Prop := fun _ => False

/-- Distances at which a carrier may be armed, for K (R124). -/
def inReach : Nat → Nat → Prop := fun c d => 0 < d ∧ d < c

/-! ## Indexes and members -/

theorem Berth.findEntry_iff {r : Berth} (h : (r.tags.map (·.index)).Pairwise (· < ·)) (i : Nat) (e : Entry) :
    r.findEntry i = some e ↔ e ∈ r.tags ∧ e.index = i := by
  refine ⟨fun he => ⟨Berth.mem_of_findEntry he, Berth.index_of_findEntry he⟩, fun ⟨hm, hi⟩ => ?_⟩
  cases hf : r.findEntry i with
  | none => exact absurd (List.find?_eq_none.1 hf e hm) (by simp [hi])
  | some x => rw [eq_of_key_eq h (Berth.mem_of_findEntry hf) hm ((Berth.index_of_findEntry hf).trans hi.symm)]

theorem State.forall_mem_table {s : State} {P : Carrier → Prop} (h : P Carrier.empty) :
    (∀ c ∈ s.carriers.table, P c) ↔ ∀ k, P (s.carrier k) := by
  refine ⟨fun hp k => ?_, fun hp c hc => ?_⟩
  · by_cases hk : k < s.carriers.table.length
    · exact hp _ (List.mem_of_getElem? (State.getElem?_carriers hk))
    · rw [s.carrier_of_ge (Nat.le_of_not_lt hk)]
      exact h
  · obtain ⟨k, hk⟩ := List.mem_iff_getElem?.1 hc
    rw [← State.carrier_eq_of_getElem? hk]
    exact hp k

/-- Carriers that satisfy a test, counted and by number. -/
theorem State.countP_carriers (s : State) (p : Carrier → Bool) : s.carriers.table.countP p = (s.carriersWith p).length := by
  rw [State.carriersWith, State.carrierNumbers]
  conv_lhs => rw [State.table_eq_map s]
  rw [List.countP_map, List.countP_eq_length_filter]
  rfl

theorem State.mem_carriersWith {s : State} {p : Carrier → Bool} (h : p Carrier.empty = false) (k : Nat) :
    k ∈ s.carriersWith p ↔ p (s.carrier k) = true := by
  simp only [State.carriersWith, State.carrierNumbers, List.mem_filter, List.mem_range]
  refine ⟨fun hk => hk.2, fun hp => ⟨s.lt_of_carrier_ne fun he => ?_, hp⟩⟩
  rw [he, h] at hp
  cases hp

theorem State.countP_one_iff {s : State} {p : Carrier → Bool} (h : p Carrier.empty = false) :
    s.carriers.table.countP p = 1
      ↔ (∃ k, p (s.carrier k) = true) ∧ ∀ k m, p (s.carrier k) = true → p (s.carrier m) = true → k = m := by
  rw [s.countP_carriers, List.length_eq_one_iff]
  simp only [← State.mem_carriersWith h]
  refine ⟨fun ⟨k, hk⟩ => ?_, fun ⟨⟨k, hk⟩, hu⟩ => ⟨k, ?_⟩⟩
  · rw [hk]
    simp
  · refine List.perm_singleton.1 ((List.perm_ext_iff_of_nodup (s.nodup_carriersWith p) (List.nodup_singleton k)).2 fun m => ?_)
    rw [List.mem_singleton]
    exact ⟨fun hm => hu m k hm hk, fun hm => hm ▸ hk⟩

/-- The carriers whose identity is `d`. -/
theorem State.countP_identity (s : State) (d : Identity) :
    (s.carriers.table.countP (fun c => c.identity == some d) = 1
        ↔ (∃ k, (s.carrier k).identity = some d) ∧ ∀ k m, (s.carrier k).identity = some d → (s.carrier m).identity = some d → k = m)
      ∧ (s.carriers.table.countP (fun c => c.identity == some d) = 0 ↔ ∀ k, (s.carrier k).identity ≠ some d) := by
  constructor
  · simpa using s.countP_one_iff (p := fun c => c.identity == some d) rfl
  · rw [List.countP_eq_zero, State.forall_mem_table (P := fun c => ¬(c.identity == some d) = true) (by simp [Carrier.empty])]
    simp

/-! ## The two forms -/

section
variable {s : State} (hm : s.manifestsAgree)
include hm

theorem State.entryOf_iff (d : Identity) (e : Entry) :
    s.entryOf d = some e ↔ e ∈ (s.berth d.berth).tags ∧ e.index = d.entry :=
  Berth.findEntry_iff (hm d.berth).1.2.1 d.entry e

theorem State.opens_of_entry {d : Identity} (hd : s.entryOf d ≠ none) : s.opens d.berth := by
  obtain ⟨e, he⟩ := Option.ne_none_iff_exists'.1 hd
  have hmem := ((State.entryOf_iff hm d e).1 he).1
  unfold State.opens
  cases hstate : (s.berth d.berth).state with
  | unbound =>
    rw [((hm d.berth).2 hstate).2] at hmem
    cases hmem
  | bound c => rfl
  | closing c => rfl

theorem State.idsAgree_iff (h : ∀ d, s.entryOf d ≠ none → s.opens d.berth) : s.IdsAgree noneLost ↔ s.identitiesAgree := by
  have entry (b : BerthId) (e : Entry) (he : e ∈ (s.berth b).tags) : s.entryOf ⟨b, e.index⟩ = some e :=
    (State.entryOf_iff hm ⟨b, e.index⟩ e).2 ⟨he, rfl⟩
  have rides (b : BerthId) (e : Entry) (he : e ∈ (s.berth b).tags) : s.rides ⟨b, e.index⟩ ↔ e.state = .onLoop := by
    refine ⟨fun ⟨x, hx, hs⟩ => ?_, fun hs => ⟨e, entry b e he, hs⟩⟩
    rw [← Option.some.inj ((entry b e he).symm.trans hx)] at hs
    exact hs
  refine ⟨fun ⟨hopen, named, once, carried⟩ => ⟨fun b e he => ?_, fun c hc d hd => ?_⟩, fun ⟨count, named⟩ => ?_⟩
  · by_cases hs : e.state = .onLoop
    · rw [if_pos hs]
      exact (s.countP_identity _).1.2 ⟨carried _ id ((rides b e he).2 hs), fun k m hk hm => once k m _ hk hm⟩
    · rw [if_neg hs]
      exact (s.countP_identity _).2.2 fun k hk => hs ((rides b e he).1 (named k _ id hk))
  · obtain ⟨k, hk⟩ := List.mem_iff_getElem?.1 hc
    rw [← State.carrier_eq_of_getElem? hk] at hd
    obtain ⟨e, he, hs⟩ := named k d id hd
    obtain ⟨hmem, hi⟩ := (State.entryOf_iff hm d e).1 he
    exact ⟨hopen d ⟨e, he, hs⟩, e, hmem, hi, hs⟩
  · have named (k d) (hd : (s.carrier k).identity = some d) : s.opens d.berth
        ∧ ∃ e ∈ (s.berth d.berth).tags, e.index = d.entry ∧ e.state = .onLoop := by
      refine named _ (List.mem_of_getElem? (State.getElem?_carriers (s.lt_of_carrier_ne fun he => ?_))) d hd
      rw [he] at hd
      cases hd
    have rider (d) (h : s.rides d) : (∃ k, (s.carrier k).identity = some d)
        ∧ ∀ k m, (s.carrier k).identity = some d → (s.carrier m).identity = some d → k = m := by
      obtain ⟨e, he, hs⟩ := h
      obtain ⟨hmem, hi⟩ := (State.entryOf_iff hm d e).1 he
      have one := count d.berth e hmem
      rw [if_pos hs, hi] at one
      exact (s.countP_identity d).1.1 one
    have rides' (k d) (hd : (s.carrier k).identity = some d) : s.rides d := by
      obtain ⟨-, e, he, hi, hs⟩ := named k d hd
      exact ⟨e, (State.entryOf_iff hm d e).2 ⟨he, hi⟩, hs⟩
    exact ⟨fun d ⟨e, he, _⟩ => h d (by simp [he]), fun k d _ => rides' k d, fun k m d hk hm => (rider d (rides' k d hk)).2 k m hk hm,
      fun d _ hd => (rider d hd).1⟩

theorem State.ticketsHeld_iff : s.TicketsHeld ↔ s.ticketsAgree := by
  have mem (b : BerthId) (i t : Nat) : s.holds ⟨b, i⟩ t ↔ ∃ e ∈ (s.berth b).tags, e.index = i ∧ e.ticket = some t := by
    refine ⟨fun ⟨e, he, ht⟩ => ?_, fun ⟨e, he, hi, ht⟩ => ⟨e, (State.entryOf_iff hm ⟨b, i⟩ e).2 ⟨he, hi⟩, ht⟩⟩
    obtain ⟨hmem, hi⟩ := (State.entryOf_iff hm ⟨b, i⟩ e).1 he
    exact ⟨e, hmem, hi, ht⟩
  refine ⟨fun ⟨unique, range, whole, opened, held, strayed⟩ => ⟨unique, fun r hr => ?_, fun b e he t ht => ?_⟩,
    fun ⟨unique, records, entries⟩ => ⟨unique, fun r hr => ?_, fun r hr => ?_, fun r hr => ?_, fun t d => ?_, fun d e he hn => ?_⟩⟩
  · refine ⟨(range r hr).1, (range r hr).2, whole r hr, opened r hr, fun b hb i hi => ?_⟩
    obtain ⟨t, rb, ri⟩ := r
    obtain ⟨e, he, ht⟩ := (held t ⟨b, i⟩).1 (by rw [← show rb = some b from hb, ← show ri = some i from hi]; exact hr)
    obtain ⟨hmem, hidx⟩ := (State.entryOf_iff hm ⟨b, i⟩ e).1 he
    exact ⟨e, hmem, hidx, strayed _ e he (by simp [ht]), ht⟩
  · have entry := (State.entryOf_iff hm ⟨b, e.index⟩ e).2 ⟨he, rfl⟩
    exact ⟨strayed _ e entry (by rw [show e.ticket = some t from ht]; simp), (held t ⟨b, e.index⟩).2 ⟨e, entry, ht⟩⟩
  · obtain ⟨h1, h2, -⟩ := records r hr
    exact ⟨h1, h2⟩
  · obtain ⟨-, -, h3, -⟩ := records r hr
    exact h3
  · obtain ⟨-, -, -, h4, -⟩ := records r hr
    exact h4
  · refine ⟨fun hr => ?_, fun ht => ?_⟩
    · obtain ⟨-, -, -, -, h5⟩ := records _ hr
      obtain ⟨e, he, hi, -, ht⟩ := h5 d.berth rfl d.entry rfl
      exact ⟨e, (State.entryOf_iff hm d e).2 ⟨he, hi⟩, ht⟩
    · obtain ⟨e, he, ht⟩ := ht
      obtain ⟨hmem, hi⟩ := (State.entryOf_iff hm d e).1 he
      have := (entries d.berth e hmem t ht).2
      rwa [hi] at this
  · obtain ⟨t, ht⟩ := Option.ne_none_iff_exists'.1 hn
    exact (entries d.berth e ((State.entryOf_iff hm d e).1 he).1 t ht).1

end

theorem State.armAgrees_iff (s : State) : s.ArmAgrees noneHeld inReach ↔ s.armedAgrees := by
  have held (k : Nat) : ¬noneHeld k := fun h => h
  refine ⟨fun ⟨queued, ordered, armed, idle⟩ => ⟨fun j k hk => ?_, fun j => ?_, fun k j => armed k j (held k), idle⟩,
    fun ⟨queued, ordered, armed, idle⟩ => ⟨fun j k hk _ => ?_, fun j => ?_, fun k j _ => armed k j, idle⟩⟩
  · obtain ⟨hs, ha, ht, ho, hr⟩ := queued j k hk (held k)
    obtain ⟨d, hd⟩ := Option.ne_none_iff_exists'.1 ho
    rw [State.ahead, hd, Option.getD_some] at hr
    exact ⟨hs, ha, ht, d, hd, hr⟩
  · rw [List.pairwise_map]
    exact (ordered j).imp fun h => h (held _) (held _)
  · obtain ⟨hs, ha, ht, d, hd, hr⟩ := queued j k hk
    refine ⟨hs, ha, ht, by rw [show (s.lane j).offset = some d from hd]; simp, ?_⟩
    rw [State.ahead, show (s.lane j).offset = some d from hd, Option.getD_some]
    exact hr
  · have h := ordered j
    rw [List.pairwise_map] at h
    exact h.imp fun h _ _ => h

theorem State.pendAgrees_iff (s : State) : s.PendAgrees noneHeld ↔ s.pendingAgrees := by
  have held (k : Nat) : ¬noneHeld k := fun h => h
  exact ⟨fun ⟨h1, h2, h3, h4⟩ => ⟨h1, h2, fun r hr => h3 r hr (held _), fun k => h4 k (held k)⟩,
    fun ⟨h1, h2, h3, h4⟩ => ⟨h1, h2, fun r hr _ => h3 r hr, fun k _ => h4 k⟩⟩

theorem State.carriersAgree_iff (s : State) :
    s.carriersAgree ↔ (∀ k, (s.carrier k).fieldsAgree) ∧ (s.mode = .setup → ∀ k, (s.carrier k).state = .empty) := by
  unfold State.carriersAgree
  rw [State.forall_mem_table (P := fun c => c.fieldsAgree ∧ (s.mode = .setup → c.state = .empty))
    ⟨Carrier.fieldsAgree_empty, fun _ => rfl⟩]
  exact ⟨fun h => ⟨fun k => (h k).1, fun hs k => (h k).2 hs⟩, fun h k => ⟨h.1 k, fun hs => h.2 hs k⟩⟩

/-- A state in which every agreement holds, with no carrier in hand. -/
def State.Coherent (s : State) : Prop := s.Coheres noneHeld noneLost inReach

theorem State.coherent_of (s : State) (h : s.tablesAgree) : s.Coherent := by
  obtain ⟨counted, -, -, -, -, manifests, offsets, carriers, ids, pend, arm, tickets⟩ := h
  obtain ⟨fields, setup⟩ := s.carriersAgree_iff.1 carriers
  refine ⟨counted, offsets, (State.idsAgree_iff manifests fun d hd => State.opens_of_entry manifests hd).2 ids, (State.ticketsHeld_iff manifests).2 tickets,
    fun k _ => fields k, fun hs k _ => setup hs k, s.pendAgrees_iff.2 pend, s.armAgrees_iff.2 arm⟩

theorem State.Coherent.agrees {s : State} (h : s.Coherent) (hm : s.manifestsAgree) :
    (s.offsetsInRange ∧ s.carriersAgree ∧ s.identitiesAgree) ∧ (s.pendingAgrees ∧ s.armedAgrees) ∧ s.ticketsAgree := by
  refine ⟨⟨h.offsets, s.carriersAgree_iff.2 ⟨fun k => h.fields k id, fun hs k => h.setup hs k id⟩,
    (State.idsAgree_iff hm fun d hd => State.opens_of_entry hm hd).1 h.ids⟩, ⟨s.pendAgrees_iff.1 h.pend, s.armAgrees_iff.1 h.arm⟩,
    (State.ticketsHeld_iff hm).1 h.tickets⟩

end Sys2Proof.Machine

/-! SUPPORT. What keeps the agreement of the tables, update by update. -/

namespace Sys2Proof.Machine

/-! ## Parts that stay as they are -/

section
variable {s t : State} {K : Nat → Prop} {R : Nat → Nat → Prop} {L : Identity → Prop}

theorem State.IdsAgree.congr (h : s.IdsAgree L) (hi : ∀ k, (t.carrier k).identity = (s.carrier k).identity)
    (hr : ∀ d, ¬L d → (t.rides d ↔ s.rides d)) (ho : ∀ d, t.rides d → t.opens d.berth) : t.IdsAgree L where
  opened := ho
  named k d hl hd := (hr d hl).2 (h.named k d hl ((hi k).symm.trans hd))
  once k m d hk hm := h.once k m d ((hi k).symm.trans hk) ((hi m).symm.trans hm)
  carried d hl hd := by
    obtain ⟨k, hk⟩ := h.carried d hl ((hr d hl).1 hd)
    exact ⟨k, (hi k).trans hk⟩

theorem State.TicketsHeld.congr (h : s.TicketsHeld) (hc : t.coding.references = s.coding.references)
    (hh : ∀ d n, t.holds d n ↔ s.holds d n) (ho : ∀ b, s.opens b → t.opens b)
    (hs : ∀ d e, t.entryOf d = some e → e.ticket ≠ none → e.state = .strayed) : t.TicketsHeld where
  unique := hc ▸ h.unique
  range := hc ▸ h.range
  whole := hc ▸ h.whole
  opened := hc ▸ fun r hr b hb => ho b (h.opened r hr b hb)
  held n d := by rw [hc, hh]; exact h.held n d
  strayed := hs

theorem State.PendAgrees.congr (h : s.PendAgrees K) (hp : t.router.pendingTags = s.router.pendingTags)
    (hc : ∀ k, ¬K k → (t.carrier k).state = (s.carrier k).state ∧ (t.carrier k).candidate = (s.carrier k).candidate)
    (hb : ∀ r ∈ s.router.pendingTags, ¬K r.carrier → ∀ c, (s.berth r.berth).state = .bound c → (t.berth r.berth).state = .bound c) :
    t.PendAgrees K where
  carriers := hp ▸ h.carriers
  tags := hp ▸ h.tags
  waits := hp ▸ fun r hr hk => by
    obtain ⟨hw, x, hx, hs, hbound⟩ := h.waits r hr hk
    rw [(hc _ hk).1, (hc _ hk).2]
    exact ⟨hw, x, hx, hs, hb r hr hk _ hbound⟩
  listed k hk hw := hp ▸ h.listed k hk ((hc k hk).1.symm.trans hw)

theorem State.ArmAgrees.congr (h : s.ArmAgrees K R) (hq : ∀ j, (t.diverter j).queue = (s.diverter j).queue)
    (hl : t.loop = s.loop) (ho : ∀ j, (t.lane j).offset = (s.lane j).offset)
    (hc : ∀ k, ¬K k → ((t.carrier k).state = .carrying ↔ (s.carrier k).state = .carrying)
      ∧ (t.carrier k).armed = (s.carrier k).armed ∧ ((s.carrier k).armed = true → (t.carrier k).target = (s.carrier k).target))
    (hm : t.mode = .setup ∨ t.mode = .halted → (s.mode = .setup ∨ s.mode = .halted) ∨ ∀ j, (s.diverter j).queue = []) :
    t.ArmAgrees K R := by
  have ahead (j k) : t.ahead j k = s.ahead j k := by rw [State.ahead, hl, ho, State.ahead]
  refine ⟨fun j k hk hn => ?_, fun j => ?_, fun k j hn ha ht => ?_, fun hs j => ?_⟩
  · rw [hq] at hk
    obtain ⟨hs, ha, ht, hd, hr⟩ := h.queued j k hk hn
    obtain ⟨cs, ca, ct⟩ := hc k hn
    exact ⟨cs.2 hs, ca.trans ha, (ct ha).trans ht, ho j ▸ hd, by rw [hl, ahead]; exact hr⟩
  · rw [hq]
    simp only [ahead]
    exact h.ordered j
  · obtain ⟨-, ca, ct⟩ := hc k hn
    rw [hq]
    exact h.armed k j hn (ca.symm.trans ha) ((ct (ca.symm.trans ha)).symm.trans ht)
  · rw [hq]
    exact (hm hs).elim (fun hs => h.idle hs j) fun he => he j

end

/-- Two states that show the agreements the same tables. -/
structure State.Alike (s t : State) : Prop where
  loop : t.loop = s.loop
  carriers : t.carriers = s.carriers
  berths : t.berths = s.berths
  references : t.coding.references = s.coding.references
  pendingTags : t.router.pendingTags = s.router.pendingTags
  mode : t.mode = s.mode
  queue : ∀ j, (t.diverter j).queue = (s.diverter j).queue
  lane : ∀ j, (t.lane j).offset = (s.lane j).offset
  point : ∀ i, (t.point i).offset = (s.point i).offset
  station : ∀ n, (t.station n).offset = (s.station n).offset

theorem State.Alike.of_frame {s t : State} {ps : List Part} (h : s.changesOnly t ps)
    (hps : ∀ p ∈ ps, p ∈ [Part.links, .lastServed, .principals, .orders, .wires, .pending]) : s.Alike t := by
  have h := State.changesOnly_mono h hps
  exact {
    loop := h .loop (by simp)
    carriers := h .carriers (by simp)
    berths := h .berths (by simp)
    references := congrArg Coding.references (h .coding (by simp))
    pendingTags := congrArg Router.pendingTags (h .router (by simp))
    mode := h .mode (by simp)
    queue := fun j => by rw [State.diverter_eq_of_diverters (h .diverters (by simp))]
    lane := fun j => by rw [State.lane_eq_of_lanes (h .lanes (by simp))]
    point := fun i => by rw [State.point_eq_of_induction (h .induction (by simp))]
    station := fun n => by rw [State.station_eq_of_stations (h .stations (by simp))] }

theorem State.Alike.trans {s t u : State} (h : s.Alike t) (h' : t.Alike u) : s.Alike u where
  loop := h'.loop.trans h.loop
  carriers := h'.carriers.trans h.carriers
  berths := h'.berths.trans h.berths
  references := h'.references.trans h.references
  pendingTags := h'.pendingTags.trans h.pendingTags
  mode := h'.mode.trans h.mode
  queue j := (h'.queue j).trans (h.queue j)
  lane j := (h'.lane j).trans (h.lane j)
  point i := (h'.point i).trans (h.point i)
  station n := (h'.station n).trans (h.station n)

theorem State.Alike.refl (s : State) : s.Alike s :=
  ⟨rfl, rfl, rfl, rfl, rfl, rfl, fun _ => rfl, fun _ => rfl, fun _ => rfl, fun _ => rfl⟩

/-! Records whose station offsets, queues and references stay. -/

theorem State.Alike.setLane (s : State) (j : LaneNo) {x : Lane} (hx : x.offset = (s.lane j).offset) : s.Alike (s.setLane j x) :=
  { State.Alike.refl s with
    lane := fun i => by
      by_cases he : i = j
      · rw [he, State.lane_setLane, hx]
      · rw [State.lane_setLane_ne s x he] }

theorem State.Alike.setDiverter (s : State) (j : LaneNo) {x : Diverter} (hx : x.queue = (s.diverter j).queue) :
    s.Alike (s.setDiverter j x) :=
  { State.Alike.refl s with
    queue := fun i => by
      by_cases he : i = j
      · rw [he, State.diverter_setDiverter, hx]
      · rw [State.diverter_setDiverter_ne s x he] }

theorem State.Alike.setStation (s : State) (n : StationNo) {x : Station} (hx : x.offset = (s.station n).offset) :
    s.Alike (s.setStation n x) :=
  { State.Alike.refl s with
    station := fun i => by
      by_cases he : i = n
      · rw [he, State.station_setStation, hx]
      · rw [State.station_setStation_ne s x he] }

theorem State.Alike.setPoint (s : State) (i : PointNo) {x : Point} (hx : x.offset = (s.point i).offset) :
    s.Alike (s.setPoint i x) :=
  { State.Alike.refl s with
    point := fun q => by
      by_cases he : q = i
      · rw [he, State.point_setPoint, hx]
      · rw [State.point_setPoint_ne s x he] }

theorem State.Alike.setCoding (s : State) {x : Coding} (hx : x.references = s.coding.references) : s.Alike (s.setCoding x) :=
  { State.Alike.refl s with references := hx }

theorem State.Alike.setRouter (s : State) {x : Router} (hx : x.pendingTags = s.router.pendingTags) : s.Alike (s.setRouter x) :=
  { State.Alike.refl s with pendingTags := hx }

theorem State.Alike.forEach {α : Type} (f : State → α → State) (xs : List α) (s : State) (h : ∀ (u : State), ∀ a ∈ xs, u.Alike (f u a)) :
    s.Alike (Machine.forEach xs f s) := by
  induction xs generalizing s with
  | nil => exact .refl s
  | cons a xs ih =>
    exact (h s a (.head _)).trans (ih (f s a) fun u b hb => h u b (.tail _ hb))

section
variable {s t : State} {K K' : Nat → Prop} {R : Nat → Nat → Prop} {L : Identity → Prop}

theorem State.offsetsInRange_congr (h : s.offsetsInRange) (hl : t.loop.count = s.loop.count)
    (hi : ∀ i, (t.point i).offset = (s.point i).offset) (hn : ∀ n, (t.station n).offset = (s.station n).offset)
    (hj : ∀ j, (t.lane j).offset = (s.lane j).offset) : t.offsetsInRange := by
  unfold State.offsetsInRange at h ⊢
  simpa only [hl, hi, hn, hj] using h

theorem State.Coheres.of_alike (h : s.Coheres K L R) (ht : s.Alike t) : t.Coheres K L R := by
  have carrier := State.carrier_eq_of_carriers ht.carriers
  have entry := State.entryOf_congr ht.berths
  have rides (d) : t.rides d ↔ s.rides d := by simp only [State.rides, entry]
  have holds (d n) : t.holds d n ↔ s.holds d n := by simp only [State.holds, entry]
  have berth := State.berth_eq_of_berths ht.berths
  refine ⟨?_, State.offsetsInRange_congr h.offsets (by rw [ht.loop]) ht.point ht.station ht.lane,
    h.ids.congr (fun k => by rw [carrier]) (fun d _ => rides d) fun d hd => ?_,
    h.tickets.congr ht.references holds (fun b ho => ?_) (by simpa only [entry] using h.tickets.strayed),
    fun k hk => carrier k ▸ h.fields k hk, fun hm k hk => carrier k ▸ h.setup (ht.mode ▸ hm) k hk,
    h.pend.congr ht.pendingTags (fun k _ => by simp only [carrier, and_self]) fun r _ _ c hc => by rw [berth]; exact hc,
    h.arm.congr ht.queue ht.loop ht.lane (fun k _ => by simp only [carrier, implies_true, and_self]) fun hm => .inl (ht.mode ▸ hm)⟩
  · rw [State.counted, ht.carriers, ht.loop]
    exact h.counted
  · rw [State.opens, berth]
    exact h.ids.opened d ((rides d).1 hd)
  · rw [State.opens, berth]
    exact ho

theorem State.Coheres.of_frame (h : s.Coheres K L R) {ps : List Part} (ht : s.changesOnly t ps)
    (hps : ∀ p ∈ ps, p ∈ [Part.links, .lastServed, .principals, .orders, .wires, .pending]) : t.Coheres K L R :=
  h.of_alike (.of_frame ht hps)

/-! ## Carriers taken in hand and released -/

theorem State.Coheres.mono (h : s.Coheres K L R) (hK : ∀ k, K k → K' k) : s.Coheres K' L R where
  counted := h.counted
  offsets := h.offsets
  ids := h.ids
  tickets := h.tickets
  fields k hk := h.fields k (mt (hK k) hk)
  setup hm k hk := h.setup hm k (mt (hK k) hk)
  pend := ⟨h.pend.carriers, h.pend.tags, fun r hr hk => h.pend.waits r hr (mt (hK _) hk), fun k hk => h.pend.listed k (mt (hK k) hk)⟩
  arm := ⟨fun j k hk hn => h.arm.queued j k hk (mt (hK k) hn),
    fun j => (h.arm.ordered j).imp fun hr ha hb => hr (mt (hK _) ha) (mt (hK _) hb),
    fun k j hk => h.arm.armed k j (mt (hK k) hk), h.arm.idle⟩

/-- No pending record and no armed queue names the carrier. -/
def State.unnamed (s : State) (k : Nat) : Prop :=
  (∀ r ∈ s.router.pendingTags, r.carrier ≠ k) ∧ ∀ j, k ∉ (s.diverter j).queue

/-- A carrier whose record agrees by itself: neither WAITING nor armed. -/
structure State.Settled (s : State) (k : Nat) : Prop where
  fields : (s.carrier k).fieldsAgree
  setup : s.mode = .setup → (s.carrier k).state = .empty
  waiting : (s.carrier k).state ≠ .waiting
  armed : (s.carrier k).armed = false
  unnamed : s.unnamed k

theorem State.Coheres.release (h : s.Coheres K' L R) (hk : ∀ k, K' k → ¬K k → s.Settled k) : s.Coheres K L R := by
  have out (k) (hn : ¬K k) (hu : ¬s.Settled k) : ¬K' k := fun hK => hu (hk k hK hn)
  refine ⟨h.counted, h.offsets, h.ids, h.tickets, fun k hn => ?_, fun hm k hn => ?_,
    ⟨h.pend.carriers, h.pend.tags, fun r hr hn => h.pend.waits r hr (out _ hn fun hs => hs.unnamed.1 r hr rfl),
      fun k hn hw => h.pend.listed k (out k hn fun hs => hs.waiting hw) hw⟩,
    ⟨fun j k hq hn => h.arm.queued j k hq (out k hn fun hs => hs.unnamed.2 j hq), fun j => ?_,
      fun k j hn ha => h.arm.armed k j (out k hn fun hs => by rw [hs.armed] at ha; cases ha) ha, h.arm.idle⟩⟩
  · by_cases hK : K' k
    · exact (hk k hK hn).fields
    · exact h.fields k hK
  · by_cases hK : K' k
    · exact (hk k hK hn).setup hm
    · exact h.setup hm k hK
  · refine (List.Pairwise.and_mem.1 (h.arm.ordered j)).imp fun ⟨ha, hb, hr⟩ hna hnb => ?_
    exact hr (out _ hna fun hs => hs.unnamed.2 j ha) (out _ hnb fun hs => hs.unnamed.2 j hb)

/-- The carriers of `K` and carrier `k` are in hand. -/
def alsoHeld (K : Nat → Prop) (k : Nat) : Nat → Prop := fun m => K m ∨ m = k

theorem State.Coheres.take (h : s.Coheres K L R) (k : Nat) : s.Coheres (alsoHeld K k) L R := h.mono fun _ => .inl

theorem State.Coheres.putBack {k : Nat} (h : s.Coheres (alsoHeld K k) L R) (hk : s.Settled k) : s.Coheres K L R :=
  h.release fun m hm hn => by
    obtain rfl := hm.resolve_left hn
    exact hk

/-- A carrier not in hand, neither WAITING nor armed, is named by no record and no queue. -/
theorem State.Coheres.unnamed (h : s.Coheres K L R) {k : Nat} (hk : ¬K k) (hw : (s.carrier k).state ≠ .waiting)
    (ha : (s.carrier k).armed = false) : s.unnamed k := by
  refine ⟨fun r hr he => hw ?_, fun j hj => ?_⟩
  · rw [← he]
    exact (h.pend.waits r hr (he ▸ hk)).1
  · have := (h.arm.queued j k hj hk).2.1
    rw [ha] at this
    cases this

/-! ## One carrier's record -/

theorem State.identity_setCarrier {k : Nat} {c : Carrier} (hid : c.identity = (s.carrier k).identity) (m : Nat) :
    ((s.setCarrier k c).carrier m).identity = (s.carrier m).identity := by
  rw [State.carrier_setCarrier]
  split
  · next h => rw [hid, h.1]
  · rfl

/-- A record stored for a carrier in hand, its identity kept. -/
theorem State.Coheres.setCarrier_held (h : s.Coheres K L R) {k : Nat} (hk : K k) {c : Carrier}
    (hid : c.identity = (s.carrier k).identity) : (s.setCarrier k c).Coheres K L R := by
  have other (m) (hm : ¬K m) : (s.setCarrier k c).carrier m = s.carrier m :=
    s.carrier_setCarrier_ne c fun he => hm (he ▸ hk)
  exact ⟨s.counted_setCarrier k c h.counted, h.offsets, h.ids.congr (State.identity_setCarrier hid) (fun _ _ => Iff.rfl) h.ids.opened,
    h.tickets.congr rfl (fun _ _ => Iff.rfl) (fun _ => id) h.tickets.strayed, fun m hm => other m hm ▸ h.fields m hm,
    fun hs m hm => other m hm ▸ h.setup hs m hm,
    h.pend.congr rfl (fun m hm => by simp only [other m hm, and_self]) fun _ _ _ _ => id,
    h.arm.congr (fun _ => rfl) rfl (fun _ => rfl) (fun m hm => by simp only [other m hm, implies_true, and_self]) .inl⟩

/-- A record that shows pending records and queues the same bag, in the same state. -/
structure Carrier.Follows (c x : Carrier) : Prop where
  state : x.state = c.state
  identity : x.identity = c.identity
  candidate : x.candidate = c.candidate
  armed : x.armed = c.armed
  target : c.armed = true → x.target = c.target
  fields : c.fieldsAgree → x.fieldsAgree

theorem Carrier.Follows.refl (c : Carrier) : c.Follows c := ⟨rfl, rfl, rfl, rfl, fun _ => rfl, id⟩

/-- A carrier table in which every record follows the one before. -/
theorem State.Coheres.setCarriers (h : s.Coheres K L R) {x : CarrierTable} (hc : (s.setCarriers x).counted)
    (hid : ∀ k, ((s.setCarriers x).carrier k).identity = (s.carrier k).identity)
    (hf : ∀ k, ¬K k → (s.carrier k).Follows ((s.setCarriers x).carrier k)) : (s.setCarriers x).Coheres K L R :=
  ⟨hc, h.offsets, h.ids.congr hid (fun _ _ => Iff.rfl) h.ids.opened,
    h.tickets.congr rfl (fun _ _ => Iff.rfl) (fun _ => id) h.tickets.strayed, fun k hk => (hf k hk).fields (h.fields k hk),
    fun hs k hk => (hf k hk).state.trans (h.setup hs k hk),
    h.pend.congr rfl (fun k hk => ⟨(hf k hk).state, (hf k hk).candidate⟩) fun _ _ _ _ => id,
    h.arm.congr (fun _ => rfl) rfl (fun _ => rfl) (fun k hk => ⟨by rw [(hf k hk).state], (hf k hk).armed, (hf k hk).target⟩) .inl⟩

theorem State.Coheres.setCarrier (h : s.Coheres K L R) {k : Nat} {c : Carrier} (hid : c.identity = (s.carrier k).identity)
    (hf : ¬K k → (s.carrier k).Follows c) : (s.setCarrier k c).Coheres K L R := by
  refine h.setCarriers (s.counted_setCarrier k c h.counted) (State.identity_setCarrier hid) fun m hm => ?_
  rw [show s.setCarriers (s.carriers.store k c) = s.setCarrier k c from rfl, State.carrier_setCarrier]
  split
  next he =>
    rw [he.1]
    exact hf (he.1 ▸ hm)
  next => exact .refl _

end

end Sys2Proof.Machine

/-! SUPPORT. Choices, re-choices and dispositions keep the agreement of the tables (R85, R91, R95, R96). -/

namespace Sys2Proof.Machine

section
variable {s t : State} {K K' : Nat → Prop} {R : Nat → Nat → Prop} {L : Identity → Prop}

/-! ## Choices -/

theorem Carrier.follows_retarget {c : Carrier} (hs : c.state = .carrying) (ha : c.armed = false) (x : Option LaneNo) :
    c.Follows { c with target := x, armed := false } where
  state := rfl
  identity := rfl
  candidate := rfl
  armed := ha.symm
  target h := by rw [ha] at h; cases h
  fields h := by
    obtain ⟨-, hload, -, -, hcarry, -, -⟩ := h
    simp [Carrier.fieldsAgree, hs] at hload hcarry ⊢
    exact ⟨hload, hcarry⟩

theorem Carrier.armed_of_isUntargeted {c : Carrier} (hf : c.fieldsAgree) (hc : c.isUntargeted = true) : c.armed = false := by
  obtain ⟨-, -, -, -, -, -, harm⟩ := hf
  rw [Carrier.isUntargeted, Bool.and_eq_true, beq_iff_eq, beq_iff_eq] at hc
  cases ha : c.armed with
  | false => rfl
  | true => exact absurd hc.2 (harm ha).2

theorem Carrier.isReachable_iff (c : Carrier) : c.isReachable = true ↔ c.state = .carrying ∧ c.armed = false := by
  simp [Carrier.isReachable]

theorem State.Coheres.setLane (h : s.Coheres K L R) (j : LaneNo) {x : Lane} (hx : x.offset = (s.lane j).offset) :
    (s.setLane j x).Coheres K L R := h.of_alike (.setLane s j hx)

theorem State.Coheres.setDiverter (h : s.Coheres K L R) (j : LaneNo) {x : Diverter} (hx : x.queue = (s.diverter j).queue) :
    (s.setDiverter j x).Coheres K L R := h.of_alike (.setDiverter s j hx)

theorem State.Coheres.raiseInbound (h : s.Coheres K L R) (j : LaneNo) (n : Nat) : (s.raiseInbound j n).Coheres K L R :=
  h.setLane j rfl

theorem State.Coheres.lowerInbound (h : s.Coheres K L R) (j : LaneNo) (n : Nat) : (s.lowerInbound j n).Coheres K L R :=
  h.setLane j rfl

theorem State.Coheres.chooseTarget (h : s.Coheres K L R) (k : Nat) : (s.chooseTarget k).Coheres K L R := by
  unfold State.chooseTarget
  split
  · next hc =>
    rw [Bool.and_eq_true] at hc
    have hcarry : (s.carrier k).state = .carrying := by
      have := hc.2
      rw [Carrier.isUntargeted, Bool.and_eq_true, beq_iff_eq] at this
      exact this.1
    split
    · exact h
    · next j _ =>
      refine State.Coheres.raiseInbound (h.setCarrier (by rfl) fun hk => ?_) j _
      exact Carrier.follows_retarget hcarry (Carrier.armed_of_isUntargeted (h.fields k hk) hc.2) _
  · exact h

theorem State.Coheres.forEach {α : Type} {f : State → α → State} {xs : List α}
    (hf : ∀ (u : State), ∀ a ∈ xs, u.Coheres K L R → (f u a).Coheres K L R) (h : s.Coheres K L R) :
    (Machine.forEach xs f s).Coheres K L R := by
  induction xs generalizing s with
  | nil => exact h
  | cons a xs ih => exact ih (fun u b hb => hf u b (.tail _ hb)) (hf s a (.head _) h)

theorem State.Coheres.chooseAll (h : s.Coheres K L R) (ks : List Nat) : (s.chooseAll ks).Coheres K L R :=
  h.forEach fun _ k _ hu => hu.chooseTarget k

/-! ## Dropped targets -/

/-- A target dropped by a carrier in hand, or by one that no queue names. -/
theorem State.Coheres.dropTarget (h : s.Coheres K L R) {k : Nat}
    (hk : ¬K k → (s.carrier k).target ≠ none → (s.carrier k).isReachable = true) : (s.dropTarget k).Coheres K L R := by
  unfold State.dropTarget
  split
  · exact h
  · next j hj =>
    refine State.Coheres.lowerInbound (h.setCarrier (by rfl) fun hn => ?_) j _
    obtain ⟨hs, ha⟩ := (Carrier.isReachable_iff _).1 (hk hn (by simp [hj]))
    exact Carrier.follows_retarget hs ha _

theorem State.Coheres.rechoose (h : s.Coheres K L R) (k : Nat) : (s.rechoose k).Coheres K L R := by
  unfold State.rechoose
  split
  · next hc =>
    rw [Bool.and_eq_true] at hc
    exact (h.dropTarget fun _ _ => hc.1).chooseTarget k
  · exact h

theorem State.Coheres.dropTargets {ks : List Nat} (h : s.Coheres K L R)
    (hk : ∀ k ∈ ks, ¬K k → (s.carrier k).target ≠ none → (s.carrier k).isReachable = true) : (s.dropTargets ks).Coheres K L R := by
  induction ks generalizing s with
  | nil => exact h
  | cons k ks ih =>
    refine ih (h.dropTarget (hk k (.head _))) fun m hm hn ht => ?_
    by_cases he : m = k
    · subst he
      exact absurd ((s.carrier_dropTargets [m] m).1 (List.mem_singleton_self m)) ht
    · have same : (s.dropTarget k).carrier m = s.carrier m := (s.carrier_dropTargets [k] m).2 (.inl (by simpa using he))
      rw [same] at ht ⊢
      exact hk m (.tail _ hm) hn ht

theorem State.isReachable_of_tentative {j : LaneNo} {k : Nat} (h : k ∈ s.tentativeAt j) : (s.carrier k).isReachable = true := by
  obtain ⟨hs, -, ha⟩ := (Carrier.isTentativeAt_iff _ j).1 ((s.mem_tentativeAt j k).1 h).2
  exact (Carrier.isReachable_iff _).2 ⟨hs, ha⟩

theorem State.Coheres.rechooseLane (h : s.Coheres K L R) (j : LaneNo) : (s.rechooseLane j).Coheres K L R :=
  (h.dropTargets fun _ hk _ _ => State.isReachable_of_tentative hk).chooseAll _

theorem State.Coheres.rechooseAll (h : s.Coheres K L R) (ks : List Nat) : (s.rechooseAll ks).Coheres K L R :=
  h.forEach fun _ k _ hu => hu.rechoose k

/-! ## Dispositions -/

/-- The record of a loaded carrier holds its bag's size and origin and no reservation (R9). -/
def Carrier.bagged (c : Carrier) : Prop := c.size ≠ none ∧ c.origin ≠ none ∧ c.reservation = none

theorem Carrier.fieldsAgree_carrying {c : Carrier} (hs : c.state = .carrying) (hb : c.bagged) (hd : c.disposition ≠ none)
    (hi : c.identity ≠ none ↔ c.disposition = some .delivery ∨ c.disposition = some .hold) (ha : c.armed = true → c.target ≠ none) :
    c.fieldsAgree := by
  refine ⟨fun h => ?_, fun _ => hb, fun h => ?_, fun h => ?_, fun _ => ⟨hd, hi⟩, fun h => ?_, fun h => ⟨hs, ha h⟩⟩
  all_goals simp [hs] at h

theorem State.Coheres.bagged (h : s.Coheres K L R) {k : Nat} (hk : ¬K k) (hs : (s.carrier k).state ≠ .empty) :
    (s.carrier k).bagged := by
  obtain ⟨-, hload, -⟩ := h.fields k hk
  exact hload hs

theorem State.Coheres.mode (h : s.Coheres K L R) {k : Nat} (hk : ¬K k) (hs : (s.carrier k).state ≠ .empty) : s.mode ≠ .setup :=
  fun hm => hs (h.setup hm k hk)

theorem State.Coheres.unarmed (h : s.Coheres K L R) {k : Nat} (hk : ¬K k) (hs : (s.carrier k).state ≠ .carrying) :
    (s.carrier k).armed = false := by
  obtain ⟨-, -, -, -, -, -, harm⟩ := h.fields k hk
  cases ha : (s.carrier k).armed with
  | false => rfl
  | true => exact absurd (harm ha).1 hs

theorem State.unnamed_congr {k : Nat} (h : s.unnamed k) (hr : t.router = s.router) (hd : t.diverters = s.diverters) : t.unnamed k :=
  ⟨hr ▸ h.1, fun j => by rw [State.diverter_eq_of_diverters hd]; exact h.2 j⟩

theorem Carrier.lt_of_bagged {k : Nat} (h : (s.carrier k).bagged) : k < s.carriers.table.length :=
  s.lt_of_carrier_ne fun he => h.1 (by rw [he]; rfl)

/-- A carrier that a disposition can be given to: loaded, not armed without a target, named by no record and no queue. -/
structure State.Ready (s : State) (k : Nat) : Prop where
  mode : s.mode ≠ .setup
  bagged : (s.carrier k).bagged
  unarmed : (s.carrier k).target = none → (s.carrier k).armed = false
  unnamed : s.unnamed k

theorem State.Ready.congr {k : Nat} (h : s.Ready k) {ps : List Part} (hf : s.changesOnly t ps)
    (hps : ∀ p ∈ ps, p ∉ [Part.mode, .router, .diverters]) (hb : (s.carrier k).bagged → (t.carrier k).bagged)
    (ht : (t.carrier k).target = (s.carrier k).target) (ha : (t.carrier k).armed = (s.carrier k).armed) : t.Ready k := by
  have same (p) (hp : p ∈ [Part.mode, .router, .diverters]) : p.same s t := hf p fun hx => hps p hx hp
  have hm : t.mode = s.mode := same .mode (by simp)
  exact ⟨hm ▸ h.mode, hb h.bagged, by rw [ht, ha]; exact h.unarmed,
    State.unnamed_congr h.unnamed (same .router (by simp)) (same .diverters (by simp))⟩

theorem State.Coheres.ready (h : s.Coheres K L R) {k : Nat} (hk : ¬K k) (he : (s.carrier k).state ≠ .empty)
    (hw : (s.carrier k).state ≠ .waiting) (ha : (s.carrier k).armed = false) : s.Ready k :=
  ⟨h.mode hk he, h.bagged hk he, fun _ => ha, h.unnamed hk hw ha⟩

/-- A carrier in hand enters a disposition that fits its identity. -/
theorem State.Coheres.enterDisposition {k : Nat} {d : Disposition} (h : s.Coheres (alsoHeld K k) L R) (hk : s.Ready k)
    (hi : (s.carrier k).identity ≠ none ↔ d = .delivery ∨ d = .hold) : (s.enterDisposition k d).Coheres K L R := by
  have hlt := Carrier.lt_of_bagged hk.bagged
  obtain ⟨frame, len, whole, -, -⟩ := s.dropTarget_spec hlt
  have dropped : (s.dropTarget k).Coheres (alsoHeld K k) L R := h.dropTarget fun hn => absurd (.inr rfl) hn
  have unarmed : ((s.dropTarget k).carrier k).armed = false := by
    rw [whole]
    show (if (s.carrier k).target = none then (s.carrier k).armed else false) = false
    split
    next ht => exact hk.unarmed ht
    next => rfl
  have stored : (s.enterDisposition k d).carrier k
      = { (s.dropTarget k).carrier k with state := .carrying, disposition := some d, laps := 0 } :=
    (s.dropTarget k).carrier_setCarrier_same _ (len.symm ▸ hlt)
  refine (dropped.setCarrier_held (k := k) (.inr rfl) (by rfl)).putBack (k := k) ⟨?_, fun hs => ?_, ?_, ?_, ?_⟩
  · show ((s.enterDisposition k d).carrier k).fieldsAgree
    rw [stored]
    refine Carrier.fieldsAgree_carrying rfl ?_ (by simp) ?_ fun harm => ?_
    · rw [whole]
      exact hk.bagged
    · rw [whole]
      simpa using hi
    · exact absurd (unarmed.symm.trans harm) (by simp)
  · exact absurd ((frame .mode (by simp)).symm.trans hs) hk.mode
  · show ((s.enterDisposition k d).carrier k).state ≠ .waiting
    rw [stored]
    simp
  · show ((s.enterDisposition k d).carrier k).armed = false
    rw [stored]
    exact unarmed
  · exact State.unnamed_congr hk.unnamed (frame .router (by simp)) (frame .diverters (by simp))

/-- Dispositions given to several carriers in hand, each with its choice. -/
theorem State.Coheres.giveAll {ks : List Nat} {d : Disposition} (hn : ks.Nodup) (h : s.Coheres (fun m => K m ∨ m ∈ ks) L R)
    (hk : ∀ k ∈ ks, s.Ready k ∧ ((s.carrier k).identity ≠ none ↔ d = .delivery ∨ d = .hold)) : (s.giveAll ks d).Coheres K L R := by
  induction ks generalizing s with
  | nil => exact h.mono fun m hm => hm.resolve_right (by simp)
  | cons k ks ih =>
    obtain ⟨hnew, hn⟩ := List.nodup_cons.1 hn
    obtain ⟨ready, hi⟩ := hk k (.head _)
    have held : s.Coheres (alsoHeld (fun m => K m ∨ m ∈ ks) k) L R := h.mono fun m hm =>
      hm.elim (fun hm => .inl (.inl hm)) fun hm => (List.mem_cons.1 hm).elim .inr fun hm => .inl (.inr hm)
    have given := (held.enterDisposition ready hi).chooseTarget k
    obtain ⟨frame, -, -, others, -⟩ := s.disposes_giveDisposition d (Carrier.lt_of_bagged ready.bagged)
    refine ih hn given fun m hm => ?_
    have same : (s.giveDisposition k d).carrier m = s.carrier m := others m (by
      rw [List.mem_singleton]
      rintro rfl
      exact hnew hm)
    obtain ⟨ready, hi⟩ := hk m (.tail _ hm)
    show (s.giveDisposition k d).Ready m ∧ (((s.giveDisposition k d).carrier m).identity ≠ none ↔ _)
    rw [same]
    exact ⟨ready.congr frame (by simp) (by rw [same]; exact id) (by rw [same]) (by rw [same]), hi⟩

end

end Sys2Proof.Machine

/-! SUPPORT. Changes of manifests, and identities taken and given, keep the agreement of the tables (R10, R54 to R74). -/

namespace Sys2Proof.Machine

section
variable {s t : State} {K K' : Nat → Prop} {R : Nat → Nat → Prop} {L L' : Identity → Prop}

/-! ## Manifests changed -/

/-- Parts that the manifests, the lists of the Stray Controller and what tells of them hold. -/
def manifestParts : List Part := [.berths, .coding, .links, .lastServed, .principals, .orders, .wires, .pending]

/-- A change of the manifests and of the Stray Controller's lists, with the agreements that see them made anew. -/
theorem State.Coheres.remade (h : s.Coheres K L R) {ps : List Part} (ht : s.changesOnly t ps) (hps : ∀ p ∈ ps, p ∈ manifestParts)
    (ids : t.IdsAgree L') (tickets : t.TicketsHeld)
    (hb : ∀ r ∈ s.router.pendingTags, ¬K r.carrier → ∀ c, (s.berth r.berth).state = .bound c → (t.berth r.berth).state = .bound c) :
    t.Coheres K L' R := by
  have ht := State.changesOnly_mono ht hps
  have hl : t.loop = s.loop := ht .loop (by simp [manifestParts])
  have hc : t.carriers = s.carriers := ht .carriers (by simp [manifestParts])
  have hm : t.mode = s.mode := ht .mode (by simp [manifestParts])
  have hr : t.router = s.router := ht .router (by simp [manifestParts])
  have carrier := State.carrier_eq_of_carriers hc
  have lane := State.lane_eq_of_lanes (ht .lanes (by simp [manifestParts]))
  have diverter := State.diverter_eq_of_diverters (ht .diverters (by simp [manifestParts]))
  have point := State.point_eq_of_induction (ht .induction (by simp [manifestParts]))
  have station := State.station_eq_of_stations (ht .stations (by simp [manifestParts]))
  refine ⟨?_, State.offsetsInRange_congr h.offsets (by rw [hl]) (fun i => by rw [point]) (fun n => by rw [station]) (fun j => by rw [lane]),
    ids, tickets, fun k hk => carrier k ▸ h.fields k hk, fun hs k hk => carrier k ▸ h.setup (hm ▸ hs) k hk,
    h.pend.congr (by rw [hr]) (fun k _ => by simp only [carrier, and_self]) hb,
    h.arm.congr (fun j => by rw [diverter]) hl (fun j => by rw [lane])
      (fun k _ => by simp only [carrier, implies_true, and_self]) fun hs => .inl (hm ▸ hs)⟩
  rw [State.counted, hc, hl]
  exact h.counted

/-- The entries that are ON_LOOP and the berths that are open stay so. -/
theorem State.Coheres.retold (h : s.Coheres K L R) {ps : List Part} (ht : s.changesOnly t ps) (hps : ∀ p ∈ ps, p ∈ manifestParts)
    (hr : ∀ d, ¬L d → (t.rides d ↔ s.rides d)) (ho : ∀ d, t.rides d → t.opens d.berth) (tickets : t.TicketsHeld)
    (hb : ∀ r ∈ s.router.pendingTags, ¬K r.carrier → ∀ c, (s.berth r.berth).state = .bound c → (t.berth r.berth).state = .bound c) :
    t.Coheres K L R := by
  have carrier := State.carrier_eq_of_carriers (State.changesOnly_mono ht hps .carriers (by simp [manifestParts]))
  exact h.remade ht hps (h.ids.congr (fun k => by rw [carrier]) hr ho) tickets hb

/-! ## An entry's state -/

theorem State.entryOf_setEntryState (s : State) (o : Identity) (st : EntryState) (n : Option Nat) (d : Identity) :
    (s.setEntryState o.berth o.entry st n).entryOf d
      = if d = o then (s.entryOf d).map fun e => { e with state := st, ticket := n } else s.entryOf d := by
  obtain ⟨b, i⟩ := o
  obtain ⟨b', m⟩ := d
  rw [State.setEntryState, State.entryOf_setBerth, Berth.findEntry_setEntryState]
  by_cases hb : b' = b
  · subst hb
    by_cases hm : m = i
    · subst hm
      simp [State.entryOf]
    · simp [State.entryOf, hm]
  · simp [hb]

theorem State.setEntryState_state (s : State) (o : Identity) (st : EntryState) (n : Option Nat) (b : BerthId) :
    ((s.setEntryState o.berth o.entry st n).berth b).state = (s.berth b).state := by
  unfold State.setEntryState
  by_cases hb : b = o.berth
  · rw [hb, State.berth_setBerth]
    unfold Berth.setEntryState
    split <;> rfl
  · rw [State.berth_setBerth_ne s _ hb]

theorem State.opens_setEntryState (s : State) (o : Identity) (st : EntryState) (n : Option Nat) (b : BerthId) :
    (s.setEntryState o.berth o.entry st n).opens b ↔ s.opens b := by
  rw [State.opens, s.setEntryState_state, State.opens]

/-- An entry without a ticket passes to another state without one; it is ON_LOOP before or after only if left out. -/
theorem State.Coheres.setEntryState (h : s.Coheres K L R) {o : Identity} {st : EntryState}
    (he : ∀ e, s.entryOf o = some e → e.ticket = none) (hl : ¬L o → st ≠ .onLoop ∧ ¬s.rides o)
    (ho : st = .onLoop → s.opens o.berth) : (s.setEntryState o.berth o.entry st none).Coheres K L R := by
  have entry := s.entryOf_setEntryState o st none
  have opens := s.opens_setEntryState o st none
  have other (d) (hd : d ≠ o) : (s.setEntryState o.berth o.entry st none).entryOf d = s.entryOf d := by rw [entry, if_neg hd]
  have own : (s.setEntryState o.berth o.entry st none).entryOf o = (s.entryOf o).map fun e => { e with state := st, ticket := none } := by
    rw [entry, if_pos rfl]
  have rides : (s.setEntryState o.berth o.entry st none).rides o → st = .onLoop := by
    rintro ⟨e, hx, hs⟩
    rw [own, Option.map_eq_some_iff] at hx
    obtain ⟨x, -, rfl⟩ := hx
    exact hs
  refine h.retold (State.changesOnly_setBerth _ _ _) (by simp [manifestParts]) (fun d hd => ?_) (fun d hd => ?_)
    (h.tickets.congr (by rw [State.setEntryState, State.setBerth_coding]) (fun d n => ?_) (fun b hb => (opens b).2 hb) fun d e hd hn => ?_) fun r _ _ c hc => ?_
  · by_cases he : d = o
    · subst he
      obtain ⟨hst, hn⟩ := hl hd
      exact ⟨fun hx => absurd (rides hx) hst, fun hx => absurd hx hn⟩
    · rw [State.rides, State.rides, other d he]
  · rw [opens]
    by_cases he : d = o
    · subst he
      exact ho (rides hd)
    · rw [State.rides, other d he] at hd
      exact h.ids.opened d hd
  · by_cases hd : d = o
    · subst hd
      constructor
      · rintro ⟨e, hx, hn⟩
        rw [own, Option.map_eq_some_iff] at hx
        obtain ⟨x, -, rfl⟩ := hx
        cases hn
      · rintro ⟨e, hx, hn⟩
        rw [he e hx] at hn
        cases hn
    · rw [State.holds, State.holds, other d hd]
  · by_cases he : d = o
    · subst he
      rw [own, Option.map_eq_some_iff] at hd
      obtain ⟨x, -, rfl⟩ := hd
      exact absurd rfl hn
    · rw [other d he] at hd
      exact h.tickets.strayed d e hd hn
  · exact (s.setEntryState_state o st none _).trans hc

/-! ## Identities given and taken -/

/-- The identities of `L` and identity `d` are left out. -/
def alsoLost (L : Identity → Prop) (d : Identity) : Identity → Prop := fun x => L x ∨ x = d

theorem State.Coheres.lose (h : s.Coheres K L R) (d : Identity) : s.Coheres K (alsoLost L d) R :=
  { h with ids := ⟨h.ids.opened, fun k x hx => h.ids.named k x (mt .inl hx), h.ids.once, fun x hx => h.ids.carried x (mt .inl hx)⟩ }

/-- No entry of identity `d` is ON_LOOP and no carrier holds it. -/
theorem State.Coheres.found {d : Identity} (h : s.Coheres K (alsoLost L d) R) (hr : ¬s.rides d)
    (hk : ∀ k, (s.carrier k).identity ≠ some d) : s.Coheres K L R := by
  have out (x) (hl : ¬L x) (hx : x ≠ d) : ¬alsoLost L d x := fun ho => ho.elim hl hx
  refine { h with ids := ⟨h.ids.opened, fun k x hl hx => h.ids.named k x (out x hl fun he => ?_) hx, h.ids.once,
    fun x hl hx => h.ids.carried x (out x hl fun he => hr (he ▸ hx)) hx⟩ }
  rw [he] at hx
  exact hk k hx

theorem State.identity_setCarrier_none {k : Nat} {c : Carrier} (hc : c.identity = none) (m : Nat) (d : Identity) :
    ((s.setCarrier k c).carrier m).identity = some d → m ≠ k ∧ (s.carrier m).identity = some d := by
  rw [State.carrier_setCarrier]
  split
  next he =>
    intro h
    rw [hc] at h
    cases h
  next he =>
    intro h
    refine ⟨fun hm => ?_, h⟩
    subst hm
    have : m < s.carriers.table.length := s.lt_of_carrier_ne fun hx => by rw [hx] at h; cases h
    exact he ⟨rfl, this⟩

/-- A carrier in hand loses its identity, which is left out. -/
theorem State.Coheres.dropName (h : s.Coheres K L R) {k : Nat} (hk : K k) {c : Carrier} (hc : c.identity = none)
    (hd : ∀ d, (s.carrier k).identity = some d → L d) : (s.setCarrier k c).Coheres K L R := by
  have other (m) (hm : ¬K m) : (s.setCarrier k c).carrier m = s.carrier m :=
    s.carrier_setCarrier_ne c fun he => hm (he ▸ hk)
  have name (m d) := s.identity_setCarrier_none (k := k) hc m d
  refine ⟨s.counted_setCarrier k c h.counted, h.offsets, ⟨h.ids.opened, fun m d hl hm => h.ids.named m d hl (name m d hm).2,
      fun m n d hm hn => h.ids.once m n d (name m d hm).2 (name n d hn).2, fun d hl hr => ?_⟩,
    h.tickets.congr rfl (fun _ _ => Iff.rfl) (fun _ => id) h.tickets.strayed, fun m hm => other m hm ▸ h.fields m hm,
    fun hs m hm => other m hm ▸ h.setup hs m hm,
    h.pend.congr rfl (fun m hm => by simp only [other m hm, and_self]) fun _ _ _ _ => id,
    h.arm.congr (fun _ => rfl) rfl (fun _ => rfl) (fun m hm => by simp only [other m hm, implies_true, and_self]) .inl⟩
  obtain ⟨m, hm⟩ := h.ids.carried d hl hr
  refine ⟨m, ?_⟩
  have hmk : m ≠ k := by
    rintro rfl
    exact hl (hd d hm)
  rw [s.carrier_setCarrier_ne c hmk]
  exact hm

/-- A carrier in hand without an identity takes one that was left out and is ON_LOOP. -/
theorem State.Coheres.takeName {d : Identity} (h : s.Coheres K (alsoLost L d) R) {k : Nat} (hk : K k)
    (hlen : k < s.carriers.table.length) {c : Carrier} (hc : c.identity = some d) (hn : (s.carrier k).identity = none)
    (hr : s.rides d) (hfree : ∀ m, (s.carrier m).identity ≠ some d) : (s.setCarrier k c).Coheres K L R := by
  have other (m) (hm : m ≠ k) : (s.setCarrier k c).carrier m = s.carrier m := s.carrier_setCarrier_ne c hm
  have own : (s.setCarrier k c).carrier k = c := s.carrier_setCarrier_same c hlen
  have apart (m) (hm : ¬K m) : m ≠ k := fun he => hm (he ▸ hk)
  have out (x) (hl : ¬L x) (hx : x ≠ d) : ¬alsoLost L d x := fun ho => ho.elim hl hx
  have name (m x) (hm : ((s.setCarrier k c).carrier m).identity = some x) :
      (m = k ∧ x = d) ∨ (m ≠ k ∧ x ≠ d ∧ (s.carrier m).identity = some x) := by
    by_cases he : m = k
    · rw [he, own, hc] at hm
      exact .inl ⟨he, (Option.some.inj hm).symm⟩
    · rw [other m he] at hm
      exact .inr ⟨he, fun hx => hfree m (hx ▸ hm), hm⟩
  refine ⟨s.counted_setCarrier k c h.counted, h.offsets, ⟨h.ids.opened, fun m x hl hm => ?_, fun m n x hm hx => ?_, fun x hl hx => ?_⟩,
    h.tickets.congr rfl (fun _ _ => Iff.rfl) (fun _ => id) h.tickets.strayed, fun m hm => other m (apart m hm) ▸ h.fields m hm,
    fun hs m hm => other m (apart m hm) ▸ h.setup hs m hm,
    h.pend.congr rfl (fun m hm => by simp only [other m (apart m hm), and_self]) fun _ _ _ _ => id,
    h.arm.congr (fun _ => rfl) rfl (fun _ => rfl) (fun m hm => by simp only [other m (apart m hm), implies_true, and_self]) .inl⟩
  · rcases name m x hm with ⟨-, rfl⟩ | ⟨-, hx, hm⟩
    · exact hr
    · exact h.ids.named m x (out x hl hx) hm
  · rcases name m x hm with ⟨rfl, rfl⟩ | ⟨-, hne, hm⟩
    · rcases name n _ hx with ⟨rfl, -⟩ | ⟨-, hne, -⟩
      · rfl
      · exact absurd rfl hne
    · rcases name n x hx with ⟨-, rfl⟩ | ⟨-, -, hn⟩
      · exact absurd rfl hne
      · exact h.ids.once m n x hm hn
  · by_cases he : x = d
    · exact ⟨k, by rw [own, hc, he]⟩
    · obtain ⟨m, hm⟩ := h.ids.carried x (out x hl he) hx
      refine ⟨m, ?_⟩
      rw [other m fun hmk => ?_]
      · exact hm
      · rw [hmk, hn] at hm
        cases hm

end

end Sys2Proof.Machine

/-! SUPPORT. Dropped identities, completed closings, matches and strays keep the agreement of the tables (R10, R56, R58, R84,
R101). -/

namespace Sys2Proof.Machine

section
variable {s t : State} {K K' : Nat → Prop} {R : Nat → Nat → Prop} {L L' : Identity → Prop}

theorem State.rides_setEntryState {o : Identity} {st : EntryState} {n : Option Nat}
    (h : (s.setEntryState o.berth o.entry st n).rides o) : st = .onLoop := by
  obtain ⟨e, he, hs⟩ := h
  rw [s.entryOf_setEntryState, if_pos rfl, Option.map_eq_some_iff] at he
  obtain ⟨x, -, rfl⟩ := he
  exact hs

theorem State.Coheres.ticket_none (h : s.Coheres K L R) {d : Identity} {e : Entry} (he : s.entryOf d = some e)
    (hs : e.state ≠ .strayed) : e.ticket = none := by
  by_contra hn
  exact hs (h.tickets.strayed d e he hn)

/-! ## Dropped identities -/

/-- A carrier in hand drops its identity, whose entry leaves ON_LOOP. -/
theorem State.Coheres.dropIdentity (h : s.Coheres K L R) {k : Nat} (hk : K k) {st : EntryState} (hst : st ≠ .onLoop)
    (hl : ∀ d, (s.carrier k).identity = some d → ¬L d) : (s.dropIdentity k st).Coheres K L R := by
  cases hd : (s.carrier k).identity with
  | none =>
    rw [State.dropIdentity_none hd]
    exact h
  | some d =>
    obtain ⟨e, he, hs⟩ := h.ids.named k d (hl d hd) hd
    have free (m) : ((s.setCarrier k { s.carrier k with identity := none }).carrier m).identity ≠ some d := fun hm => by
      obtain ⟨hne, hm⟩ := s.identity_setCarrier_none (k := k) rfl m d hm
      exact hne (h.ids.once m k d hm hd)
    have named := (h.lose d).dropName hk (c := { s.carrier k with identity := none }) rfl fun x hx => by
      rw [hd] at hx
      exact .inr (Option.some.inj hx).symm
    rw [State.dropIdentity_some hd]
    refine (named.setEntryState (o := d) (st := st) (fun x hx => ?_) (fun hn => absurd (.inr rfl) hn) fun hx => absurd hx hst).found
      (fun hr => hst (State.rides_setEntryState hr)) fun m hm => free m ?_
    · obtain rfl := Option.some.inj (he.symm.trans hx)
      exact h.ticket_none he (by simp [hs])
    · rw [← State.carrier_eq_of_carriers (State.changesOnly_setBerth _ _ _ .carriers (by simp)) m]
      exact hm

/-! ## Completed closings -/

/-- What a record of either list refers to: ticket, berth, entry. -/
abbrev Reference : Type := Nat × Option BerthId × Option Nat

/-- A reference that loses its berth and its entry if they satisfy a test (R71, R148). -/
def forgotten (p : Option BerthId → Option Nat → Bool) (r : Reference) : Reference :=
  if p r.2.1 r.2.2 then (r.1, none, none) else r

theorem Coding.references_forget (c : Coding) (b : BerthId) :
    (c.forget b).references = c.references.map (forgotten fun x _ => x == some b) := by
  simp only [Coding.references, Coding.forget, List.map_append, List.map_map]
  congr 1
  · refine List.map_congr_left fun r _ => ?_
    by_cases hb : r.berth = some b
    · simp [StrayRecord.forget, forgotten, hb]
    · simp [StrayRecord.forget, forgotten, hb]
  · refine List.map_congr_left fun r _ => ?_
    by_cases hb : r.berth = some b
    · simp [ReinjectRecord.forget, forgotten, hb]
    · simp [ReinjectRecord.forget, forgotten, hb]

/-- References and the entries that they name vanish together. -/
theorem State.TicketsHeld.forget (h : s.TicketsHeld) {p : Option BerthId → Option Nat → Bool}
    (refs : t.coding.references = s.coding.references.map (forgotten p))
    (he : ∀ d : Identity, t.entryOf d = if p (some d.berth) (some d.entry) then none else s.entryOf d)
    (ho : ∀ c x, p (some c) x = false → s.opens c → t.opens c) : t.TicketsHeld := by
  have number (r) : (forgotten p r).1 = r.1 := by
    unfold forgotten
    split <;> rfl
  refine ⟨?_, fun r hr => ?_, fun r hr => ?_, fun r hr c hx => ?_, fun n d => ?_, fun d e hx hn => ?_⟩
  · rw [refs, List.map_map]
    exact (List.map_congr_left fun r _ => number r).symm ▸ h.unique
  all_goals try
    rw [refs] at hr
    obtain ⟨q, hq, rfl⟩ := List.mem_map.1 hr
  · rw [number]
    exact h.range q hq
  · unfold forgotten
    split
    · exact fun hx => absurd rfl hx
    · exact h.whole q hq
  · unfold forgotten at hx
    split at hx
    · cases hx
    next hne =>
      have hx : q.2.1 = some c := hx
      rw [hx] at hne
      exact ho c _ (by simpa using hne) (h.opened q hq c hx)
  · rw [refs, List.mem_map, State.holds, he]
    by_cases hb : p (some d.berth) (some d.entry) = true
    · rw [if_pos hb]
      refine ⟨fun ⟨q, hq, hx⟩ => ?_, fun ⟨e, hx, _⟩ => by cases hx⟩
      unfold forgotten at hx
      split at hx
      · cases hx
      next hne => exact absurd (by rw [hx]; exact hb) hne
    · rw [if_neg hb]
      refine Iff.trans ?_ (h.held n d)
      constructor
      · rintro ⟨q, hq, hx⟩
        unfold forgotten at hx
        split at hx
        · cases hx
        next => exact hx ▸ hq
      · intro hm
        exact ⟨_, hm, if_neg hb⟩
  · rw [he] at hx
    split at hx
    · cases hx
    · exact h.strayed d e hx hn

/-- A berth without bags on the loop is cleared (R58). -/
theorem State.Coheres.perBerthClear (h : s.Coheres K L R) {b : BerthId} (hid : ∀ k d, (s.carrier k).identity = some d → d.berth ≠ b)
    (hp : ∀ r ∈ s.router.pendingTags, r.berth ≠ b) (hl : ∀ d, L d → L' d ∨ d.berth = b) : (s.perBerthClear b).Coheres K L' R := by
  have entry (d) : ((s.setBerth b Berth.clear).setCoding (s.coding.forget b)).entryOf d
      = if d.berth = b then none else s.entryOf d := s.entryOf_setBerth b Berth.clear d
  have opens (c) (hc : c ≠ b) (ho : s.opens c) : ((s.setBerth b Berth.clear).setCoding (s.coding.forget b)).opens c := by
    show ((s.setBerth b Berth.clear).berth c).state.isOpen = true
    rw [State.berth_setBerth_ne s _ hc]
    exact ho
  have rides (d) : ((s.setBerth b Berth.clear).setCoding (s.coding.forget b)).rides d ↔ d.berth ≠ b ∧ s.rides d := by
    rw [State.rides, entry, State.rides]
    by_cases hb : d.berth = b
    · simp [hb]
    · simp [hb]
  have carrier (k) : ((s.setBerth b Berth.clear).setCoding (s.coding.forget b)).carrier k = s.carrier k :=
    State.carrier_eq_of_carriers (s.setBerth_carriers b _) k
  have lost (d) (hd : ¬L' d) (hb : d.berth ≠ b) : ¬L d := fun hx => (hl d hx).elim hd hb
  have cleared : ((s.setBerth b Berth.clear).setCoding (s.coding.forget b)).Coheres K L' R := by
    refine h.remade (ps := [.berths, .coding])
      (State.changesOnly_comp (s.changesOnly_setBerth b _) (State.changesOnly_setCoding _ _) (by simp) (by simp)) (by simp [manifestParts])
      ⟨fun d hd => ?_, fun k d hd hk => ?_, fun k m d => ?_, fun d hd hr => ?_⟩
      (h.tickets.forget (Coding.references_forget _ b) (fun d => by simpa using entry d) fun c _ hc => opens c (by simpa using hc)) fun r hr _ c hc => ?_
    · obtain ⟨hb, hd⟩ := (rides d).1 hd
      exact opens _ hb (h.ids.opened d hd)
    · rw [carrier] at hk
      exact (rides d).2 ⟨hid k d hk, h.ids.named k d (lost d hd (hid k d hk)) hk⟩
    · rw [carrier, carrier]
      exact h.ids.once k m d
    · obtain ⟨hb, hr⟩ := (rides d).1 hr
      obtain ⟨k, hk⟩ := h.ids.carried d (lost d hd hb) hr
      exact ⟨k, (carrier k).symm ▸ hk⟩
    · show ((s.setBerth b Berth.clear).berth r.berth).state = _
      rw [State.berth_setBerth_ne s _ (hp r hr)]
      exact hc
  unfold State.perBerthClear
  simp only [State.setBerth_coding]
  refine State.Coheres.forEach (fun u j _ hu => ?_) cleared
  unfold State.takeBackLane
  split
  · exact hu.setLane j rfl
  · exact hu

/-! What only tells: notices, orders. -/

theorem State.Coheres.post (h : s.Coheres K L R) (p : Principal) (x : NoticeBody) : (s.post p x).Coheres K L R :=
  h.of_frame (s.changesOnly_post p x) (by simp)

theorem State.Coheres.postHallAnd (h : s.Coheres K L R) (b : BerthId) (x : NoticeBody) : (s.postHallAnd b x).Coheres K L R :=
  (h.post _ _).post _ _

theorem State.Coheres.postAll (h : s.Coheres K L R) (x : NoticeBody) : (s.postAll x).Coheres K L R :=
  ((h.post _ _).post _ _).post _ _

theorem State.Coheres.postOwner (h : s.Coheres K L R) (p : Principal) (x : NoticeBody) : (s.postOwner p x).Coheres K L R := by
  cases p with
  | hall => exact h.post _ _
  | berth b => exact h.postHallAnd b x

theorem State.Coheres.handOver (h : s.Coheres K L R) (o : Order) : (s.handOver o).Coheres K L R :=
  h.of_frame (s.changesOnly_handOver o) (by simp)

theorem State.holdsBags_false {b : BerthId} (h : s.holdsBags b = false) :
    (∀ k d, (s.carrier k).identity = some d → d.berth ≠ b) ∧ ∀ r ∈ s.router.pendingTags, r.berth ≠ b := by
  rw [State.holdsBags, Bool.or_eq_false_iff, List.any_eq_false, List.any_eq_false] at h
  refine ⟨fun k d hd hb => ?_, fun r hr hb => h.2 r hr (by simp [hb])⟩
  refine (State.forall_mem_table (P := fun c => ¬c.isOf b = true) (by simp [Carrier.isOf, Carrier.empty])).1 h.1 k ?_
  simp [Carrier.isOf, hd, hb]

theorem State.Coheres.testClosing (h : s.Coheres K L R) (b : BerthId) : (s.testClosing b).Coheres K L R := by
  unfold State.testClosing
  split
  next hc =>
    obtain ⟨hid, hp⟩ := State.holdsBags_false (b := b) (by simpa using (Bool.and_eq_true_iff.1 hc).2)
    exact (h.perBerthClear hid hp fun d hd => .inl hd).postHallAnd b _
  next => exact h

theorem State.Coheres.testAllClosing (h : s.Coheres K L R) : s.testAllClosing.Coheres K L R :=
  (h.testClosing .one).testClosing .two

theorem State.changesOnly_testClosing (s : State) (b : BerthId) :
    s.changesOnly (s.testClosing b) [.berths, .coding, .lanes, .principals] := by
  unfold State.testClosing
  split
  · exact State.changesOnly_comp (s.changesOnly_perBerthClear b) (State.changesOnly_postHallAnd _ b _) (by simp) (by simp)
  · exact s.changesOnly_refl _

/-! ## Matches and strays -/

/-- A carrier in hand, loaded and named nowhere, takes an entry as its identity, which is ON_LOOP from then on. -/
theorem State.Coheres.matchEntry {k : Nat} {d : Identity} {e : Entry} (h : s.Coheres (alsoHeld K k) L R) (hk : s.Ready k)
    (hn : (s.carrier k).identity = none) (hl : ¬L d) (he : s.entryOf d = some e) (hs : e.state ≠ .onLoop) (ht : e.ticket = none)
    (ho : s.opens d.berth) : (s.matchEntry k d).Coheres K L R := by
  have apart : ¬s.rides d := fun ⟨x, hx, hr⟩ => hs ((Option.some.inj (he.symm.trans hx)).symm ▸ hr)
  have free (m) : (s.carrier m).identity ≠ some d := fun hx => apart (h.ids.named m d hl hx)
  have frame := s.changesOnly_setBerth d.berth ((s.berth d.berth).setEntryState d.entry .onLoop none)
  have carrier (m) : (s.setEntryState d.berth d.entry .onLoop none).carrier m = s.carrier m :=
    State.carrier_eq_of_carriers (frame .carriers (by simp)) m
  have hlt := Carrier.lt_of_bagged hk.bagged
  have hk' : k < (s.setEntryState d.berth d.entry .onLoop none).carriers.table.length := by
    rw [show (s.setEntryState d.berth d.entry .onLoop none).carriers = s.carriers from frame .carriers (by simp)]
    exact hlt
  have rides : (s.setEntryState d.berth d.entry .onLoop none).rides d := by
    rw [State.rides, s.entryOf_setEntryState, if_pos rfl, he]
    exact ⟨_, rfl, rfl⟩
  have loop := (h.lose d).setEntryState (o := d) (st := .onLoop)
    (fun x hx => (Option.some.inj (he.symm.trans hx)) ▸ ht) (fun hx => absurd (.inr rfl) hx) fun _ => ho
  have named := loop.takeName (k := k) (c := { (s.setEntryState d.berth d.entry .onLoop none).carrier k with identity := some d })
    (.inr rfl) hk' rfl (by rw [carrier, hn]) rides fun m => by rw [carrier]; exact free m
  have own := (s.setEntryState d.berth d.entry .onLoop none).carrier_setCarrier_same
    { (s.setEntryState d.berth d.entry .onLoop none).carrier k with identity := some d } hk'
  refine named.enterDisposition (hk.congr (ps := [.carriers, .berths])
    (State.changesOnly_comp frame (State.changesOnly_storeCarrier _ _ _) (by simp) (by simp)) (by simp) ?_ ?_ ?_) ?_
  · rw [own, carrier]
    exact id
  · rw [own, carrier]
  · rw [own, carrier]
  · rw [own]
    cases hx : s.cabinOf d with
    | none => simp [dispositionOf]
    | some x => cases hh : x.held <;> simp [dispositionOf, hh]

theorem State.changesOnly_dropIdentity (s : State) (k : Nat) (st : EntryState) :
    s.changesOnly (s.dropIdentity k st) [.carriers, .berths] := by
  cases hd : (s.carrier k).identity with
  | none =>
    rw [State.dropIdentity_none hd]
    exact s.changesOnly_refl _
  | some d =>
    rw [State.dropIdentity_some hd]
    exact State.changesOnly_comp (s.changesOnly_storeCarrier k _) (State.changesOnly_setBerth _ _ _) (by simp) (by simp)

theorem State.carrier_dropIdentity (s : State) {k : Nat} (hk : k < s.carriers.table.length) (st : EntryState) (m : Nat) :
    (s.dropIdentity k st).carrier m = if m = k then { s.carrier k with identity := none } else s.carrier m := by
  cases hd : (s.carrier k).identity with
  | none =>
    rw [State.dropIdentity_none hd]
    split
    next he => rw [he, ← hd]
    next => rfl
  | some d =>
    rw [State.dropIdentity_some hd, State.carrier_eq_of_carriers (State.changesOnly_setEntryState _ _ _ _ _ .carriers (by simp)),
      State.carrier_setCarrier]
    simp [hk]

/-- A carrier in hand, loaded and named nowhere, becomes a stray (R101). -/
theorem State.Coheres.becomeStray {k : Nat} {r : StrayReason} (h : s.Coheres (alsoHeld K k) L R) (hk : s.Ready k)
    (hl : ∀ d, (s.carrier k).identity = some d → ¬L d) : (s.becomeStray k r).Coheres K L R := by
  have hlt := Carrier.lt_of_bagged hk.bagged
  cases hd : (s.carrier k).identity with
  | none =>
    have eq : s.becomeStray k r = s.enterDisposition k (.stray r) := by rw [State.becomeStray, hd]
    rw [eq]
    exact h.enterDisposition hk (by simp [hd])
  | some d =>
    have dropped := h.dropIdentity (k := k) (.inr rfl) (st := .strayed) (by simp) hl
    have frame := s.changesOnly_dropIdentity k .strayed
    have told : ∃ u, s.becomeStray k r = (u.testClosing d.berth).enterDisposition k (.stray r) ∧ u.Coheres (alsoHeld K k) L R
        ∧ s.changesOnly u [.carriers, .berths, .principals] ∧ u.carrier k = { s.carrier k with identity := none } := by
      have own : (s.dropIdentity k .strayed).carrier k = { s.carrier k with identity := none } := by
        rw [s.carrier_dropIdentity hlt, if_pos rfl]
      cases he : s.entryOf d with
      | none =>
        exact ⟨s.dropIdentity k .strayed, by simp only [State.becomeStray, hd, he], dropped, State.changesOnly_mono frame (by simp), own⟩
      | some e =>
        refine ⟨_, by simp only [State.becomeStray, hd, he]; rfl, dropped.post _ _,
          State.changesOnly_comp frame (State.changesOnly_post _ _ _) (by simp) (by simp), ?_⟩
        rw [State.carrier_eq_of_carriers (State.changesOnly_post _ _ _ .carriers (by simp))]
        exact own
    obtain ⟨u, eq, hu', frame, own⟩ := told
    have closing := u.changesOnly_testClosing d.berth
    have after : (u.testClosing d.berth).carrier k = { s.carrier k with identity := none } :=
      (State.carrier_eq_of_carriers (closing .carriers (by simp)) k).trans own
    rw [eq]
    refine (hu'.testClosing d.berth).enterDisposition (hk.congr (State.changesOnly_comp (rs := [.carriers, .berths, .coding, .lanes, .principals])
      frame closing (by simp) (by simp)) (by simp) ?_ ?_ ?_) ?_
    · rw [after]
      exact id
    · rw [after]
    · rw [after]
    · rw [after]
      simp

end

end Sys2Proof.Machine

/-! SUPPORT. Outcomes of windows and the pending-tag list keep the agreement of the tables (R82 to R87). -/

namespace Sys2Proof.Machine

section
variable {s t : State} {K K' : Nat → Prop} {R : Nat → Nat → Prop} {L L' : Identity → Prop}

/-! ## The pending-tag list -/

/-- Records leave the pending-tag list, their carriers being in hand. -/
theorem State.Coheres.keepPending (h : s.Coheres K L R) (p : PendingTag → Bool)
    (hK : ∀ r ∈ s.router.pendingTags, p r = false → K' r.carrier) (hmono : ∀ k, K k → K' k) :
    (s.setRouter { s.router with pendingTags := s.router.pendingTags.filter p }).Coheres K' L R := by
  have h := h.mono hmono
  have sub {r} (hr : r ∈ s.router.pendingTags.filter p) : r ∈ s.router.pendingTags := (List.mem_filter.1 hr).1
  have list : (s.router.pendingTags.filter p).Sublist s.router.pendingTags := List.filter_sublist
  refine { h with
    ids := ⟨h.ids.opened, h.ids.named, h.ids.once, h.ids.carried⟩
    tickets := ⟨h.tickets.unique, h.tickets.range, h.tickets.whole, h.tickets.opened, h.tickets.held, h.tickets.strayed⟩
    pend := ⟨h.pend.carriers.sublist (list.map _), h.pend.tags.sublist (list.map _), fun r hr => h.pend.waits r (sub hr),
      fun k hk hw => ?_⟩
    arm := ⟨h.arm.queued, h.arm.ordered, h.arm.armed, h.arm.idle⟩ }
  obtain ⟨r, hr, hc⟩ := h.pend.listed k hk hw
  refine ⟨r, List.mem_filter.2 ⟨hr, ?_⟩, hc⟩
  by_contra hp
  exact hk (hc ▸ hK r hr (by simpa using hp))

theorem State.Coheres.removePending (h : s.Coheres K L R) (k : Nat) : (s.removePending k).Coheres (alsoHeld K k) L R :=
  h.keepPending _ (fun r _ hp => .inr (by simpa using hp)) fun _ => .inl

/-- A WAITING carrier whose record has been taken away. -/
theorem State.Coheres.ready_removePending (h : s.Coheres K L R) {k : Nat} (hk : ¬K k) (hw : (s.carrier k).state = .waiting) :
    (s.removePending k).Ready k ∧ (s.carrier k).identity = none := by
  have he : (s.carrier k).state ≠ .empty := by rw [hw]; simp
  have ha : (s.carrier k).armed = false := h.unarmed hk (by rw [hw]; simp)
  refine ⟨⟨h.mode hk he, h.bagged hk he, fun _ => ha, fun r hr => ?_, fun j hj => ?_⟩, ?_⟩
  · have := (List.mem_filter.1 hr).2
    simpa using this
  · have := (h.arm.queued j k hj hk).2.1
    rw [ha] at this
    cases this
  · obtain ⟨-, -, -, hwait, -⟩ := h.fields k hk
    exact (hwait hw).1

/-- A carrier in hand, WAITING, whose record is in the list again. -/
theorem State.Coheres.putBackWaiting {k : Nat} (h : s.Coheres (alsoHeld K k) L R) {r : PendingTag} (hr : r ∈ s.router.pendingTags)
    (hrk : r.carrier = k) (hf : (s.carrier k).fieldsAgree) (hm : s.mode ≠ .setup) (hw : (s.carrier k).state = .waiting)
    (ht : ∃ t ∈ (s.carrier k).candidate, t.serial = r.serial ∧ (s.berth r.berth).state = .bound t.ship)
    (ha : (s.carrier k).armed = false) (hq : ∀ j, k ∉ (s.diverter j).queue) : s.Coheres K L R := by
  have out (m) (hn : ¬K m) (hne : m ≠ k) : ¬alsoHeld K k m := fun ho => ho.elim hn hne
  refine ⟨h.counted, h.offsets, h.ids, h.tickets, fun m hn => ?_, fun hs => absurd hs hm,
    ⟨h.pend.carriers, h.pend.tags, fun q hq hn => ?_, fun m hn hs => ?_⟩,
    ⟨fun j m hj hn => h.arm.queued j m hj (out m hn fun he => hq j (he ▸ hj)), fun j => ?_, fun m j hn harm htg => ?_, h.arm.idle⟩⟩
  · by_cases he : m = k
    · exact he ▸ hf
    · exact h.fields m (out m hn he)
  · by_cases he : q.carrier = k
    · have : q = r := List.inj_on_of_nodup_map h.pend.carriers hq hr (he.trans hrk.symm)
      subst this
      rw [he]
      exact ⟨hw, ht⟩
    · exact h.pend.waits q hq (out _ hn he)
  · by_cases he : m = k
    · exact ⟨r, hr, hrk.trans he.symm⟩
    · exact h.pend.listed m (out m hn he) hs
  · refine (List.Pairwise.and_mem.1 (h.arm.ordered j)).imp fun ⟨hx, hy, hlt⟩ hnx hny => ?_
    exact hlt (out _ hnx fun he => hq j (he ▸ hx)) (out _ hny fun he => hq j (he ▸ hy))
  · refine h.arm.armed m j (out m hn fun he => ?_) harm htg
    rw [he, ha] at harm
    cases harm

/-- A record joins the pending-tag list, its carrier being in hand. -/
theorem State.Coheres.appendPending (h : s.Coheres K L R) {r : PendingTag} (hk : K r.carrier)
    (hc : ∀ q ∈ s.router.pendingTags, q.carrier ≠ r.carrier)
    (ht : ∀ q ∈ s.router.pendingTags, ¬(q.berth = r.berth ∧ q.serial = r.serial)) :
    (s.setRouter { s.router with pendingTags := s.router.pendingTags ++ [r] }).Coheres K L R := by
  refine { h with
    ids := ⟨h.ids.opened, h.ids.named, h.ids.once, h.ids.carried⟩
    tickets := ⟨h.tickets.unique, h.tickets.range, h.tickets.whole, h.tickets.opened, h.tickets.held, h.tickets.strayed⟩
    pend := ⟨?_, ?_, fun q hq hn => ?_, fun m hn hw => ?_⟩
    arm := ⟨h.arm.queued, h.arm.ordered, h.arm.armed, h.arm.idle⟩ }
  · show ((s.router.pendingTags ++ [r]).map _).Nodup
    rw [List.map_append, List.nodup_append]
    refine ⟨h.pend.carriers, by simp, fun a ha b hb => ?_⟩
    obtain ⟨q, hq, rfl⟩ := List.mem_map.1 ha
    obtain rfl := List.mem_singleton.1 hb
    exact hc q hq
  · show ((s.router.pendingTags ++ [r]).map _).Nodup
    rw [List.map_append, List.nodup_append]
    refine ⟨h.pend.tags, by simp, fun a ha b hb => ?_⟩
    obtain ⟨q, hq, rfl⟩ := List.mem_map.1 ha
    obtain rfl := List.mem_singleton.1 hb
    exact fun he => ht q hq (Prod.mk.inj he)
  · rcases List.mem_append.1 hq with hq | hq
    · exact h.pend.waits q hq hn
    · obtain rfl := List.mem_singleton.1 hq
      exact absurd hk hn
  · obtain ⟨q, hq, he⟩ := h.pend.listed m hn hw
    exact ⟨q, List.mem_append_left _ hq, he⟩

/-- A carrier in hand, of a bag read but not listed, joins the pending-tag list (R87). -/
theorem State.Coheres.joinPending {k : Nat} {b : BerthId} {x : Tag} (h : s.Coheres (alsoHeld K k) L R) (hk : s.Ready k)
    (hi : (s.carrier k).identity = none) (hd : (s.carrier k).disposition = none) (ht : (s.carrier k).target = none)
    (hx : (s.carrier k).candidate = some x) (hb : (s.berth b).state = .bound x.ship)
    (hnew : ∀ q ∈ s.router.pendingTags, ¬(q.berth = b ∧ q.serial = x.serial)) : (s.joinPending k b x.serial).Coheres K L R := by
  have hlt := Carrier.lt_of_bagged hk.bagged
  have armed := hk.unarmed ht
  have joined := (h.appendPending (r := ⟨b, x.serial, k⟩) (.inr rfl) hk.unnamed.1 hnew).setCarrier_held (k := k)
    (c := { s.carrier k with state := .waiting, laps := 0 }) (.inr rfl) rfl
  have own : ((s.setRouter { s.router with pendingTags := s.router.pendingTags ++ [⟨b, x.serial, k⟩] }).setCarrier k
      { s.carrier k with state := .waiting, laps := 0 }).carrier k = { s.carrier k with state := .waiting, laps := 0 } :=
    s.carrier_setCarrier_same _ hlt
  refine (joined.putBackWaiting (r := ⟨b, x.serial, k⟩) (List.mem_append_right _ (List.mem_singleton_self _)) rfl ?_ hk.mode ?_ ?_ ?_
    hk.unnamed.2).post _ _
  · rw [own]
    refine ⟨fun he => ?_, fun _ => hk.bagged, fun he => ?_, fun _ => ⟨hi, by simp [hx], hd, ht⟩, fun he => ?_, fun he => ?_, fun he => ?_⟩
    all_goals simp [armed] at he
  · rw [own]
  · rw [own]
    exact ⟨x, hx, rfl, hb⟩
  · rw [own]
    exact armed

/-! ## Outcomes -/

theorem State.ship_of_berthOfShip {n : Nat} {b : BerthId} (h : s.berthOfShip n = some b) : (s.berth b).state.ship = some n := by
  have := List.find?_some h
  simpa using this

theorem BerthState.bound_of_ship {x : BerthState} {n : Nat} (h : x.ship = some n) (hc : x.isClosing = false) : x = .bound n := by
  cases x with
  | unbound => cases h
  | bound c => exact congrArg _ (Option.some.inj h)
  | closing c => cases hc

/-- An ACCEPTED tag taken for a carrier in hand without an identity, a disposition or a target (R83). -/
theorem State.Coheres.takeAccepted {k : Nat} {x : Tag} (h : s.Coheres (alsoHeld K k) L R) (hm : s.manifestsAgree) (hk : s.Ready k)
    (hi : (s.carrier k).identity = none) (hd : (s.carrier k).disposition = none) (ht : (s.carrier k).target = none)
    (hl : ∀ d, ¬L d) : (s.takeAccepted k x).Coheres K L R := by
  have hlt := Carrier.lt_of_bagged hk.bagged
  have own : (s.read k x).carrier k = { s.carrier k with candidate := some x } := s.carrier_setCarrier_same _ hlt
  have read : (s.read k x).Coheres (alsoHeld K k) L R := h.setCarrier_held (.inr rfl) (by rfl)
  have ready : (s.read k x).Ready k := hk.congr (s.changesOnly_storeCarrier k _) (by simp) (by rw [own]; exact id) (by rw [own])
    (by rw [own])
  have id' : ((s.read k x).carrier k).identity = none := by rw [own]; exact hi
  have stray (r : StrayReason) : ((s.read k x).enterDisposition k (.stray r)).Coheres K L R :=
    read.enterDisposition ready (by simp [id'])
  unfold State.takeAccepted
  dsimp only
  rw [← State.read]
  split
  · exact stray _
  next b hb =>
    have ship := State.ship_of_berthOfShip hb
    split
    · exact stray _
    next hc =>
      have bound : ((s.read k x).berth b).state = .bound x.ship := BerthState.bound_of_ship ship (by simpa using hc)
      split
      next e he =>
        unfold State.takeListed
        split
        next hs =>
          have entry : (s.read k x).entryOf ⟨b, e.index⟩ = some e :=
            (State.entryOf_iff hm ⟨b, e.index⟩ e).2 ⟨List.mem_of_find?_eq_some he, rfl⟩
          refine read.matchEntry ready id' (hl _) entry (by simp [hs]) (h.ticket_none entry (by simp [hs])) ?_
          show ((s.read k x).berth b).state.isOpen = true
          rw [bound]
          rfl
        all_goals exact stray _
      next =>
        unfold State.takeUnlisted
        split
        · exact stray _
        next hany =>
          split
          · refine read.joinPending ready id' (by rw [own]; exact hd) (by rw [own]; exact ht) (by rw [own]) bound fun q hq he => hany ?_
            exact List.any_eq_true.2 ⟨q, hq, by simp [he]⟩
          · exact stray _

/-- The outcome of a window (R82). -/
theorem State.Coheres.takeOutcome (h : s.Coheres K L R) (hm : s.manifestsAgree) {k : Nat} (hk : ¬K k) (o : ReadOutcome)
    (hl : ∀ d, ¬L d) : (s.takeOutcome k o).Coheres K L R := by
  unfold State.takeOutcome
  split
  next ha =>
    have hs : (s.carrier k).state = .unread ∨ (s.carrier k).state = .unverified := by simpa [Carrier.awaitsRead] using ha
    obtain ⟨-, -, hun, -⟩ := h.fields k hk
    obtain ⟨hi, -, hd, ht⟩ := hun hs
    have ready : s.Ready k := h.ready hk (by rcases hs with hs | hs <;> simp [hs]) (by rcases hs with hs | hs <;> simp [hs])
      (h.unarmed hk (by rcases hs with hs | hs <;> simp [hs]))
    have stray (r : StrayReason) : (s.enterDisposition k (.stray r)).Coheres K L R :=
      (h.take k).enterDisposition ready (by simp [hi])
    split
    · exact stray _
    · exact stray _
    · exact stray _
    · exact (h.take k).takeAccepted hm ready hi hd ht hl
  next => exact h

end

end Sys2Proof.Machine

/-! SUPPORT. Windows, polls and answers keep the agreement of the tables (R39 to R50). -/

namespace Sys2Proof.Machine

theorem Acts.manifestsAgree {s t : State} (h : Acts s t) (hs : s.manifestsAgree) : t.manifestsAgree :=
  (State.kept_iff t).1 (h.keeps (P := fun u => ∀ b, (u.berth b).Kept) (fun _ _ => Act.kept) ((State.kept_iff s).2 hs))

theorem State.Alike.post (s : State) (p : Principal) (x : NoticeBody) : s.Alike (s.post p x) :=
  .of_frame (s.changesOnly_post p x) (by simp)

theorem State.Alike.handOver (s : State) (o : Order) : s.Alike (s.handOver o) := .of_frame (s.changesOnly_handOver o) (by simp)

theorem State.Alike.sendPoll (s : State) (n : StationNo) (w : Window) : s.Alike (s.sendPoll n w) :=
  (State.Alike.setStation s n (by rfl)).trans (.handOver _ _)

theorem State.Alike.judgeHead (s : State) (n : StationNo) (h : Nat) : s.Alike (s.judgeHead n h) := by
  unfold State.judgeHead
  dsimp only
  split
  · exact .refl s
  · split
    · split
      · exact .setStation s n rfl
      · split
        · exact .refl s
        · exact (State.Alike.setStation s n (by rfl)).trans (.post _ _ _)
    · exact .setStation s n rfl

theorem Station.offset_scored (answers : List Answer) (t : Tag) (x : Station) : (x.scored answers t).offset = x.offset := by
  induction answers generalizing x with
  | nil => rfl
  | cons a answers ih => exact ih _

theorem State.Alike.scoreHeads (s : State) (n : StationNo) (answers : List Answer) (t : Tag) : s.Alike (s.scoreHeads n answers t) :=
  (State.Alike.setStation s n (Station.offset_scored answers t (s.station n))).trans
    (.forEach _ _ _ fun u h _ => .judgeHead u n h)

section
variable {s t : State} {K K' : Nat → Prop} {R : Nat → Nat → Prop} {L L' : Identity → Prop}

/-- A window closes, its outcome being taken (R44, R47). -/
theorem State.Coheres.closeWindow (h : s.Coheres noneHeld L R) (hm : s.manifestsAgree) (hl : ∀ d, ¬L d) (n : StationNo) (w : Window) :
    (s.closeWindow n w).Coheres noneHeld L R := by
  have closed : (s.setStation n { s.station n with window := none }).Coheres noneHeld L R := h.of_alike (.setStation s n rfl)
  have taken := closed.takeOutcome (k := w.carrier) hm id (tally w.answers w.votes) hl
  unfold State.closeWindow
  dsimp only
  split
  · exact taken.of_alike (.scoreHeads _ _ _ _)
  all_goals exact taken

theorem State.Coheres.takeAnswer (h : s.Coheres noneHeld L R) (hm : s.manifestsAgree) (hl : ∀ d, ¬L d) (n : StationNo) (w : Window)
    (head : Nat) (result : Option Tag) : (s.takeAnswer n w head result).Coheres noneHeld L R := by
  unfold State.takeAnswer
  dsimp only
  split
  · split
    · exact (h.closeWindow hm hl n _).chooseTarget _
    · exact h.closeWindow hm hl n _
  · exact h.of_alike (.sendPoll _ _ _)

theorem State.Coheres.closeWindows (h : s.Coheres noneHeld L R) (hm : s.manifestsAgree) (hl : ∀ d, ¬L d) :
    s.closeWindows.1.Coheres noneHeld L R := by
  have keep (ns : List StationNo) : ∀ acc : State × List Nat, acc.1.Coheres noneHeld L R → acc.1.manifestsAgree →
      (ns.foldl (fun acc n =>
        match (acc.1.station n).window with
        | none => acc
        | some w =>
          (acc.1.closeWindow n w, acc.2 ++ if (acc.1.carrier w.carrier).awaitsRead then [w.carrier] else [])) acc).1.Coheres
        noneHeld L R := by
    induction ns with
    | nil => exact fun _ h _ => h
    | cons n ns ih =>
      intro acc h hm
      rw [List.foldl_cons]
      cases hw : (acc.1.station n).window with
      | none => exact ih acc h hm
      | some w => exact ih _ (h.closeWindow hm hl n w) ((acc.1.acts_closeWindow n w).manifestsAgree hm)
  exact keep allStations (s, []) h hm

theorem State.Alike.openWindows (s : State) (excluded : List Nat) : s.Alike (s.openWindows excluded) := by
  refine .forEach _ _ _ fun u n _ => ?_
  unfold State.considerWindow
  split
  · dsimp only
    split
    · exact .sendPoll _ _ _
    · exact .refl u
  · exact .refl u

end

end Sys2Proof.Machine

/-! SUPPORT. Laps and lap limits keep the agreement of the tables (R97, R98, R101). -/

namespace Sys2Proof.Machine

section
variable {s t : State} {K K' : Nat → Prop} {R : Nat → Nat → Prop} {L L' : Identity → Prop}

theorem Carrier.follows_laps {c : Carrier} (hs : c.state ≠ .empty) (n : Nat) : c.Follows { c with laps := n } where
  state := rfl
  identity := rfl
  candidate := rfl
  armed := rfl
  target _ := rfl
  fields h := ⟨fun he => absurd he hs, h.2⟩

theorem State.Coheres.countLap (h : s.Coheres K L R) {k : Nat} (hs : (s.carrier k).state ≠ .empty) : (s.countLap k).Coheres K L R :=
  h.setCarrier (by rfl) fun _ => Carrier.follows_laps hs _

theorem State.Coheres.ready_carrying (h : s.Coheres K L R) {k : Nat} (hk : ¬K k) (hs : (s.carrier k).state = .carrying)
    (ha : (s.carrier k).armed = false) : s.Ready k :=
  h.ready hk (by simp [hs]) (by simp [hs]) ha

theorem State.Coheres.expireWait (h : s.Coheres K L R) {k : Nat} (hk : ¬K k) : (s.expireWait k).Coheres K L R := by
  unfold State.expireWait
  split
  next hc =>
    rw [Bool.and_eq_true, beq_iff_eq] at hc
    obtain ⟨ready, hi⟩ := h.ready_removePending hk hc.1
    exact (h.removePending k).enterDisposition ready (by
      rw [show ((s.removePending k).carrier k).identity = none from hi]
      simp)
  next => exact h

theorem State.Coheres.strayAtLimit (h : s.Coheres K L R) (hl : ∀ d, ¬L d) {k : Nat} (hk : ¬K k) : (s.strayAtLimit k).Coheres K L R := by
  unfold State.strayAtLimit
  split
  next hc =>
    rw [Bool.and_eq_true] at hc
    have ready := h.ready_carrying hk ((Carrier.isUntargeted_iff _).1 hc.1).1 (Carrier.armed_of_isUntargeted (h.fields k hk) hc.1)
    split
    · exact (h.take k).becomeStray ready fun d _ => hl d
    · exact (h.take k).becomeStray ready fun d _ => hl d
    · exact h
  next => exact h

/-- Laps counted for loaded carriers, and the limits looked at. -/
theorem State.Coheres.countLaps (h : s.Coheres noneHeld L R) (hl : ∀ d, ¬L d) {ks : List Nat}
    (hs : ∀ k ∈ ks, (s.carrier k).state ≠ .empty) : (s.countLaps ks).Coheres noneHeld L R := by
  have count (ks : List Nat) : ∀ u : State, u.Coheres noneHeld L R → (∀ k ∈ ks, (u.carrier k).state ≠ .empty) →
      (Machine.forEach ks (fun s k => s.countLap k) u).Coheres noneHeld L R := by
    induction ks with
    | nil => exact fun u hu _ => hu
    | cons k ks ih =>
      refine fun u hu hks => ih (u.countLap k) (hu.countLap (hks k (.head _))) fun m hm => ?_
      have same : ((u.countLap k).carrier m).state = (u.carrier m).state := by
        rw [State.countLap, State.carrier_setCarrier]
        split
        next he => rw [he.1]
        next => rfl
      rw [same]
      exact hks m (.tail _ hm)
  unfold State.countLaps
  split
  · exact (count ks s h hs).forEach fun u k _ hu => (hu.expireWait id).strayAtLimit hl id
  · exact h

end

end Sys2Proof.Machine

/-! SUPPORT. Failed diverts, firing and arming keep the agreement of the tables (R125, R126, R130 to R133). -/

namespace Sys2Proof.Machine

section
variable {s t : State} {K K' : Nat → Prop} {R R' : Nat → Nat → Prop} {L L' : Identity → Prop}

/-! ## The carrier taken back -/

theorem State.Coheres.takeBack (h : s.Coheres K L R) {k : Nat} (hk : ¬K k) (hs : (s.carrier k).state = .fired) :
    (s.takeBack k).Coheres K L R ∧ ((s.takeBack k).carrier k).state = .carrying ∧ ((s.takeBack k).carrier k).target = none
      ∧ ((s.takeBack k).carrier k).armed = false := by
  have he : (s.carrier k).state ≠ .empty := by simp [hs]
  have bagged := h.bagged hk he
  have hlt := Carrier.lt_of_bagged bagged
  obtain ⟨-, -, -, -, hcarry, -, -⟩ := h.fields k hk
  obtain ⟨hd, hi⟩ := hcarry (.inr hs)
  obtain ⟨frame, len, whole, -, -⟩ := s.dropTarget_spec hlt
  have dropped : (s.dropTarget k).Coheres (alsoHeld K k) L R := (h.take k).dropTarget fun hn => absurd (.inr rfl) hn
  have stored : (s.takeBack k).carrier k = { (s.dropTarget k).carrier k with
      state := .carrying, armed := false, tries := raiseTo 2 ((s.dropTarget k).carrier k).tries 1 } :=
    (s.dropTarget k).carrier_setCarrier_same _ (len.symm ▸ hlt)
  rw [whole] at stored
  have back : (s.takeBack k).Coheres (alsoHeld K k) L R := dropped.setCarrier_held (.inr rfl) (by rfl)
  refine ⟨back.putBack ⟨?_, fun hm => ?_, ?_, ?_, ?_⟩, ?_, ?_, ?_⟩
  · rw [stored]
    exact Carrier.fieldsAgree_carrying rfl bagged hd hi (by simp)
  · exact absurd ((frame .mode (by simp)).symm.trans hm) (h.mode hk he)
  · rw [stored]
    simp
  · rw [stored]
  · exact State.unnamed_congr (h.unnamed hk (by simp [hs]) (h.unarmed hk (by simp [hs]))) (frame .router (by simp))
      (frame .diverters (by simp))
  · rw [stored]
  · rw [stored]
  · rw [stored]

/-! ## A faulted lane -/

theorem State.carrier_dropTargets_held (ks : List Nat) (s : State) {m : Nat} (hm : m ∈ ks) (ht : (s.carrier m).target ≠ none) :
    (s.dropTargets ks).carrier m = { s.carrier m with target := none, armed := false } := by
  induction ks generalizing s with
  | nil => cases hm
  | cons k ks ih =>
    by_cases hk : m = k
    · subst hk
      have hlt : m < s.carriers.table.length := s.lt_of_carrier_ne fun he => ht (by rw [he]; rfl)
      have once := (s.dropTarget_spec hlt).2.2.1
      rw [if_neg ht] at once
      exact ((s.dropTarget m).carrier_dropTargets ks m).2 (.inr (by rw [once])) |>.trans once
    · have same : (s.dropTarget k).carrier m = s.carrier m := (s.carrier_dropTargets [k] m).2 (.inl (by simpa using hk))
      have := ih (s.dropTarget k) ((List.mem_cons.1 hm).resolve_left hk) (by rw [same]; exact ht)
      rw [same] at this
      exact this

/-- A queue emptied, its carriers being in hand. -/
theorem State.Coheres.emptyQueue (h : s.Coheres K L R) (j : LaneNo) (hK : ∀ k ∈ (s.diverter j).queue, K k) :
    (s.setDiverter j { s.diverter j with queue := [] }).Coheres K L R := by
  have own : ((s.setDiverter j { s.diverter j with queue := [] }).diverter j).queue = [] := by rw [State.diverter_setDiverter]
  have other (i) (hi : i ≠ j) : (s.setDiverter j { s.diverter j with queue := [] }).diverter i = s.diverter i :=
    s.diverter_setDiverter_ne _ hi
  refine { h with
    ids := ⟨h.ids.opened, h.ids.named, h.ids.once, h.ids.carried⟩
    tickets := ⟨h.tickets.unique, h.tickets.range, h.tickets.whole, h.tickets.opened, h.tickets.held, h.tickets.strayed⟩
    pend := ⟨h.pend.carriers, h.pend.tags, h.pend.waits, h.pend.listed⟩
    arm := ⟨fun i k hk hn => ?_, fun i => ?_, fun k i hn ha ht => ?_, fun hm i => ?_⟩ }
  · by_cases hi : i = j
    · rw [hi, own] at hk
      cases hk
    · rw [other i hi] at hk
      exact h.arm.queued i k hk hn
  · by_cases hi : i = j
    · rw [hi, own]
      exact .nil
    · rw [other i hi]
      exact h.arm.ordered i
  · have hq := h.arm.armed k i hn ha ht
    by_cases hi : i = j
    · exact absurd (hK k (hi ▸ hq)) hn
    · rw [other i hi]
      exact hq
  · by_cases hi : i = j
    · rw [hi, own]
    · rw [other i hi]
      exact h.arm.idle hm i

theorem State.Coheres.faultLane (h : s.Coheres noneHeld L R) (j : LaneNo) : (s.faultLane j).Coheres noneHeld L R := by
  have lane : (s.withFault j).Coheres noneHeld L R := h.setLane j rfl
  have held := (lane.mono (K' := fun m => m ∈ (s.diverter j).queue) fun _ hm => hm.elim).dropTargets (ks := (s.diverter j).queue)
    fun m hm hn => absurd hm hn
  have frame : (s.withFault j).changesOnly _ [.carriers, .lanes] := ((s.withFault j).retargets_dropTargets (s.diverter j).queue).1
  have queues : ((s.withFault j).dropTargets (s.diverter j).queue).diverters = s.diverters := frame .diverters (by simp)
  have queue (i) := State.diverter_eq_of_diverters queues i
  have empty := held.emptyQueue j fun k hk => by
    rw [queue] at hk
    exact hk
  rw [queue] at empty
  rw [State.faultLane_eq]
  refine State.Coheres.dropTargets ?_ fun m hm _ _ => State.isReachable_of_tentative hm
  refine empty.release fun m hm _ => ?_
  obtain ⟨hs, ha, ht, -, -⟩ := h.arm.queued j m hm id
  have after : ((s.withFault j).dropTargets (s.diverter j).queue).carrier m = { s.carrier m with target := none, armed := false } :=
    State.carrier_dropTargets_held _ (s.withFault j) hm (by rw [show ((s.withFault j).carrier m).target = some j from ht]; simp)
  have he : (s.carrier m).state ≠ .empty := by simp [hs]
  obtain ⟨-, -, -, -, hcarry, -, -⟩ := h.fields m id
  obtain ⟨hd, hi⟩ := hcarry (.inl hs)
  refine ⟨?_, fun hmode => ?_, ?_, ?_, fun r hr hrm => ?_, fun i hi => ?_⟩
  · rw [State.carrier_setDiverter, after]
    exact Carrier.fieldsAgree_carrying hs (h.bagged id he) hd hi (by simp)
  · exact absurd ((frame .mode (by simp)).symm.trans hmode) (h.mode id he)
  · rw [State.carrier_setDiverter, after]
    simp [hs]
  · rw [State.carrier_setDiverter, after]
  · have hr : r ∈ s.router.pendingTags := by
      rw [← show ((s.withFault j).dropTargets (s.diverter j).queue).router = s.router from frame .router (by simp)]
      exact hr
    have := (h.pend.waits r hr id).1
    rw [hrm, hs] at this
    cases this
  · by_cases hij : i = j
    · rw [hij, State.diverter_setDiverter] at hi
      cases hi
    · rw [State.diverter_setDiverter_ne _ _ hij, queue] at hi
      have := (h.arm.queued i m hi id).2.2.1
      rw [ht] at this
      exact hij (Option.some.inj this).symm

/-! ## The failed divert -/

theorem State.Coheres.settleFailed (h : s.Coheres K L R) (hl : ∀ d, ¬L d) {k : Nat} (hk : ¬K k) (hs : (s.carrier k).state = .carrying)
    (ha : (s.carrier k).armed = false) : (s.settleFailed k).Coheres K L R := by
  have stray := (h.take k).becomeStray (r := .divertFail) (h.ready_carrying hk hs ha) fun d _ => hl d
  unfold State.settleFailed
  split
  · exact h
  · split
    · exact stray
    · exact stray
    · exact h

theorem State.carrier_faultLane (s : State) (j : LaneNo) {k : Nat} (ht : (s.carrier k).target = none) :
    (s.faultLane j).carrier k = s.carrier k := by
  have first := ((s.withFault j).carrier_dropTargets (s.diverter j).queue k).2 (.inr ht)
  rw [State.faultLane_eq]
  exact ((State.carrier_dropTargets _ _ k).2 (.inr (by
    rw [State.carrier_setDiverter, first]
    exact ht))).trans first

theorem State.Coheres.failDivert (h : s.Coheres noneHeld L R) (hl : ∀ d, ¬L d) {k : Nat} {j : LaneNo}
    (hf : (s.carrier k).isFiredAt j = true) (cause : DivertCause) : (s.failDivert k j cause).state.Coheres noneHeld L R := by
  obtain ⟨hs, ht⟩ := (isFiredAt_iff _ j).1 hf
  have hlt : k < s.carriers.table.length := s.lt_of_carrier_ne fun he => by rw [he] at hs; cases hs
  obtain ⟨back, carrying, target, armed⟩ := h.takeBack (k := k) id hs
  have raised := back.setDiverter j (x := ((s.takeBack k).diverter j).raised) rfl
  have own : (s.backAt k j).carrier k = (s.takeBack k).carrier k := by
    rw [← State.takeBack_eq hlt ht]
    rfl
  rw [State.takeBack_eq hlt ht] at raised
  obtain ⟨plain, faulted⟩ := State.failDivert_of hlt hf cause
  by_cases hfault : s.faultsAt j
  · have same := (s.backAt k j).carrier_faultLane j (k := k) (by rw [own]; exact target)
    have fault := raised.faultLane j
    rw [State.faultLane_backAt hlt hs] at fault same
    rw [faulted hfault]
    refine fault.settleFailed hl id ?_ ?_
    · rw [same, own]
      exact carrying
    · rw [same, own]
      exact armed
  · rw [plain hfault]
    exact raised.settleFailed hl id (by rw [own]; exact carrying) (by rw [own]; exact armed)

theorem State.Coheres.finishFailure {f : Failure} (h : f.state.Coheres K L R) : f.finish.Coheres K L R :=
  State.Coheres.forEach (fun _ _ _ hu => hu.postOwner _ _) (h.chooseAll _)

theorem State.isFiredAt_of_timedOutAt {k : Nat} {j : LaneNo} (h : s.timedOutAt k = some j) : (s.carrier k).isFiredAt j = true :=
  (isFiredAt_iff _ j).2 ((s.timedOutAt_some_iff k j).1 h).1

theorem State.Coheres.timeouts (h : s.Coheres noneHeld L R) (hl : ∀ d, ¬L d) : s.timeouts.1.state.Coheres noneHeld L R := by
  have keep (ks : List Nat) : ∀ acc : Failure × List FaultReport, acc.1.state.Coheres noneHeld L R →
      (ks.foldl (fun acc k =>
        match acc.1.state.timedOutAt k with
        | none => acc
        | some j =>
          let f := acc.1.state.failDivert k j .noReport
          (⟨f.state, acc.1.wants ++ f.wants, none⟩, acc.2 ++ f.report.toList)) acc).1.state.Coheres noneHeld L R := by
    induction ks with
    | nil => exact fun _ h => h
    | cons k ks ih =>
      intro acc h
      rw [List.foldl_cons]
      cases hj : acc.1.state.timedOutAt k with
      | none => exact ih acc h
      | some j => exact ih _ (h.failDivert hl (State.isFiredAt_of_timedOutAt hj) .noReport)
  exact keep s.carrierNumbers (⟨s, [], none⟩, []) h

end

end Sys2Proof.Machine

/-! SUPPORT. Firing and arming keep the agreement of the tables, and bring armed carriers within reach (R124 to R126). -/

namespace Sys2Proof.Machine

section
variable {s t : State} {K K' : Nat → Prop} {R R' : Nat → Nat → Prop} {L L' : Identity → Prop}

/-- Armed carriers at distances seen anew. -/
theorem State.Coheres.reach (h : s.Coheres K L R)
    (hr : ∀ j, ∀ k ∈ (s.diverter j).queue, ¬K k → R s.loop.commit (s.ahead j k) → R' s.loop.commit (s.ahead j k)) : s.Coheres K L R' :=
  { h with arm := ⟨fun j k hk hn => by
      obtain ⟨hs, ha, ht, ho, hd⟩ := h.arm.queued j k hk hn
      exact ⟨hs, ha, ht, ho, hr j k hk hn hd⟩, h.arm.ordered, h.arm.armed, h.arm.idle⟩ }

/-! ## Firing -/

/-- The head of a queue leaves it, being in hand. -/
theorem State.Coheres.dequeue {k : Nat} {rest : List Nat} (h : s.Coheres K L R) (j : LaneNo) (hq : (s.diverter j).queue = k :: rest)
    (hk : K k) : (s.setDiverter j { s.diverter j with queue := rest }).Coheres K L R := by
  have own : ((s.setDiverter j { s.diverter j with queue := rest }).diverter j).queue = rest := by rw [State.diverter_setDiverter]
  have other (i) (hi : i ≠ j) : (s.setDiverter j { s.diverter j with queue := rest }).diverter i = s.diverter i :=
    s.diverter_setDiverter_ne _ hi
  have sub {m} (hm : m ∈ rest) : m ∈ (s.diverter j).queue := hq ▸ List.mem_cons_of_mem _ hm
  refine { h with
    ids := ⟨h.ids.opened, h.ids.named, h.ids.once, h.ids.carried⟩
    tickets := ⟨h.tickets.unique, h.tickets.range, h.tickets.whole, h.tickets.opened, h.tickets.held, h.tickets.strayed⟩
    pend := ⟨h.pend.carriers, h.pend.tags, h.pend.waits, h.pend.listed⟩
    arm := ⟨fun i m hm hn => ?_, fun i => ?_, fun m i hn ha ht => ?_, fun hm i => ?_⟩ }
  · by_cases hi : i = j
    · rw [hi, own] at hm
      exact hi ▸ h.arm.queued j m (sub hm) hn
    · rw [other i hi] at hm
      exact h.arm.queued i m hm hn
  · by_cases hi : i = j
    · rw [hi, own]
      have := h.arm.ordered j
      rw [hq] at this
      exact (List.pairwise_cons.1 this).2
    · rw [other i hi]
      exact h.arm.ordered i
  · have hmem := h.arm.armed m i hn ha ht
    by_cases hi : i = j
    · subst hi
      rw [own]
      rw [hq] at hmem
      exact (List.mem_cons.1 hmem).resolve_left fun he => hn (he ▸ hk)
    · rw [other i hi]
      exact hmem
  · by_cases hi : i = j
    · have := h.arm.idle hm j
      rw [hq] at this
      cases this
    · rw [other i hi]
      exact h.arm.idle hm i

/-- The head of a lane's queue is in no other queue and in this one once. -/
theorem State.Coheres.head_once (h : s.Coheres noneHeld L R) {j : LaneNo} {k : Nat} {rest : List Nat}
    (hq : (s.diverter j).queue = k :: rest) : k ∉ rest ∧ ∀ i, i ≠ j → k ∉ (s.diverter i).queue := by
  have hmem : k ∈ (s.diverter j).queue := hq ▸ List.mem_cons_self
  refine ⟨fun hk => ?_, fun i hi hk => ?_⟩
  · have := h.arm.ordered j
    rw [hq] at this
    exact Nat.lt_irrefl _ ((List.pairwise_cons.1 this).1 k hk id id)
  · have hj := (h.arm.queued j k hmem id).2.2.1
    rw [(h.arm.queued i k hk id).2.2.1] at hj
    exact hi (Option.some.inj hj)

theorem State.Coheres.fireAt (h : s.Coheres noneHeld L R) (j : LaneNo) : (s.fireAt j).Coheres noneHeld L R := by
  unfold State.fireAt
  split
  · exact h
  next k rest hq =>
    split
    · dsimp only
      have hmem : k ∈ (s.diverter j).queue := hq ▸ List.mem_cons_self
      obtain ⟨hs, ha, ht, -, -⟩ := h.arm.queued j k hmem id
      obtain ⟨hrest, hother⟩ := h.head_once hq
      have he : (s.carrier k).state ≠ .empty := by simp [hs]
      have bagged := h.bagged id he
      have hlt := Carrier.lt_of_bagged bagged
      obtain ⟨-, -, -, -, hcarry, -, -⟩ := h.fields k id
      obtain ⟨hd, hi⟩ := hcarry (.inl hs)
      have frame := s.changesOnly_handOver (.fire j k)
      have queues (i) := State.diverter_eq_of_diverters (frame .diverters (by simp)) i
      have carrier (m) := State.carrier_eq_of_carriers (frame .carriers (by simp)) m
      have out := ((h.handOver (.fire j k)).take k).dequeue (k := k) (rest := rest) j (by rw [queues]; exact hq) (.inr rfl)
      have own : (((s.handOver (.fire j k)).setDiverter j { s.diverter j with queue := rest }).carrier k) = s.carrier k := carrier k
      have hlt' : k < ((s.handOver (.fire j k)).setDiverter j { s.diverter j with queue := rest }).carriers.table.length := by
        show k < (s.handOver (.fire j k)).carriers.table.length
        rw [show (s.handOver (.fire j k)).carriers = s.carriers from frame .carriers (by simp)]
        exact hlt
      have stored := State.carrier_setCarrier_same ((s.handOver (.fire j k)).setDiverter j { s.diverter j with queue := rest })
        { s.carrier k with armed := false, state := .fired } hlt'
      rw [queues] at out
      rw [own]
      refine (out.setCarrier_held (.inr rfl) (by rw [own])).putBack (k := k) ⟨?_, fun hm => ?_, ?_, ?_, fun r hr hrk => ?_, fun i hi => ?_⟩
      · rw [stored]
        refine ⟨fun he => ?_, fun _ => bagged, fun he => ?_, fun he => ?_, fun _ => ⟨hd, hi⟩, fun _ => ?_, fun he => ?_⟩
        · cases he
        · rcases he with he | he <;> cases he
        · cases he
        · rw [ht]
          simp
        · cases he
      · exact absurd ((frame .mode (by simp)).symm.trans hm) (h.mode id he)
      · rw [stored]
        simp
      · rw [stored]
      · have hr : r ∈ s.router.pendingTags := by
          rw [← show (s.handOver (.fire j k)).router = s.router from frame .router (by simp)]
          exact hr
        have := (h.pend.waits r hr id).1
        rw [hrk, hs] at this
        cases this
      · have hi : k ∈ (((s.handOver (.fire j k)).setDiverter j { s.diverter j with queue := rest }).diverter i).queue := hi
        by_cases hij : i = j
        · rw [hij, State.diverter_setDiverter] at hi
          exact hrest hi
        · rw [State.diverter_setDiverter_ne _ _ hij, queues] at hi
          exact hother i hij hi
    · exact h

theorem State.changesOnly_fireAt (s : State) (j : LaneNo) : s.changesOnly (s.fireAt j) [.orders, .diverters, .carriers] := by
  unfold State.fireAt
  split
  · exact s.changesOnly_refl _
  · split
    · exact State.changesOnly_comp (rs := [.orders, .diverters, .carriers])
        (State.changesOnly_comp (rs := [.orders, .diverters]) (s.changesOnly_handOver _) (State.changesOnly_setDiverter _ _ _) (by simp) (by simp))
        (State.changesOnly_storeCarrier _ _ _) (by simp) (by simp)
    · exact s.changesOnly_refl _

theorem State.ahead_congr (hl : t.loop = s.loop) (hj : t.lanes = s.lanes) (j : LaneNo) (k : Nat) : t.ahead j k = s.ahead j k := by
  rw [State.ahead, hl, State.lane_eq_of_lanes hj, State.ahead]

theorem State.ahead_fireAt (s : State) (i j : LaneNo) (k : Nat) : (s.fireAt i).ahead j k = s.ahead j k :=
  State.ahead_congr (s.changesOnly_fireAt i .loop (by simp)) (s.changesOnly_fireAt i .lanes (by simp)) j k

theorem State.diverter_fireAt_ne (s : State) {i j : LaneNo} (h : j ≠ i) : (s.fireAt i).diverter j = s.diverter j := by
  unfold State.fireAt
  split
  · rfl
  · split
    · rw [State.diverter_setCarrier, State.diverter_setDiverter_ne _ _ h]
      exact State.diverter_eq_of_diverters (s.changesOnly_handOver _ .diverters (by simp)) j
    · rfl

/-- After a lane has been looked at, no carrier of its queue stands at its diverter. -/
theorem State.Coheres.fireAt_ahead (h : s.Coheres noneHeld L R) (j : LaneNo) :
    ∀ m ∈ ((s.fireAt j).diverter j).queue, s.ahead j m ≠ 0 := by
  have order := h.arm.ordered j
  unfold State.fireAt
  split
  next hq =>
    rw [hq]
    simp
  next k rest hq =>
    rw [hq, List.pairwise_cons] at order
    split
    next hd =>
      intro m hm
      rw [State.diverter_setCarrier, State.diverter_setDiverter] at hm
      exact Nat.ne_of_gt (Nat.zero_lt_of_lt (order.1 m hm id id))
    next hd =>
      intro m hm
      rw [hq] at hm
      rcases List.mem_cons.1 hm with rfl | hm
      · exact hd
      · exact Nat.ne_of_gt (Nat.zero_lt_of_lt (order.1 m hm id id))

theorem State.mem_of_mem_fireAt {j : LaneNo} {m : Nat} (h : m ∈ ((s.fireAt j).diverter j).queue) : m ∈ (s.diverter j).queue := by
  unfold State.fireAt at h
  split at h
  next => exact h
  next k rest hq =>
    split at h
    · rw [State.diverter_setCarrier, State.diverter_setDiverter] at h
      exact hq ▸ List.mem_cons_of_mem _ h
    · exact h

theorem State.Coheres.fireAll (h : s.Coheres noneHeld L R) (hr : ∀ c d, d ≠ 0 → R c d → R' c d) : s.fireAll.Coheres noneHeld L R' := by
  have keep (js : List LaneNo) : ∀ u : State, u.Coheres noneHeld L R → (Machine.forEach js (fun s j => s.fireAt j) u).Coheres noneHeld L R
      ∧ (∀ j k, (Machine.forEach js (fun s j => s.fireAt j) u).ahead j k = u.ahead j k)
      ∧ (∀ j, ∀ m ∈ ((Machine.forEach js (fun s j => s.fireAt j) u).diverter j).queue, m ∈ (u.diverter j).queue)
      ∧ ∀ j ∈ js, ∀ m ∈ ((Machine.forEach js (fun s j => s.fireAt j) u).diverter j).queue, u.ahead j m ≠ 0 := by
    induction js with
    | nil => exact fun u hu => ⟨hu, fun _ _ => rfl, fun _ _ hm => hm, fun j hj => by cases hj⟩
    | cons i js ih =>
      intro u hu
      obtain ⟨coheres, ahead, sub, far⟩ := ih (u.fireAt i) (hu.fireAt i)
      refine ⟨coheres, fun j k => (ahead j k).trans (u.ahead_fireAt i j k), fun j m hm => ?_, fun j hj m hm => ?_⟩
      · have hm := sub j m hm
        by_cases hji : j = i
        · subst hji
          exact State.mem_of_mem_fireAt hm
        · rwa [u.diverter_fireAt_ne hji] at hm
      · rcases List.mem_cons.1 hj with rfl | hj
        · exact hu.fireAt_ahead j m (sub j m hm)
        · rw [← u.ahead_fireAt i j m]
          exact far j hj m hm
  obtain ⟨coheres, ahead, -, far⟩ := keep allLanes s h
  refine State.Coheres.reach (s := s.fireAll) coheres fun j k hk _ => hr _ _ ?_
  rw [show s.fireAll.ahead j k = s.ahead j k from ahead j k]
  exact far j (mem_allLanes j) k hk

/-! ## Arming -/

/-- Two carriers stand at different distances from a station (R6). -/
theorem Loop.distance_inj {p : Loop} {k m d : Nat} (hp : p.position < p.count) (hk : k < p.count) (hm : m < p.count) (hd : d < p.count)
    (h : p.distance k d = p.distance m d) : k = m := by
  rw [Loop.distance_eq hp hk hd, Loop.distance_eq hp hm hd, Loop.offsetOf_eq hp hk, Loop.offsetOf_eq hp hm] at h
  split_ifs at h <;> omega

theorem State.Coheres.armOne (h : s.Coheres noneHeld L inReach) (hm : s.mode ≠ .halted) (hp : s.loop.position < s.loop.count)
    (hc : 2 ≤ s.loop.commit) (k : Nat) : (s.armOne k).Coheres noneHeld L inReach := by
  unfold State.armOne
  split
  · exact h
  next j ht =>
    split
    next hcond =>
      rw [Bool.and_eq_true, Bool.and_eq_true, beq_iff_eq] at hcond
      obtain ⟨⟨htent, hoff⟩, hdist⟩ := hcond
      have hdist : s.ahead j k = s.loop.commit - 1 := hdist
      obtain ⟨hs, -, ha⟩ := (Carrier.isTentativeAt_iff _ j).1 htent
      have he : (s.carrier k).state ≠ .empty := by simp [hs]
      have hlt : k < s.carriers.table.length := Carrier.lt_of_bagged (h.bagged id he)
      have len : s.carriers.table.length = s.loop.count := h.counted.1
      obtain ⟨-, hname⟩ := h.unnamed (k := k) id (by simp [hs]) ha
      have ahead (m) (hq : m ∈ (s.diverter j).queue) : s.ahead j m < s.ahead j k := by
        obtain ⟨hms, -, -, ho, -, hr⟩ := h.arm.queued j m hq id
        have hmlt : m < s.carriers.table.length := s.lt_of_carrier_ne fun hx => by rw [hx] at hms; cases hms
        obtain ⟨d, hd⟩ := Option.ne_none_iff_exists'.1 ho
        have hdlt : d < s.loop.count := h.offsets.2.2 j d hd
        have hne : s.ahead j m ≠ s.ahead j k := by
          rw [State.ahead, State.ahead, hd]
          exact fun hx => hname j (Loop.distance_inj hp (len ▸ hmlt) (len ▸ hlt) hdlt hx ▸ hq)
        omega
      have other (m) (hm : m ≠ k) : (s.setCarrier k { s.carrier k with armed := true }).carrier m = s.carrier m :=
        s.carrier_setCarrier_ne _ hm
      have own := s.carrier_setCarrier_same { s.carrier k with armed := true } hlt
      have lane (i) (hi : i ≠ j) (x : Diverter) : ((s.setCarrier k { s.carrier k with armed := true }).setDiverter j x).diverter i
          = s.diverter i := State.diverter_setDiverter_ne _ x hi
      have head (x : Diverter) : ((s.setCarrier k { s.carrier k with armed := true }).setDiverter j x).diverter j = x :=
        State.diverter_setDiverter _ _ _
      have held := (h.take k).setCarrier_held (k := k) (c := { s.carrier k with armed := true }) (.inr rfl) rfl
      obtain ⟨-, hload, -, -, hcarry, -, -⟩ := h.fields k id
      obtain ⟨hdis, hid⟩ := hcarry (.inl hs)
      have out (m) (hm : m ≠ k) : ¬alsoHeld noneHeld k m := fun ho => ho.elim id hm
      refine ⟨held.counted, held.offsets, ⟨held.ids.opened, held.ids.named, held.ids.once, held.ids.carried⟩,
        ⟨held.tickets.unique, held.tickets.range, held.tickets.whole, held.tickets.opened, held.tickets.held, held.tickets.strayed⟩,
        fun m _ => ?_, fun hx => absurd hx (h.mode (k := k) id he), ⟨h.pend.carriers, h.pend.tags, fun r hr _ => ?_, fun m _ hw => ?_⟩,
        ⟨fun i m hq _ => ?_, fun i => ?_, fun m i _ hx hy => ?_, fun hx => ?_⟩⟩
      · by_cases hmk : m = k
        · subst hmk
          show Carrier.fieldsAgree ((s.setCarrier m _).carrier m)
          rw [own]
          exact Carrier.fieldsAgree_carrying hs (hload he) hdis hid fun _ => by rw [ht]; simp
        · exact held.fields m (out m hmk)
      · have hne : r.carrier ≠ k := fun hx => by
          have := (h.pend.waits r hr id).1
          rw [hx, hs] at this
          cases this
        exact held.pend.waits r hr (out _ hne)
      · have hne : m ≠ k := by
          rintro rfl
          have hw : ((s.setCarrier m { s.carrier m with armed := true }).carrier m).state = .waiting := hw
          rw [own] at hw
          exact absurd (hs.symm.trans hw) (by simp)
        exact held.pend.listed m (out m hne) hw
      · by_cases hi : i = j
        · subst hi
          rw [head] at hq
          rcases List.mem_append.1 hq with hq | hq
          · have hne : m ≠ k := fun hx => hname i (hx ▸ hq)
            exact held.arm.queued i m hq (out m hne)
          · obtain rfl := List.mem_singleton.1 hq
            show ((s.setCarrier m _).carrier m).state = _ ∧ ((s.setCarrier m _).carrier m).armed = true
              ∧ ((s.setCarrier m _).carrier m).target = _ ∧ _ ∧ inReach s.loop.commit (s.ahead i m)
            rw [own]
            refine ⟨hs, rfl, ht, fun hx => ?_, ?_, ?_⟩
            · have hx : (s.lane i).offset = none := hx
              rw [hx] at hoff
              cases hoff
            · omega
            · omega
        · rw [lane i hi] at hq
          have hne : m ≠ k := fun hx => hname i (hx ▸ hq)
          exact held.arm.queued i m hq (out m hne)
      · by_cases hi : i = j
        · subst hi
          rw [head]
          refine List.pairwise_append.2 ⟨h.arm.ordered i, List.pairwise_singleton _ _, fun a hx b hy _ _ => ?_⟩
          obtain rfl := List.mem_singleton.1 hy
          exact ahead a hx
        · rw [lane i hi]
          exact h.arm.ordered i
      · by_cases hmk : m = k
        · subst hmk
          have hy : ((s.setCarrier m { s.carrier m with armed := true }).carrier m).target = some i := hy
          rw [own] at hy
          obtain rfl := Option.some.inj (ht.symm.trans hy)
          rw [head]
          exact List.mem_append_right _ (List.mem_singleton_self _)
        · have hmem := held.arm.armed m i (out m hmk) hx hy
          by_cases hi : i = j
          · subst hi
            rw [head]
            exact List.mem_append_left _ hmem
          · rw [lane i hi]
            exact hmem
      · exact (hx.elim (h.mode (k := k) id he) hm).elim
    next => exact h

theorem State.changesOnly_armOne (s : State) (k : Nat) : s.changesOnly (s.armOne k) [.carriers, .diverters] := by
  unfold State.armOne
  split
  · exact s.changesOnly_refl _
  · split
    · exact State.changesOnly_comp (s.changesOnly_storeCarrier k _) (State.changesOnly_setDiverter _ _ _) (by simp) (by simp)
    · exact s.changesOnly_refl _

theorem State.Coheres.armAll (h : s.Coheres noneHeld L inReach) (hp : s.loop.position < s.loop.count) (hc : 2 ≤ s.loop.commit) :
    s.armAll.Coheres noneHeld L inReach := by
  unfold State.armAll
  split
  next hd =>
    have hm : s.mode ≠ .halted := fun hx => by rw [hx] at hd; cases hd
    suffices ∀ ks : List Nat, ∀ u : State, u.loop = s.loop → u.mode = s.mode → u.Coheres noneHeld L inReach →
        (Machine.forEach ks (fun s k => s.armOne k) u).Coheres noneHeld L inReach from this _ s rfl rfl h
    intro ks
    induction ks with
    | nil => exact fun u _ _ hu => hu
    | cons k ks ih =>
      intro u hloop hmode hu
      refine ih (u.armOne k) ((u.changesOnly_armOne k .loop (by simp)).trans hloop) ((u.changesOnly_armOne k .mode (by simp)).trans hmode) ?_
      exact hu.armOne (by rw [hmode]; exact hm) (by rw [hloop]; exact hp) (by rw [hloop]; exact hc) k
  next => exact h

end

end Sys2Proof.Machine

/-! SUPPORT. Reservations, changes of mode, slips and drains keep the agreement of the tables (R13 to R17, R30, R154 to R159). -/

namespace Sys2Proof.Machine

section
variable {s t : State} {K K' : Nat → Prop} {R R' : Nat → Nat → Prop} {L L' : Identity → Prop}

/-! ## Reservations -/

theorem Carrier.follows_reservation {c : Carrier} (x : Option PointNo) (hx : c.state ≠ .empty → c.reservation = none → x = none) :
    c.Follows { c with reservation := x } where
  state := rfl
  identity := rfl
  candidate := rfl
  armed := rfl
  target _ := rfl
  fields h := by
    obtain ⟨hempty, hload, hrest⟩ := h
    refine ⟨fun he => ?_, fun he => ?_, hrest⟩
    · rw [hempty he]
    · obtain ⟨hz, ho, hr⟩ := hload he
      exact ⟨hz, ho, hx he hr⟩

/-- A table with each record's reservation kept or dropped. -/
theorem State.Coheres.mapReservations (h : s.Coheres K L R) {f : Carrier → Option PointNo}
    (hf : ∀ c, f c = none ∨ f c = c.reservation) :
    (s.setCarriers { s.carriers with table := s.carriers.table.map fun c => { c with reservation := f c } }).Coheres K L R := by
  have carrier (k) : (s.setCarriers { s.carriers with table := s.carriers.table.map fun c => { c with reservation := f c } }).carrier k
      = { s.carrier k with reservation := f (s.carrier k) } := by
    have empty : f Carrier.empty = none := (hf Carrier.empty).elim id id
    unfold State.carrier
    show (s.carriers.table.map _).getD k Carrier.empty = _
    rw [List.getD_eq_getElem?_getD, List.getD_eq_getElem?_getD, List.getElem?_map]
    cases s.carriers.table[k]? with
    | none => rw [Option.map_none, Option.getD_none, empty]; rfl
    | some c => rfl
  refine h.setCarriers ?_ (fun k => by rw [carrier]) fun k _ => ?_
  · obtain ⟨hlen, hload, hun⟩ := h.counted
    refine ⟨(List.length_map _).trans hlen, hload.trans ?_, hun.trans ?_⟩
    · exact List.countP_map.symm ▸ rfl
    · exact List.countP_map.symm ▸ rfl
  · rw [carrier]
    exact Carrier.follows_reservation _ fun _ hr => (hf _).elim id fun hx => hx.trans hr

theorem State.Coheres.endReservation (h : s.Coheres K L R) (i : PointNo) : (s.endReservation i).Coheres K L R :=
  h.mapReservations (f := fun c => if c.reservation = some i then none else c.reservation) fun c => by
    split
    · exact .inl rfl
    · exact .inr rfl

theorem State.Coheres.endReservations (h : s.Coheres K L R) : s.endReservations.Coheres K L R :=
  h.mapReservations (f := fun _ => none) fun _ => .inl rfl

/-! ## The mode -/

theorem State.Coheres.setMode (h : s.Coheres K L R) {m : Mode} (hs : m = .setup → ∀ k, ¬K k → (s.carrier k).state = .empty)
    (hq : m = .setup ∨ m = .halted → ∀ j, (s.diverter j).queue = []) : (s.setMode m).Coheres K L R :=
  { h with
    ids := ⟨h.ids.opened, h.ids.named, h.ids.once, h.ids.carried⟩
    tickets := ⟨h.tickets.unique, h.tickets.range, h.tickets.whole, h.tickets.opened, h.tickets.held, h.tickets.strayed⟩
    setup := hs
    pend := ⟨h.pend.carriers, h.pend.tags, h.pend.waits, h.pend.listed⟩
    arm := ⟨h.arm.queued, h.arm.ordered, h.arm.armed, hq⟩ }

theorem State.carrier_endReservations_state (s : State) (k : Nat) : (s.endReservations.carrier k).state = (s.carrier k).state := by
  unfold State.carrier
  show ((s.carriers.table.map fun c => { c with reservation := none }).getD k Carrier.empty).state = _
  rw [List.getD_eq_getElem?_getD, List.getD_eq_getElem?_getD, List.getElem?_map]
  cases s.carriers.table[k]? <;> rfl

theorem State.Coheres.changeMode (h : s.Coheres K L R) {m : Mode} {cause : ModeCause}
    (hs : m = .setup → ∀ k, ¬K k → (s.carrier k).state = .empty)
    (hq : m = .setup ∨ m = .halted → ∀ j, (s.diverter j).queue = []) : (s.changeMode m cause).Coheres K L R := by
  unfold State.changeMode
  refine State.Coheres.postAll ?_ _
  split
  · exact h.endReservations.setMode (fun hm k hk => (s.carrier_endReservations_state k).trans (hs hm k hk)) hq
  · exact h.setMode hs hq

/-- With no carrier loaded every carrier is EMPTY and no queue holds any. -/
theorem State.Coheres.all_empty (h : s.Coheres noneHeld L R) (hl : s.carriers.loaded = 0) :
    (∀ k, (s.carrier k).state = .empty) ∧ ∀ j, (s.diverter j).queue = [] := by
  have empty (k) : (s.carrier k).state = .empty := by
    have none := h.counted.2.1.symm.trans hl
    rw [List.countP_eq_zero, State.forall_mem_table (P := fun c => ¬c.isLoaded = true) (by simp [Carrier.isLoaded, Carrier.empty])] at none
    simpa [Carrier.isLoaded] using none k
  refine ⟨empty, fun j => List.eq_nil_iff_forall_not_mem.2 fun k hk => ?_⟩
  have := (h.arm.queued j k hk id).1
  rw [empty k] at this
  cases this

theorem State.Coheres.testDrain (h : s.Coheres noneHeld L R) : s.testDrain.Coheres noneHeld L R := by
  unfold State.testDrain
  split
  next hc =>
    rw [Bool.and_eq_true, beq_iff_eq, beq_iff_eq] at hc
    obtain ⟨empty, queue⟩ := h.all_empty hc.2
    exact h.changeMode (fun _ k _ => empty k) fun _ => queue
  next => exact h

/-! ## The loop's position -/

/-- The loop moved: its length stays, and the queues stay in order at distances that suffice. -/
theorem State.Coheres.setLoop (h : s.Coheres K L R) {p : Loop} (hc : p.count = s.loop.count)
    (hr : ∀ j, ∀ k ∈ (s.diverter j).queue, ¬K k → R s.loop.commit (s.ahead j k) → R' p.commit ((s.setLoop p).ahead j k))
    (ho : ∀ j, ∀ a ∈ (s.diverter j).queue, ∀ b ∈ (s.diverter j).queue, ¬K a → ¬K b → s.ahead j a < s.ahead j b →
      (s.setLoop p).ahead j a < (s.setLoop p).ahead j b) : (s.setLoop p).Coheres K L R' := by
  obtain ⟨hlen, hcounts⟩ := h.counted
  refine { h with
    counted := ⟨hlen.trans hc.symm, hcounts⟩
    offsets := State.offsetsInRange_congr h.offsets hc (fun _ => rfl) (fun _ => rfl) fun _ => rfl
    ids := ⟨h.ids.opened, h.ids.named, h.ids.once, h.ids.carried⟩
    tickets := ⟨h.tickets.unique, h.tickets.range, h.tickets.whole, h.tickets.opened, h.tickets.held, h.tickets.strayed⟩
    pend := ⟨h.pend.carriers, h.pend.tags, h.pend.waits, h.pend.listed⟩
    arm := ⟨fun j k hk hn => ?_, fun j => ?_, h.arm.armed, h.arm.idle⟩ }
  · obtain ⟨hs, ha, ht, hoff, hd⟩ := h.arm.queued j k hk hn
    exact ⟨hs, ha, ht, hoff, hr j k hk hn hd⟩
  · exact (List.Pairwise.and_mem.1 (h.arm.ordered j)).imp fun ⟨ha, hb, hlt⟩ hna hnb => ho j _ ha _ hb hna hnb (hlt hna hnb)

/-! ## The loss of track -/

/-- Every carrier is in hand. -/
def allHeld : Nat → Prop := fun _ => True

theorem State.Coheres.unverify (h : s.Coheres K L R) (hl : ∀ d, ¬L d) {k : Nat} (hk : K k) : (s.unverify k).Coheres K L R := by
  have dropped : (s.dropTarget k).Coheres K L R := h.dropTarget fun hn => absurd hk hn
  exact (dropped.dropIdentity (st := .expected) hk (by simp) fun d _ => hl d).setCarrier_held hk (by rfl)

theorem State.Coheres.emptyQueues (h : s.Coheres allHeld L R) : s.emptyQueues.Coheres allHeld L R :=
  State.Coheres.forEach (fun _ j _ hu => hu.emptyQueue j fun _ _ => trivial) h

theorem State.Coheres.emptyPendingTags (h : s.Coheres allHeld L R) : s.emptyPendingTags.Coheres allHeld L R := by
  have := h.keepPending (K' := allHeld) (fun _ => false) (fun _ _ _ => trivial) fun _ => id
  rw [List.filter_false] at this
  exact this

theorem State.Alike.abandonWindows (s : State) : s.Alike s.abandonWindows :=
  .forEach _ _ _ fun u n _ => .setStation u n rfl

theorem Carrier.fieldsAgree_lost {c : Carrier} (h : c.fieldsAgree) : c.lost.fieldsAgree := by
  unfold Carrier.lost
  split
  · exact h
  next hs =>
    obtain ⟨-, hload, -⟩ := h
    have hb := hload fun he => hs (.inl he)
    refine ⟨fun he => ?_, fun _ => hb, fun _ => ⟨rfl, rfl, rfl, rfl⟩, fun he => ?_, fun he => ?_, fun he => ?_, fun he => ?_⟩
    all_goals simp at he

theorem Carrier.lost_settled {c : Carrier} (h : c.fieldsAgree) : c.lost.state ≠ .waiting ∧ c.lost.armed = false
    ∧ (c.state = .empty → c.lost.state = .empty) := by
  obtain ⟨-, -, -, -, -, -, harm⟩ := h
  unfold Carrier.lost
  split
  next hs =>
    refine ⟨fun hw => ?_, ?_, id⟩
    · rcases hs with hs | hs <;> simp [hw] at hs
    · cases ha : c.armed with
      | false => rfl
      | true => rcases hs with hs | hs <;> simp [(harm ha).1] at hs
  next hs => exact ⟨by simp, rfl, fun he => absurd (.inl he) hs⟩

/-- What a loss of track leaves, once no queue and no pending record names a carrier. -/
theorem State.Coheres.settleLost (ht : t.Coheres allHeld L R) (hf : ∀ k, (s.carrier k).fieldsAgree)
    (hs : s.mode = .setup → ∀ k, (s.carrier k).state = .empty) (hc : ∀ k, t.carrier k = (s.carrier k).lost) (hm : t.mode = s.mode) (hp : t.router.pendingTags = [])
    (hq : ∀ j, (t.diverter j).queue = []) : t.Coheres noneHeld L R' := by
  have ht' : t.Coheres allHeld L R' := { ht with arm := ⟨fun _ _ _ hn => absurd trivial hn, ht.arm.ordered, ht.arm.armed, ht.arm.idle⟩ }
  refine ht'.release fun k _ _ => ?_
  obtain ⟨hw, ha, he⟩ := Carrier.lost_settled (hf k)
  refine ⟨?_, fun hmode => ?_, ?_, ?_, fun r hr => ?_, fun j hj => ?_⟩
  · rw [hc]
    exact Carrier.fieldsAgree_lost (hf k)
  · rw [hc]
    exact he (hs (hm.symm.trans hmode) k)
  · rw [hc]
    exact hw
  · rw [hc]
    exact ha
  · rw [hp] at hr
    cases hr
  · rw [hq] at hj
    cases hj

theorem State.Coheres.unverifyAll (h : s.Coheres allHeld L R) (hl : ∀ d, ¬L d) : s.unverifyAll.Coheres allHeld L R :=
  h.forEach fun _ _ _ hu => hu.unverify hl trivial

/-- A state in which nothing is armed, pending or read (R14, R15). -/
def State.cleared (s : State) : State := s.emptyQueues.emptyPendingTags.abandonWindows

theorem State.cleared_spec (s : State) : s.changesOnly s.cleared [.diverters, .router, .stations]
    ∧ s.cleared.router.pendingTags = [] ∧ ∀ j, (s.cleared.diverter j).queue = [] := by
  have queues := s.changesOnly_emptyQueues
  have tags : s.emptyQueues.changesOnly s.emptyQueues.emptyPendingTags [.router] := State.changesOnly_setRouter _ _
  have windows := s.emptyQueues.emptyPendingTags.changesOnly_abandonWindows
  have router : s.cleared.router = s.emptyQueues.emptyPendingTags.router := windows .router (by simp)
  have diverters : s.cleared.diverters = s.emptyQueues.diverters := (windows .diverters (by simp)).trans (tags .diverters (by simp))
  refine ⟨State.changesOnly_comp (ps := [.diverters, .router]) (State.changesOnly_comp queues tags (by simp) (by simp)) windows
    (by simp) (by simp), ?_, fun j => ?_⟩
  · rw [router]
    rfl
  · rw [State.diverter_eq_of_diverters diverters, State.diverter_emptyQueues]

theorem State.loseTrack_eq (s : State) : s.loseTrack = s.unverifyAll.cleared.testAllClosing := rfl

theorem State.Coheres.loseTrack (h : s.Coheres allHeld L R) (hl : ∀ d, ¬L d) (hf : ∀ k, (s.carrier k).fieldsAgree)
    (hs : s.mode = .setup → ∀ k, (s.carrier k).state = .empty) : s.loseTrack.Coheres noneHeld L R' := by
  obtain ⟨frame, -, each, -, -⟩ := s.unverifyAll_spec
  obtain ⟨rest, tags, queue⟩ := s.unverifyAll.cleared_spec
  have gone : s.unverifyAll.cleared.Coheres allHeld L R :=
    (h.unverifyAll hl).emptyQueues.emptyPendingTags.of_alike (.abandonWindows _)
  rw [State.loseTrack_eq]
  exact State.Coheres.testAllClosing (gone.settleLost hf hs
    (fun k => (State.carrier_eq_of_carriers (rest .carriers (by simp)) k).trans (each k))
    ((rest .mode (by simp)).trans (frame .mode (by simp))) tags queue)

theorem State.queue_loseTrack (s : State) (j : LaneNo) : (s.loseTrack.diverter j).queue = [] := by
  have tested : s.unverifyAll.cleared.changesOnly s.unverifyAll.cleared.testAllClosing [.berths, .coding, .lanes, .principals] :=
    State.changesOnly_comp (State.changesOnly_testClosing _ .one) (State.changesOnly_testClosing _ .two) (by simp) (by simp)
  rw [State.loseTrack_eq, State.diverter_eq_of_diverters (tested .diverters (by simp))]
  exact s.unverifyAll.cleared_spec.2.2 j

theorem State.Coheres.slip (h : s.Coheres noneHeld L R) (hl : ∀ d, ¬L d) : s.slip.Coheres noneHeld L R' := by
  have moved : (s.setLoop { s.loop.atHome with slips := raiseTo 255 s.loop.slips 1 }).Coheres allHeld L R :=
    (h.mono fun _ hk => hk.elim).setLoop (by rfl) (fun _ _ _ hn => absurd trivial hn) fun _ _ _ _ _ hn => absurd trivial hn
  have lost := (moved.loseTrack (R' := R') hl (fun k => h.fields k id) fun hm k => h.setup hm k id).post .hall s.slipNotice
  have queue (j) : (((s.setLoop { s.loop.atHome with slips := raiseTo 255 s.loop.slips 1 }).loseTrack.post .hall s.slipNotice).diverter j).queue
      = [] := by
    rw [State.diverter_eq_of_diverters (State.changesOnly_post _ _ _ .diverters (by simp))]
    exact State.queue_loseTrack _ j
  unfold State.slip
  dsimp only
  split
  · unfold State.halt
    split
    · exact lost.changeMode (fun hm => by cases hm) fun _ => queue
    · exact lost
  · exact lost

theorem State.Coheres.exitHalted (h : s.Coheres noneHeld L R) (hl : ∀ d, ¬L d) (hm : s.mode = .halted) :
    s.exitHalted.Coheres noneHeld L R := by
  obtain ⟨frame, -, each, -, -⟩ := s.unverifyAll_spec
  have all : s.Coheres allHeld L R := h.mono fun _ hk => hk.elim
  have gone := (all.unverifyAll hl).emptyPendingTags
  refine State.Coheres.changeMode (State.Coheres.testAllClosing (gone.settleLost (fun k => h.fields k id) (fun hm k => h.setup hm k id) each
    (frame .mode (by simp)) rfl fun j => ?_)) (fun hx => by cases hx) fun hx => by rcases hx with hx | hx <;> cases hx
  show (s.unverifyAll.diverter j).queue = []
  rw [State.diverter_eq_of_diverters (frame .diverters (by simp))]
  exact h.arm.idle (.inr hm) j

end

end Sys2Proof.Machine

/-! SUPPORT. Records of the stray list and the reinject list, and the tickets of entries, keep their agreement (R63, R136 to R148). -/

namespace Sys2Proof.Machine

section
variable {s t : State} {K K' : Nat → Prop} {R R' : Nat → Nat → Prop} {L L' : Identity → Prop}

/-- The reference of a record that names an entry. -/
def Identity.reference (d : Identity) (n : Nat) : Reference := (n, some d.berth, some d.entry)

/-- The record of one ticket is taken away, made or replaced, and so is that ticket on entries. -/
theorem State.TicketsHeld.revised (h : s.TicketsHeld) {n : Nat} {new : List Reference}
    (unique : (t.coding.references.map (·.1)).Nodup)
    (mem : ∀ x, x ∈ t.coding.references ↔ (x ∈ s.coding.references ∧ x.1 ≠ n) ∨ x ∈ new)
    (hnew : ∀ x ∈ new, x.1 = n ∧ 1 ≤ n ∧ n ≤ 4095 ∧ (x.2.2 ≠ none → x.2.1 ≠ none) ∧ ∀ b ∈ x.2.1, t.opens b)
    (holds : ∀ d m, t.holds d m ↔ (s.holds d m ∧ m ≠ n) ∨ (m = n ∧ d.reference n ∈ new))
    (ho : ∀ b, s.opens b → t.opens b) (strayed : ∀ d e, t.entryOf d = some e → e.ticket ≠ none → e.state = .strayed) :
    t.TicketsHeld := by
  refine ⟨unique, fun r hr => ?_, fun r hr => ?_, fun r hr b hb => ?_, fun m d => ?_, strayed⟩
  · rcases (mem r).1 hr with ⟨hr, -⟩ | hr
    · exact h.range r hr
    · obtain ⟨rfl, h1, h2, -⟩ := hnew r hr
      exact ⟨h1, h2⟩
  · rcases (mem r).1 hr with ⟨hr, -⟩ | hr
    · exact h.whole r hr
    · obtain ⟨-, -, -, h3, -⟩ := hnew r hr
      exact h3
  · rcases (mem r).1 hr with ⟨hr, -⟩ | hr
    · exact ho b (h.opened r hr b hb)
    · obtain ⟨-, -, -, -, h4⟩ := hnew r hr
      exact h4 b hb
  · rw [mem, holds]
    refine or_congr (and_congr (h.held m d) Iff.rfl) ⟨fun hx => ?_, fun ⟨he, hx⟩ => he ▸ hx⟩
    have : m = n := (hnew _ hx).1
    exact ⟨this, this ▸ hx⟩

/-- A record holds its ticket alone. -/
theorem State.TicketsHeld.eq_of_ticket (h : s.TicketsHeld) {x y : Reference} (hx : x ∈ s.coding.references)
    (hy : y ∈ s.coding.references) (he : x.1 = y.1) : x = y :=
  List.inj_on_of_nodup_map h.unique hx hy he

theorem Coding.mem_references {c : Coding} {x : Reference} : x ∈ c.references ↔
    (∃ r ∈ c.strays, (r.ticket, r.berth, r.entry) = x) ∨ ∃ r ∈ c.reinject, (r.ticket, r.berth, r.entry) = x := by
  simp [Coding.references]

theorem Coding.tickets_references (c : Coding) :
    c.references.map (·.1) = c.strays.map (·.ticket) ++ c.reinject.map (·.ticket) := by
  simp [Coding.references, Function.comp_def]

theorem Coding.mem_of_stray {c : Coding} {r : StrayRecord} (h : r ∈ c.strays) : (r.ticket, r.berth, r.entry) ∈ c.references :=
  Coding.mem_references.2 (.inl ⟨r, h, rfl⟩)

theorem Coding.mem_of_reinject {c : Coding} {r : ReinjectRecord} (h : r ∈ c.reinject) :
    (r.ticket, r.berth, r.entry) ∈ c.references :=
  Coding.mem_references.2 (.inr ⟨r, h, rfl⟩)

/-! ## Records leave -/

/-- The lists without the records of a ticket. -/
theorem State.TicketsHeld.filter_strays (h : s.TicketsHeld) {r : StrayRecord} (hr : r ∈ s.coding.strays)
    {c : Coding} (hs : c.strays = s.coding.strays.filter (·.ticket != r.ticket)) (hj : c.reinject = s.coding.reinject) :
    (c.references.map (·.1)).Nodup ∧ r.ticket ∉ c.references.map (·.1)
      ∧ ∀ x, x ∈ c.references ↔ x ∈ s.coding.references ∧ x.1 ≠ r.ticket := by
  have mem (x) : x ∈ c.references ↔ x ∈ s.coding.references ∧ x.1 ≠ r.ticket := by
    rw [Coding.mem_references, Coding.mem_references, hs, hj]
    constructor
    · rintro (⟨q, hq, rfl⟩ | ⟨q, hq, rfl⟩)
      · rw [List.mem_filter] at hq
        exact ⟨.inl ⟨q, hq.1, rfl⟩, by simpa using hq.2⟩
      · refine ⟨.inr ⟨q, hq, rfl⟩, fun he => ?_⟩
        have distinct := h.unique
        rw [Coding.tickets_references, List.nodup_append] at distinct
        exact distinct.2.2 _ (List.mem_map_of_mem hr) _ (List.mem_map_of_mem hq) he.symm
    · rintro ⟨⟨q, hq, rfl⟩ | ⟨q, hq, rfl⟩, hne⟩
      · exact .inl ⟨q, List.mem_filter.2 ⟨hq, by simpa using hne⟩, rfl⟩
      · exact .inr ⟨q, hq, rfl⟩
  refine ⟨?_, fun hm => ?_, mem⟩
  · rw [Coding.tickets_references, hs, hj]
    have distinct := h.unique
    rw [Coding.tickets_references] at distinct
    exact distinct.sublist ((List.filter_sublist.map _).append (List.Sublist.refl _))
  · obtain ⟨x, hx, he⟩ := List.mem_map.1 hm
    exact ((mem x).1 hx).2 he

theorem State.TicketsHeld.filter_reinject (h : s.TicketsHeld) {r : ReinjectRecord} (hr : r ∈ s.coding.reinject)
    {c : Coding} (hs : c.reinject = s.coding.reinject.filter (·.ticket != r.ticket)) (hj : c.strays = s.coding.strays) :
    (c.references.map (·.1)).Nodup ∧ ∀ x, x ∈ c.references ↔ x ∈ s.coding.references ∧ x.1 ≠ r.ticket := by
  refine ⟨?_, fun x => ?_⟩
  · rw [Coding.tickets_references, hs, hj]
    have distinct := h.unique
    rw [Coding.tickets_references] at distinct
    exact distinct.sublist ((List.Sublist.refl _).append (List.filter_sublist.map _))
  · rw [Coding.mem_references, Coding.mem_references, hs, hj]
    constructor
    · rintro (⟨q, hq, rfl⟩ | ⟨q, hq, rfl⟩)
      · refine ⟨.inl ⟨q, hq, rfl⟩, fun he => ?_⟩
        have distinct := h.unique
        rw [Coding.tickets_references, List.nodup_append] at distinct
        exact distinct.2.2 _ (List.mem_map_of_mem hq) _ (List.mem_map_of_mem hr) he
      · rw [List.mem_filter] at hq
        exact ⟨.inr ⟨q, hq.1, rfl⟩, by simpa using hq.2⟩
    · rintro ⟨⟨q, hq, rfl⟩ | ⟨q, hq, rfl⟩, hne⟩
      · exact .inl ⟨q, hq, rfl⟩
      · exact .inr ⟨q, List.mem_filter.2 ⟨hq, by simpa using hne⟩, rfl⟩

/-! ## A record consumed -/

/-- The entry that a record names holds its ticket, and no other does. -/
theorem State.TicketsHeld.holds_iff (h : s.TicketsHeld) {n : Nat} {b : Option BerthId} {i : Option Nat}
    (hr : (n, b, i) ∈ s.coding.references) (d : Identity) : s.holds d n ↔ b = some d.berth ∧ i = some d.entry := by
  rw [← h.held n d]
  constructor
  · intro hx
    have := h.eq_of_ticket hx hr rfl
    rw [Prod.mk.injEq, Prod.mk.injEq] at this
    exact ⟨this.2.1.symm, this.2.2.symm⟩
  · rintro ⟨rfl, rfl⟩
    exact hr

theorem State.berth_state_dropEntryTicket (s : State) (b : BerthId) (i : Nat) (c : BerthId) :
    ((s.dropEntryTicket b i).berth c).state = (s.berth c).state := by
  unfold State.dropEntryTicket
  by_cases hb : c = b
  · rw [hb, State.berth_setBerth]
    rfl
  · rw [State.berth_setBerth_ne s _ hb]

theorem State.rides_dropEntryTicket (s : State) (o d : Identity) : (s.dropEntryTicket o.berth o.entry).rides d ↔ s.rides d := by
  rw [State.rides, State.entryOf_dropEntryTicket, State.rides]
  split
  · constructor
    · rintro ⟨e, he, hs⟩
      obtain ⟨x, hx, rfl⟩ := Option.map_eq_some_iff.1 he
      exact ⟨x, hx, hs⟩
    · rintro ⟨e, he, hs⟩
      exact ⟨{ e with ticket := none }, by rw [he]; rfl, hs⟩
  · rfl

theorem State.entryOf_unticket (s : State) (o : Identity) {d : Identity} {e : Entry}
    (h : (s.dropEntryTicket o.berth o.entry).entryOf d = some e) :
    ∃ x, s.entryOf d = some x ∧ e.state = x.state ∧ e.ticket = if d = o then none else x.ticket := by
  rw [State.entryOf_dropEntryTicket] at h
  split at h
  next hd =>
    obtain ⟨x, hx, rfl⟩ := Option.map_eq_some_iff.1 h
    exact ⟨x, hx, rfl, (if_pos hd).symm⟩
  next hd => exact ⟨e, h, rfl, (if_neg hd).symm⟩

theorem State.holds_dropEntryTicket (s : State) (o d : Identity) (m : Nat) :
    (s.dropEntryTicket o.berth o.entry).holds d m ↔ d ≠ o ∧ s.holds d m := by
  constructor
  · rintro ⟨e, he, ht⟩
    obtain ⟨x, hx, -, hxt⟩ := s.entryOf_unticket o he
    rw [ht] at hxt
    split at hxt
    · cases hxt
    next hd => exact ⟨hd, x, hx, hxt.symm⟩
  · rintro ⟨hd, e, he, ht⟩
    exact ⟨e, by rw [State.entryOf_dropEntryTicket, if_neg hd, he], ht⟩

theorem State.holds_unique {d : Identity} {n m : Nat} (h : s.holds d n) (h' : s.holds d m) : n = m := by
  obtain ⟨e, he, hn⟩ := h
  obtain ⟨x, hx, hm⟩ := h'
  obtain rfl := Option.some.inj (he.symm.trans hx)
  exact Option.some.inj (hn.symm.trans hm)

/-- Manifests and lists change, entries keep their places on the loop and berths their states. -/
theorem State.Coheres.relisted (h : s.Coheres K L R) {ps : List Part} (ht : s.changesOnly t ps) (hps : ∀ p ∈ ps, p ∈ manifestParts)
    (hr : ∀ d, t.rides d ↔ s.rides d) (hb : ∀ b, (t.berth b).state = (s.berth b).state) (tickets : t.TicketsHeld) :
    t.Coheres K L R :=
  h.retold ht hps (fun d _ => hr d) (fun d hd => by rw [State.opens, hb]; exact h.ids.opened d ((hr d).1 hd)) tickets
    fun r _ _ c hc => (hb r.berth).trans hc

/-- The state without a record of the reinject list, its entry's ticket gone with it (R147). -/
theorem State.Coheres.consume (h : s.Coheres K L R) {r : ReinjectRecord} (hr : r ∈ s.coding.reinject) :
    (s.consume r).Coheres K L R ∧ (∀ d, (s.consume r).rides d ↔ s.rides d)
      ∧ (∀ b, ((s.consume r).berth b).state = (s.berth b).state) ∧ ∀ d, ¬(s.consume r).holds d r.ticket := by
  have frame : s.changesOnly (s.setCoding (s.coding.without r.ticket)) [.coding] := s.changesOnly_setCoding _
  obtain ⟨unique, mem⟩ := h.tickets.filter_reinject hr (c := s.coding.without r.ticket) rfl rfl
  have named := h.tickets.holds_iff (Coding.mem_of_reinject hr)
  by_cases hn : r.berth = none ∨ r.entry = none
  · have free (d) : ¬s.holds d r.ticket := fun hx => by
      obtain ⟨hb, he⟩ := (named d).1 hx
      rcases hn with hn | hn
      · rw [hn] at hb
        cases hb
      · rw [hn] at he
        cases he
    rw [State.consume_unnamed hn]
    refine ⟨h.relisted frame (by simp [manifestParts]) (fun _ => Iff.rfl) (fun _ => rfl)
      (h.tickets.revised (n := r.ticket) (new := []) unique (fun x => (mem x).trans (by simp))
        (by simp) (fun d m => ?_) (fun _ => id) h.tickets.strayed), fun _ => Iff.rfl, fun _ => rfl, free⟩
    constructor
    · exact fun hx => .inl ⟨hx, fun hm => free d (hm ▸ hx)⟩
    · rintro (⟨hx, -⟩ | ⟨-, hx⟩)
      · exact hx
      · cases hx
  · rw [not_or] at hn
    obtain ⟨b, hb⟩ := Option.ne_none_iff_exists'.1 hn.1
    obtain ⟨i, hi⟩ := Option.ne_none_iff_exists'.1 hn.2
    have rides (d) := (s.setCoding (s.coding.without r.ticket)).rides_dropEntryTicket ⟨b, i⟩ d
    have states (c) := (s.setCoding (s.coding.without r.ticket)).berth_state_dropEntryTicket b i c
    have holds (d m) := (s.setCoding (s.coding.without r.ticket)).holds_dropEntryTicket ⟨b, i⟩ d m
    have own : s.holds ⟨b, i⟩ r.ticket := (named _).2 ⟨hb, hi⟩
    have coding : ((s.setCoding (s.coding.without r.ticket)).dropEntryTicket b i).coding = s.coding.without r.ticket :=
      (State.changesOnly_setBerth _ _ _ .coding (by simp))
    have only (d) (hx : s.holds d r.ticket) : d = ⟨b, i⟩ := by
      obtain ⟨hdb, hdi⟩ := (named d).1 hx
      rw [hb, Option.some.injEq] at hdb
      rw [hi, Option.some.injEq] at hdi
      rw [hdb, hdi]
    have same : s.consume r = (s.setCoding (s.coding.without r.ticket)).dropEntryTicket b i := State.consume_named hb hi
    rw [same]
    refine ⟨h.relisted (State.changesOnly_comp (rs := [.coding, .berths]) frame (State.changesOnly_setBerth _ b _) (by simp) (by simp))
      (by simp [manifestParts]) rides states (h.tickets.revised (n := r.ticket) (new := []) (by rw [coding]; exact unique)
        (fun x => by rw [coding, mem]; simp) (by simp) (fun d m => ?_) (fun c hc => ?_) fun d e he hne => ?_), rides, states, fun d hx => ?_⟩
    · refine (holds d m).trans ⟨fun ⟨hd, hx⟩ => .inl ⟨hx, fun hm => hd (only d (hm ▸ hx))⟩, ?_⟩
      rintro (⟨hx, hm⟩ | ⟨-, hx⟩)
      · exact ⟨fun hd => hm (State.holds_unique (hd ▸ hx) own), hx⟩
      · cases hx
    · rw [State.opens, states]
      exact hc
    · obtain ⟨x, hx, hs, ht⟩ := State.entryOf_unticket _ ⟨b, i⟩ he
      rw [hs]
      refine h.tickets.strayed d x hx fun hn => hne ?_
      rw [ht, hn, ite_self]
    · obtain ⟨hd, hx⟩ := (holds d r.ticket).1 hx
      exact hd (only d hx)

end

end Sys2Proof.Machine

/-! SUPPORT. Grants, waits and reservations keep the agreement of the tables (R25 to R30, R147). -/

namespace Sys2Proof.Machine

section
variable {s t : State} {K K' : Nat → Prop} {R R' : Nat → Nat → Prop} {L L' : Identity → Prop}

/-! ## Loaded carriers -/

theorem State.Coheres.ready_empty (h : s.Coheres noneHeld L R) {k : Nat} (hs : (s.carrier k).state = .empty) :
    s.unnamed k ∧ (s.carrier k).identity = none := by
  obtain ⟨hempty, -⟩ := h.fields k id
  refine ⟨h.unnamed id (by simp [hs]) (h.unarmed id (by simp [hs])), ?_⟩
  rw [hempty hs]
  rfl

/-- An EMPTY carrier takes a bag that is to be read. -/
theorem State.Coheres.load (h : s.Coheres noneHeld L R) {k : Nat} (hk : k < s.carriers.table.length)
    (hs : (s.carrier k).state = .empty) (hm : s.mode ≠ .setup) (i : PointNo) (w : Waiting) (n : Option Nat) :
    (s.setCarrier k (loadedCarrier i w n)).Coheres noneHeld L R := by
  obtain ⟨unnamed, hid⟩ := h.ready_empty hs
  have own := s.carrier_setCarrier_same (loadedCarrier i w n) hk
  refine ((h.take k).setCarrier_held (k := k) (.inr rfl) hid.symm).putBack ⟨?_, fun hx => absurd hx hm, ?_, ?_, unnamed⟩
  · rw [own]
    refine ⟨fun he => ?_, fun _ => ⟨by simp [loadedCarrier], by simp [loadedCarrier], rfl⟩, fun _ => ⟨rfl, rfl, rfl, rfl⟩, fun he => ?_,
      fun he => ?_, fun he => ?_, fun he => ?_⟩
    all_goals simp [loadedCarrier, Carrier.empty] at he
  · rw [own]
    simp [loadedCarrier]
  · rw [own]
    rfl

/-- An EMPTY carrier takes a bag that the coding station has given its entry. -/
theorem State.Coheres.grantCoded (h : s.Coheres noneHeld L R) (hl : ∀ d, ¬L d) {k : Nat} (hk : k < s.carriers.table.length)
    (hs : (s.carrier k).state = .empty) (hm : s.mode ≠ .setup) (i : PointNo) (w : Waiting) {d : Identity} {e : Entry}
    (he : s.entryOf d = some e) (hst : e.state ≠ .onLoop) (ht : e.ticket = none) (ho : s.opens d.berth) :
    (s.grantCoded i k w d).Coheres noneHeld L R := by
  obtain ⟨unnamed, hid⟩ := h.ready_empty hs
  have own := s.carrier_setCarrier_same { loadedCarrier i w none with state := .carrying } hk
  refine ((h.take k).setCarrier_held (k := k) (.inr rfl) hid.symm).matchEntry ⟨hm, ?_, ?_, unnamed⟩ ?_ (hl d) he hst ht ho
  · rw [own]
    exact ⟨by simp [loadedCarrier], by simp [loadedCarrier], rfl⟩
  · rw [own]
    exact fun _ => rfl
  · rw [own]
    rfl

theorem State.codedIdentity_spec {r : ReinjectRecord} {d : Identity} (h : s.codedIdentity r = some d) :
    r.berth = some d.berth ∧ r.entry = some d.entry ∧ (s.berth d.berth).state.isBound = true
      ∧ ∃ e, s.entryOf d = some e ∧ e.state = .strayed := by
  unfold State.codedIdentity at h
  split at h
  next b i _ hb hi =>
    split at h
    · cases h
    next e he =>
      split at h
      next hc =>
        obtain rfl := Option.some.inj h
        exact ⟨hb, hi, hc.1, e, he, hc.2.1⟩
      · cases h
  next => cases h

theorem State.Coheres.grantTicketed (h : s.Coheres noneHeld L R) (hl : ∀ d, ¬L d) {k : Nat} (hk : k < s.carriers.table.length)
    (hs : (s.carrier k).state = .empty) (hm : s.mode ≠ .setup) (i : PointNo) (w : Waiting) (n : Nat) :
    (s.grantTicketed i k w n).1.Coheres noneHeld L R := by
  unfold State.grantTicketed
  split
  · exact h.load hk hs hm i w none
  next r hr =>
    have hmem : r ∈ s.coding.reinject := List.mem_of_find?_eq_some hr
    obtain ⟨consumed, -, states, free⟩ := h.consume hmem
    have frame := s.changesOnly_consume r
    have carriers : (s.consume r).carriers = s.carriers := frame .carriers (by simp)
    have hk' : k < (s.consume r).carriers.table.length := carriers ▸ hk
    have hs' : ((s.consume r).carrier k).state = .empty := by rw [State.carrier_eq_of_carriers carriers]; exact hs
    have hm' : (s.consume r).mode ≠ .setup := fun hx => hm ((frame .mode (by simp)).symm.trans hx)
    split
    · exact consumed.load hk' hs' hm' i w _
    next d hd =>
      obtain ⟨hb, hi, hbound, e, he, hst⟩ := State.codedIdentity_spec hd
      have same : s.consume r = (s.setCoding (s.coding.without r.ticket)).dropEntryTicket d.berth d.entry := State.consume_named hb hi
      have entry : (s.consume r).entryOf d = some { e with ticket := none } := by
        rw [same, State.entryOf_dropEntryTicket, if_pos rfl, show (s.setCoding (s.coding.without r.ticket)).entryOf d = some e from he]
        rfl
      refine consumed.grantCoded hl hk' hs' hm' i w entry (by simp [hst]) rfl ?_
      rw [State.opens, states]
      exact BerthState.isOpen_of_isBound hbound

theorem State.Coheres.loadBag (h : s.Coheres noneHeld L R) (hl : ∀ d, ¬L d) {k : Nat} (hk : k < s.carriers.table.length)
    (hs : (s.carrier k).state = .empty) (hm : s.mode ≠ .setup) (i : PointNo) (w : Waiting) :
    (s.loadBag i k w).1.Coheres noneHeld L R := by
  unfold State.loadBag
  split
  · exact h.grantTicketed hl hk hs hm i w _
  · exact h.load hk hs hm i w none

/-! ## Points -/

theorem State.Coheres.setPoint (h : s.Coheres K L R) (i : PointNo) {x : Point} (hx : x.offset = (s.point i).offset) :
    (s.setPoint i x).Coheres K L R := h.of_alike (.setPoint s i hx)

theorem State.Coheres.removeWaiting (h : s.Coheres K L R) (i : PointNo) : (s.removeWaiting i).Coheres K L R := h.setPoint i rfl

theorem State.Coheres.grant (h : s.Coheres noneHeld L R) (hl : ∀ d, ¬L d) {i : PointNo} {k : Nat} (hg : s.grants i k = true)
    (hk : k < s.carriers.table.length) (w : Waiting) : (s.grant i k w).1.Coheres noneHeld L R := by
  have given : (s.gaveUp i k).Coheres noneHeld L R := ((h.handOver _).endReservation i).removeWaiting i
  obtain ⟨hm, -, hs, -⟩ := (s.grants_iff i k).1 hg
  have hk' : k < (s.gaveUp i k).carriers.table.length := by
    rw [State.carriers_gaveUp, List.length_map]
    exact hk
  have hs' : ((s.gaveUp i k).carrier k).state = .empty := by rw [State.carrier_gaveUp]; exact hs
  have hm' : (s.gaveUp i k).mode ≠ .setup := by
    rw [show (s.gaveUp i k).mode = s.mode from s.changesOnly_gaveUp i k .mode (by simp), hm]
    simp
  exact given.loadBag hl hk' hs' hm' i w

theorem State.reservable_empty {d k : Nat} (h : s.reservable d = some k) : (s.carrier k).state = .empty := by
  have keep (ks : List Nat) : ∀ best : Option Nat, (∀ b, best = some b → (s.carrier b).state = .empty) →
      ∀ b, ks.foldl (s.nearerEmpty d) best = some b → (s.carrier b).state = .empty := by
    induction ks with
    | nil => exact fun _ hb => hb
    | cons m ks ih =>
      refine fun best hb => ih _ fun b he => ?_
      unfold State.nearerEmpty at he
      split at he
      next hc =>
        have hm : (s.carrier m).state = .empty := by
          rw [Bool.and_eq_true, Bool.and_eq_true, beq_iff_eq] at hc
          exact hc.1.1
        split at he
        · exact (Option.some.inj he) ▸ hm
        next c =>
          split at he
          · exact (Option.some.inj he) ▸ hm
          · exact hb b he
      next => exact hb b he
  exact keep _ none (fun _ hb => by cases hb) k h

theorem State.point_lapse (s : State) (i : PointNo) (k : Nat) : (s.lapse i k).point i = s.point i := by
  unfold State.lapse
  split <;> rfl

/-- A wait raised, and then a reservation tried or not. -/
theorem State.waitOn_cases (s : State) (i : PointNo) (d k : Nat) (w : Waiting) :
    s.waitOn i d k w = (s.waited i k w).reserve i d ∨ s.waitOn i d k w = s.waited i k w := by
  have eq : s.waitOn i d k w = if (s.waited i k w).mode == .run && (s.waited i k w).induction.starveLimit ≤ min 255 (w.wait + 1)
      && !(s.waited i k w).holdsReservation i then (s.waited i k w).reserve i d else s.waited i k w := by
    rw [State.waited, ← s.point_lapse i k]
    rfl
  rw [eq]
  split
  · exact .inl rfl
  · exact .inr rfl

theorem State.Coheres.waitOn (h : s.Coheres noneHeld L R) (i : PointNo) (d k : Nat) (w : Waiting) :
    (s.waitOn i d k w).Coheres noneHeld L R := by
  have lapsed : (s.lapse i k).Coheres noneHeld L R := by
    unfold State.lapse
    split
    · exact h.setCarrier (by rfl) fun _ => Carrier.follows_reservation _ fun _ _ => rfl
    · exact h
  have waited : (s.waited i k w).Coheres noneHeld L R := lapsed.setPoint i (by rw [State.point_lapse])
  rcases s.waitOn_cases i d k w with eq | eq
  · rw [eq]
    unfold State.reserve
    split
    · exact waited
    next m hm =>
      exact waited.setCarrier (by rfl) fun _ => Carrier.follows_reservation _ fun he => absurd (State.reservable_empty hm) he
  · rw [eq]
    exact waited

theorem Granting.coheres_pointStep {g : Granting} (h : g.state.Coheres noneHeld L R) (hl : ∀ d, ¬L d) (i : PointNo) :
    (g.pointStep i).state.Coheres noneHeld L R := by
  by_cases hskip : (g.state.point i).enabled = false ∨ (g.state.point i).offset = none ∨ (g.state.point i).waiting = none
  · rw [Granting.pointStep_skip hskip]
    exact h
  · rw [not_or, not_or] at hskip
    obtain ⟨he, ho, hw⟩ := hskip
    obtain ⟨d, ho⟩ := Option.ne_none_iff_exists'.1 ho
    obtain ⟨w, hw⟩ := Option.ne_none_iff_exists'.1 hw
    have hd : d < g.state.loop.count := h.offsets.1 i d ho
    rw [Granting.pointStep_of (by simpa using he) ho hw]
    split
    next hg =>
      refine h.grant hl hg ?_ w
      rw [h.counted.1]
      exact Nat.mod_lt _ (Nat.zero_lt_of_lt hd)
    next => exact h.waitOn i d _ w

theorem State.Coheres.induct (h : s.Coheres noneHeld L R) (hl : ∀ d, ¬L d) : s.induct.state.Coheres noneHeld L R := by
  have keep (is : List PointNo) : ∀ g : Granting, g.state.Coheres noneHeld L R → (is.foldl Granting.pointStep g).state.Coheres noneHeld L R := by
    induction is with
    | nil => exact fun _ hg => hg
    | cons i is ih => exact fun g hg => ih _ (Granting.coheres_pointStep hg hl i)
  exact keep allPoints ⟨s, [], []⟩ h

/-! ## Loaded carriers stay loaded -/

/-- No loaded carrier becomes EMPTY. -/
def State.KeepsLoaded (s t : State) : Prop := ∀ k, (s.carrier k).state ≠ .empty → (t.carrier k).state ≠ .empty

theorem State.KeepsLoaded.trans {u : State} (h : s.KeepsLoaded t) (h' : t.KeepsLoaded u) : s.KeepsLoaded u :=
  fun k hk => h' k (h k hk)

theorem State.KeepsLoaded.of_states (h : ∀ k, (t.carrier k).state = (s.carrier k).state) : s.KeepsLoaded t :=
  fun k hk => by rw [h]; exact hk

theorem State.KeepsLoaded.of_frame {ps : List Part} (h : s.changesOnly t ps) (hp : .carriers ∉ ps) : s.KeepsLoaded t :=
  .of_states fun k => by rw [State.carrier_eq_of_carriers (h .carriers hp)]

theorem State.KeepsLoaded.setCarrier (s : State) (k : Nat) {c : Carrier} (hc : (s.carrier k).state ≠ .empty → c.state ≠ .empty) :
    s.KeepsLoaded (s.setCarrier k c) := by
  intro m hm
  rw [State.carrier_setCarrier]
  split
  next he => exact hc (he.1 ▸ hm)
  next => exact hm

theorem State.KeepsLoaded.enterDisposition (s : State) (k : Nat) (d : Disposition) : s.KeepsLoaded (s.enterDisposition k d) := by
  refine State.KeepsLoaded.trans (t := s.dropTarget k) (.of_states fun m => ?_) (.setCarrier _ k fun _ => by simp)
  have retargeted := (s.retargets_dropTarget k).2.2.2.2.2.1 m
  rw [Carrier.retargeted] at retargeted
  rw [retargeted]

theorem State.KeepsLoaded.matchEntry (s : State) (k : Nat) (d : Identity) : s.KeepsLoaded (s.matchEntry k d) := by
  rw [State.matchEntry_eq]
  exact ((State.KeepsLoaded.setCarrier s k (by exact id)).trans (.enterDisposition _ k _)).trans
    (.of_frame (State.changesOnly_setBerth _ _ _) (by simp))

theorem State.KeepsLoaded.takeOutcome (s : State) (k : Nat) (o : ReadOutcome) : s.KeepsLoaded (s.takeOutcome k o) := by
  unfold State.takeOutcome
  split
  · split
    · exact .enterDisposition s k _
    · exact .enterDisposition s k _
    · exact .enterDisposition s k _
    next t =>
      have read : s.KeepsLoaded (s.read k t) := .setCarrier s k (by exact id)
      unfold State.takeAccepted
      dsimp only
      rw [← State.read]
      split
      · exact read.trans (.enterDisposition _ k _)
      · split
        · exact read.trans (.enterDisposition _ k _)
        · split
          · unfold State.takeListed
            split
            · exact read.trans (.matchEntry _ k _)
            all_goals exact read.trans (.enterDisposition _ k _)
          · unfold State.takeUnlisted
            split
            · exact read.trans (.enterDisposition _ k _)
            · split
              · refine read.trans (State.KeepsLoaded.trans (.of_frame (State.changesOnly_setRouter _ _) (by simp))
                  (State.KeepsLoaded.trans (.setCarrier _ k fun _ => ?_) (.of_frame (State.changesOnly_post _ _ _) (by simp))))
                simp
              · exact read.trans (.enterDisposition _ k _)
  · exact fun _ hm => hm

theorem State.KeepsLoaded.of_alike (h : s.Alike t) : s.KeepsLoaded t :=
  .of_states fun k => by rw [State.carrier_eq_of_carriers h.carriers]

theorem State.KeepsLoaded.closeWindow (s : State) (n : StationNo) (w : Window) : s.KeepsLoaded (s.closeWindow n w) := by
  have taken := (State.KeepsLoaded.of_alike (.setStation s n (x := { s.station n with window := none }) rfl)).trans
    (.takeOutcome _ w.carrier (tally w.answers w.votes))
  unfold State.closeWindow
  dsimp only
  split
  · exact taken.trans (.of_alike (.scoreHeads _ _ _ _))
  all_goals exact taken

theorem State.KeepsLoaded.closeWindows (s : State) : s.KeepsLoaded s.closeWindows.1 := by
  have keep (ns : List StationNo) : ∀ acc : State × List Nat, acc.1.KeepsLoaded (ns.foldl (fun acc n =>
        match (acc.1.station n).window with
        | none => acc
        | some w =>
          (acc.1.closeWindow n w, acc.2 ++ if (acc.1.carrier w.carrier).awaitsRead then [w.carrier] else [])) acc).1 := by
    induction ns with
    | nil => exact fun _ _ hm => hm
    | cons n ns ih =>
      intro acc
      rw [List.foldl_cons]
      cases hw : (acc.1.station n).window with
      | none => exact ih acc
      | some w =>
        exact State.KeepsLoaded.trans (.closeWindow acc.1 n w)
          (ih (acc.1.closeWindow n w, acc.2 ++ if (acc.1.carrier w.carrier).awaitsRead then [w.carrier] else []))
  exact keep allStations (s, [])

theorem State.KeepsLoaded.loadBag (s : State) (i : PointNo) (k : Nat) (w : Waiting) : s.KeepsLoaded (s.loadBag i k w).1 := by
  have load (u : State) (n : Option Nat) : u.KeepsLoaded (u.setCarrier k (loadedCarrier i w n)) := .setCarrier u k fun _ => by simp [loadedCarrier]
  unfold State.loadBag
  split
  · unfold State.grantTicketed
    split
    · exact load s none
    next r _ =>
      have consumed : s.KeepsLoaded (s.consume r) := .of_frame (s.changesOnly_consume r) (by simp)
      split
      · exact consumed.trans (load _ _)
      · refine consumed.trans (State.KeepsLoaded.trans (.setCarrier _ k fun _ => ?_) (.matchEntry _ k _))
        simp
  · exact load s none

theorem State.KeepsLoaded.waitOn (s : State) (i : PointNo) (d k : Nat) (w : Waiting) : s.KeepsLoaded (s.waitOn i d k w) := by
  have lapsed : s.KeepsLoaded (s.lapse i k) := by
    unfold State.lapse
    split
    · exact .setCarrier s k (by exact id)
    · exact fun _ hm => hm
  have waited : s.KeepsLoaded (s.waited i k w) := lapsed.trans (.of_alike (.setPoint _ i (by rw [State.point_lapse])))
  rcases s.waitOn_cases i d k w with eq | eq
  · rw [eq]
    unfold State.reserve
    split
    · exact waited
    · exact waited.trans (.setCarrier _ _ (by exact id))
  · rw [eq]
    exact waited

theorem State.KeepsLoaded.induct (s : State) : s.KeepsLoaded s.induct.state := by
  have step (g : Granting) (i : PointNo) : g.state.KeepsLoaded (g.pointStep i).state := by
    unfold Granting.pointStep
    dsimp only
    split
    · split
      · exact State.KeepsLoaded.trans (t := g.state.gaveUp i _) (.of_states fun m => by rw [State.carrier_gaveUp]; rfl)
          (.loadBag _ i _ _)
      · exact .waitOn _ _ _ _ _
    · exact fun _ hm => hm
  have keep (is : List PointNo) : ∀ g : Granting, g.state.KeepsLoaded (is.foldl Granting.pointStep g).state := by
    induction is with
    | nil => exact fun _ _ hm => hm
    | cons i is ih => exact fun g => (step g i).trans (ih _)
  exact keep allPoints ⟨s, [], []⟩

end

end Sys2Proof.Machine

/-! SUPPORT. An ADVANCE keeps the agreement of the tables (R2, R3). -/

namespace Sys2Proof.Machine

section
variable {s t : State} {K K' : Nat → Prop} {R R' : Nat → Nat → Prop} {L L' : Identity → Prop}

/-! ## The Loop Tracker -/

theorem Loop.distance_congr {p q : Loop} (hp : p.position = q.position) (hc : p.count = q.count) (k d : Nat) :
    p.distance k d = q.distance k d := by
  rw [Loop.distance, Loop.offsetOf, hp, hc, Loop.distance, Loop.offsetOf]

/-- Armed carriers come one pitch nearer. -/
theorem State.Coheres.moveLoop (h : s.Coheres noneHeld L inReach) (hp : s.loop.position < s.loop.count) {p : Loop}
    (hc : p.count = s.loop.count) (hk : p.commit = s.loop.commit) (hn : p.position = (s.loop.position + 1) % s.loop.count) :
    (s.setLoop p).Coheres noneHeld L fun c d => d + 1 < c := by
  have nearer (j) (k) (hk : k ∈ (s.diverter j).queue) : (s.setLoop p).ahead j k + 1 = s.ahead j k := by
    obtain ⟨hs, -, -, ho, hpos, -⟩ := h.arm.queued j k hk id
    have hlt : k < s.loop.count := by
      rw [← h.counted.1]
      exact s.lt_of_carrier_ne fun he => by rw [he] at hs; cases hs
    obtain ⟨d, hd⟩ := Option.ne_none_iff_exists'.1 ho
    have hdlt : d < s.loop.count := h.offsets.2.2 j d hd
    have ahead : s.ahead j k = s.loop.distance k d := by rw [State.ahead, hd]; rfl
    have moved : (s.setLoop p).ahead j k = s.loop.advanced.distance k d := by
      rw [State.ahead, show (s.setLoop p).lane j = s.lane j from rfl, hd]
      exact Loop.distance_congr (q := s.loop.advanced) hn hc k d
    rw [moved, Loop.distance_advanced hp hlt hdlt, ← ahead, if_neg (Nat.ne_of_gt hpos)]
  refine h.setLoop hc (fun j k hq _ hr => ?_) fun j a ha b hb _ _ hlt => ?_
  · rw [nearer j k hq, hk]
    exact hr.2
  · have := nearer j a ha
    have := nearer j b hb
    omega

theorem State.Coheres.track (h : s.Coheres noneHeld L inReach) (hl : ∀ d, ¬L d) (hp : s.loop.position < s.loop.count) (mark : Bool) :
    (s.track mark).1.Coheres noneHeld L fun c d => d + 1 < c := by
  unfold State.track
  split
  next hz => exact h.moveLoop hp rfl rfl (Eq.symm hz)
  next hz =>
    have moved := h.moveLoop hp (p := { s.loop.atHome with homeMissed := raiseTo 255 s.loop.homeMissed 1 }) rfl rfl (Eq.symm hz)
    exact moved.post .hall (.homeMissed (raiseTo 255 s.loop.homeMissed 1))
  next n hz => exact h.moveLoop hp rfl rfl (Eq.symm hz)
  next n hz => exact h.slip hl

theorem State.carriers_track (s : State) {mark : Bool} (hh : (s.track mark).2 = true) : (s.track mark).1.carriers = s.carriers := by
  unfold State.track at hh ⊢
  split at hh
  next => rfl
  next => exact State.changesOnly_post _ _ _ .carriers (by simp)
  next => cases hh
  next => cases hh

/-! ## The whole event -/

theorem Carrier.loaded_of_isLapping {c : Carrier} (h : c.isLapping = true) : c.state ≠ .empty := by
  intro he
  simp [Carrier.isLapping, Carrier.isUntargeted, he] at h

theorem Loop.afterAdvance_spec {p : Loop} (hp : p.position < p.count) (mark : Byte) :
    (p.afterAdvance mark).count = p.count ∧ (p.afterAdvance mark).commit = p.commit ∧ (p.afterAdvance mark).position < p.count := by
  have hpos : 0 < p.count := Nat.zero_lt_of_lt hp
  have hmod := Nat.mod_lt (p.position + 1) hpos
  unfold Loop.afterAdvance
  split_ifs <;> exact ⟨rfl, rfl, by assumption⟩

theorem Granting.coheres_passOn {g : Granting} (h : g.state.Coheres noneHeld L fun c d => d + 1 < c)
    (hm : g.state.manifestsAgree) (hl : ∀ d, ¬L d) (hp : g.state.loop.position < g.state.loop.count) (hc : 2 ≤ g.state.loop.commit)
    {home : Bool} {before : List Nat} (hb : home = true → ∀ k ∈ before, (g.state.carrier k).state ≠ .empty) :
    (g.passOn home before).state.Coheres noneHeld L inReach := by
  have opened := (h.closeWindows hm hl).of_alike (.openWindows _ (g.state.closeWindows.2 ++ g.granted))
  have loaded : g.state.KeepsLoaded (g.state.closeWindows.1.openWindows (g.state.closeWindows.2 ++ g.granted)) :=
    (State.KeepsLoaded.closeWindows g.state).trans (.of_alike (.openWindows _ _))
  have frame := (g.state.advances_closeWindows).trans (State.advances_openWindows g.state.closeWindows.1 (g.state.closeWindows.2 ++ g.granted))
  have counted : (if home then (g.state.closeWindows.1.openWindows (g.state.closeWindows.2 ++ g.granted)).countLaps before
      else g.state.closeWindows.1.openWindows (g.state.closeWindows.2 ++ g.granted)).Coheres noneHeld L
        (fun c d => d + 1 < c)
      ∧ g.state.Advances (if home then (g.state.closeWindows.1.openWindows (g.state.closeWindows.2 ++ g.granted)).countLaps before
      else g.state.closeWindows.1.openWindows (g.state.closeWindows.2 ++ g.granted)) := by
    split
    next hh => exact ⟨opened.countLaps hl fun k hk => loaded k (hb hh k hk), frame.trans (State.advances_countLaps _ _)⟩
    next => exact ⟨opened, frame⟩
  obtain ⟨counted, frame⟩ := counted
  have fired := (counted.timeouts hl).fireAll (R' := inReach) fun _ d hd hr => ⟨Nat.pos_of_ne_zero hd, Nat.lt_of_succ_lt hr⟩
  have frame := (frame.trans (State.advances_timeouts _)).trans (State.advances_fireAll _)
  unfold Granting.passOn
  dsimp only
  revert fired frame
  generalize State.fireAll _ = u
  intro fired frame
  have loop : u.loop = g.state.loop := frame .loop (by simp)
  exact fired.armAll (by rw [loop]; exact hp) (by rw [loop]; exact hc)

theorem State.Coheres.execAdvance (h : s.Coheres noneHeld L inReach) (hm : s.manifestsAgree) (hl : ∀ d, ¬L d)
    (hp : s.loop.position < s.loop.count) (hc : 2 ≤ s.loop.commit) (mark : Byte) :
    (s.passOn (isHomeMark mark)).finish.Coheres noneHeld L inReach := by
  obtain ⟨loop, -⟩ := s.track_spec mark
  obtain ⟨count, commit, position⟩ := Loop.afterAdvance_spec hp mark
  have tracked := h.track hl hp (isHomeMark mark)
  have inducted := tracked.induct hl
  have hloop : (s.track (isHomeMark mark)).1.induct.state.loop = s.loop.afterAdvance mark :=
    ((State.advances_induct _) .loop (by simp)).trans loop
  have manifests : (s.track (isHomeMark mark)).1.induct.state.manifestsAgree :=
    ((s.acts_track (isHomeMark mark)).trans (State.acts_induct _)).manifestsAgree hm
  have passed := Granting.coheres_passOn (home := (s.track (isHomeMark mark)).2) (before := s.carriersWith (·.isLapping))
    (g := (s.track (isHomeMark mark)).1.induct) inducted manifests hl
    (by rw [hloop, count]; exact position) (by rw [hloop, commit]; exact hc) fun hh k hk => by
      refine State.KeepsLoaded.induct _ k ?_
      rw [State.carrier_eq_of_carriers (s.carriers_track hh)]
      exact Carrier.loaded_of_isLapping (List.mem_filter.1 hk).2
  rw [← State.passOn_eq] at passed
  exact State.Coheres.forEach (fun _ _ _ hu => hu.postOwner _ _) (passed.chooseAll _)

end

end Sys2Proof.Machine

/-! SUPPORT. Diverts done keep the agreement of the tables (R76 to R78, R127 to R129, R136 to R139). -/

namespace Sys2Proof.Machine

section
variable {s t : State} {K K' : Nat → Prop} {R R' : Nat → Nat → Prop} {L L' : Identity → Prop}

/-! ## An entry made STRAYED with a ticket -/

theorem State.rides_leaving (s : State) (o : Identity) {st : EntryState} (hst : st ≠ .onLoop) (n : Option Nat) (d : Identity) :
    (s.setEntryState o.berth o.entry st n).rides d ↔ d ≠ o ∧ s.rides d := by
  constructor
  · intro h
    have hd : d ≠ o := by
      rintro rfl
      exact hst (State.rides_setEntryState h)
    rw [State.rides, s.entryOf_setEntryState, if_neg hd] at h
    exact ⟨hd, h⟩
  · rintro ⟨hd, h⟩
    rw [State.rides, s.entryOf_setEntryState, if_neg hd]
    exact h

theorem State.holds_ticketed {o : Identity} (ho : s.entryOf o ≠ none) (n : Nat) (d : Identity) (m : Nat) :
    (s.setEntryState o.berth o.entry .strayed (some n)).holds d m ↔ (d ≠ o ∧ s.holds d m) ∨ (d = o ∧ m = n) := by
  rw [State.holds, s.entryOf_setEntryState]
  by_cases hd : d = o
  · obtain ⟨e, he⟩ := Option.ne_none_iff_exists'.1 ho
    simp [hd, he, eq_comm]
  · simp [hd, State.holds]

theorem State.strayed_ticketed (h : s.TicketsHeld) (o : Identity) (n : Nat) (d : Identity) (e : Entry)
    (he : (s.setEntryState o.berth o.entry .strayed (some n)).entryOf d = some e) (ht : e.ticket ≠ none) : e.state = .strayed := by
  rw [s.entryOf_setEntryState] at he
  split at he
  · obtain ⟨x, -, rfl⟩ := Option.map_eq_some_iff.1 he
    rfl
  · exact h.strayed d e he ht

/-! ## Strays listed -/

/-- What a new record may refer to (R138): an open berth, and an entry of it that is STRAYED without a ticket. -/
theorem State.strayReference_spec (hm : s.manifestsAgree) (x : Option Tag) :
    ((s.strayReference x).2 ≠ none → (s.strayReference x).1 ≠ none) ∧ (∀ b ∈ (s.strayReference x).1, s.opens b)
      ∧ ∀ b i, s.strayReference x = (some b, some i) →
        ∃ e, s.entryOf ⟨b, i⟩ = some e ∧ e.state = .strayed ∧ e.ticket = none := by
  unfold State.strayReference
  cases x with
  | none => simp
  | some tag =>
    dsimp only
    cases hb : s.berthOfShip tag.ship with
    | none => simp
    | some b =>
      have opens : s.opens b := by
        have ship := State.ship_of_berthOfShip hb
        rw [State.opens]
        cases hs : (s.berth b).state with
        | unbound =>
          rw [hs] at ship
          cases ship
        | bound c => rfl
        | closing c => rfl
      dsimp only
      cases he : (s.berth b).findSerial tag.serial with
      | none => simpa using opens
      | some e =>
        refine ⟨fun _ => by simp, fun c hc => ?_, fun c i hci => ?_⟩
        · obtain rfl := Option.some.inj hc
          exact opens
        · obtain ⟨hbc, hi⟩ := Prod.mk.inj hci
          obtain rfl := Option.some.inj hbc
          obtain ⟨hstray, hi⟩ := Option.ite_none_right_eq_some.1 hi
          obtain rfl := Option.some.inj hi
          exact ⟨e, (State.entryOf_iff hm ⟨b, e.index⟩ e).2 ⟨List.mem_of_find?_eq_some he, rfl⟩, hstray⟩

/-- The ticket counter and the lists leave a number to issue (R136, R137). -/
structure Coding.CanIssue (c : Coding) : Prop where
  low : 1 ≤ c.ticketCounter
  high : c.ticketCounter ≤ 4095
  room : c.strays.length + c.reinject.length ≤ 80

theorem Coding.CanIssue.issued {c : Coding} (h : c.CanIssue) : 1 ≤ c.issued ∧ c.issued ≤ 4095 ∧ ∀ x ∈ c.references, x.1 ≠ c.issued := by
  obtain ⟨h1, h2, -⟩ := (ticketsAndNoticesFollowTheirCounts).1 c h.low h.high h.room
  refine ⟨h1, h2, fun x hx he => ?_⟩
  have free := Coding.issued_free h.low h.high h.room
  rw [Bool.eq_false_iff, Ne, Coding.holdsTicket_iff, Coding.tickets, ← Coding.tickets_references] at free
  exact free (he ▸ List.mem_map_of_mem hx)

theorem State.Coheres.strayListed (h : s.Coheres K L R) (hm : s.manifestsAgree) (hc : s.coding.CanIssue) (k : Nat) (j : LaneNo) :
    (s.strayListed k j).Coheres K L R := by
  obtain ⟨low, high, fresh⟩ := hc.issued
  obtain ⟨whole, opened, entry⟩ := State.strayReference_spec hm (s.carrier k).candidate
  obtain ⟨frame, coding, berth, -⟩ := s.strayListed_spec k j
  obtain ⟨-, referred, left⟩ := s.strayReferred_spec k
  have found (d) : (s.strayListed k j).entryOf d = (s.strayReferred k).entryOf d := by rw [State.entryOf, berth, State.entryOf]
  rcases href : s.strayReference (s.carrier k).candidate with ⟨rb, ri⟩
  have mem (x : Reference) : x ∈ (s.strayListed k j).coding.references
      ↔ (x ∈ s.coding.references ∧ x.1 ≠ s.coding.issued) ∨ x ∈ [(s.coding.issued, rb, ri)] := by
    rw [coding, Coding.mem_references, List.mem_singleton]
    have record : ((s.strayRecord k j).ticket, (s.strayRecord k j).berth, (s.strayRecord k j).entry) = (s.coding.issued, rb, ri) := by
      simp only [State.strayRecord, href]
    constructor
    · rintro (⟨r, hr, rfl⟩ | ⟨r, hr, rfl⟩)
      · rcases List.mem_append.1 hr with hr | hr
        · exact .inl ⟨Coding.mem_of_stray hr, fresh _ (Coding.mem_of_stray hr)⟩
        · obtain rfl := List.mem_singleton.1 hr
          exact .inr record
      · exact .inl ⟨Coding.mem_of_reinject hr, fresh _ (Coding.mem_of_reinject hr)⟩
    · rintro (⟨hx, -⟩ | rfl)
      · rcases Coding.mem_references.1 hx with ⟨r, hr, rfl⟩ | ⟨r, hr, rfl⟩
        · exact .inl ⟨r, List.mem_append_left _ hr, rfl⟩
        · exact .inr ⟨r, hr, rfl⟩
      · exact .inl ⟨s.strayRecord k j, List.mem_append_right _ (List.mem_singleton_self _), record⟩
  have unique : ((s.strayListed k j).coding.references.map (·.1)).Nodup := by
    rw [coding, Coding.tickets_references, List.map_append, List.append_assoc]
    show (s.coding.strays.map (·.ticket) ++ s.coding.issued :: s.coding.reinject.map (·.ticket)).Nodup
    rw [List.perm_middle.nodup_iff, List.nodup_cons, ← Coding.tickets_references]
    refine ⟨fun hx => ?_, h.tickets.unique⟩
    obtain ⟨x, hx, he⟩ := List.mem_map.1 hx
    exact fresh x hx he
  have free (d) : ¬s.holds d s.coding.issued := fun hd => fresh _ ((h.tickets.held _ d).2 hd) rfl
  have record : ∀ x ∈ [(s.coding.issued, rb, ri)], x.1 = s.coding.issued ∧ 1 ≤ s.coding.issued ∧ s.coding.issued ≤ 4095
      ∧ (x.2.2 ≠ none → x.2.1 ≠ none) ∧ ∀ b ∈ x.2.1, s.opens b := by
    intro x hx
    obtain rfl := List.mem_singleton.1 hx
    rw [href] at whole opened
    exact ⟨rfl, low, high, whole, opened⟩
  by_cases hnamed : ∃ b i, rb = some b ∧ ri = some i
  · obtain ⟨b, i, rfl, rfl⟩ := hnamed
    obtain ⟨e, he, hstray, hticket⟩ := entry b i href
    have referred := referred b i href
    have same (d) : (s.strayListed k j).entryOf d
        = (s.setEntryState (⟨b, i⟩ : Identity).berth (⟨b, i⟩ : Identity).entry .strayed (some s.coding.issued)).entryOf d := by
      rw [found, State.strayReferred, href]
    have states (o) : ((s.strayListed k j).berth o).state = (s.berth o).state := by
      rw [berth, State.strayReferred, href]
      exact s.setEntryState_state ⟨b, i⟩ _ _ o
    have apart (d) (hd : s.rides d) : d ≠ ⟨b, i⟩ := by
      rintro rfl
      obtain ⟨x, hx, hs⟩ := hd
      obtain rfl := Option.some.inj (he.symm.trans hx)
      rw [hstray] at hs
      cases hs
    refine h.relisted frame (by simp [manifestParts]) (fun d => ?_) states (h.tickets.revised unique mem (fun x hx => ?_) (fun d m => ?_)
      (fun o ho => ?_) fun d x hx => ?_)
    · rw [State.rides, same]
      exact (s.rides_leaving ⟨b, i⟩ (by simp) (some s.coding.issued) d).trans ⟨fun hd => hd.2, fun hd => ⟨apart d hd, hd⟩⟩
    · simp only [State.opens, states]
      exact record x hx
    · rw [State.holds, same]
      refine (State.holds_ticketed (o := ⟨b, i⟩) (by simp [he]) s.coding.issued d m).trans (or_congr ?_ ?_)
      · refine ⟨fun hd => ⟨hd.2, fun hm => free d (hm ▸ hd.2)⟩, fun hd => ⟨fun hx => ?_, hd.1⟩⟩
        obtain ⟨x, hx', ht⟩ := hd.1
        rw [hx, he] at hx'
        obtain rfl := Option.some.inj hx'
        rw [hticket] at ht
        cases ht
      · rw [and_comm, Identity.reference, List.mem_singleton, Prod.mk.injEq, Prod.mk.injEq, Option.some.injEq, Option.some.injEq]
        exact and_congr_right fun _ => ⟨fun hd => by rw [hd]; exact ⟨rfl, rfl, rfl⟩, fun ⟨_, hb, hi⟩ => by cases d; cases hb; cases hi; rfl⟩
    · rw [State.opens, states]
      exact ho
    · rw [same] at hx
      exact State.strayed_ticketed h.tickets ⟨b, i⟩ _ d x hx
  · have berths (o) : (s.strayListed k j).berth o = s.berth o := by
      rw [berth]
      refine left o ?_
      rw [href]
      by_contra hn
      rw [not_or, not_not] at hn
      obtain ⟨i, hi⟩ := Option.ne_none_iff_exists'.1 hn.2
      exact hnamed ⟨o, i, hn.1, hi⟩
    have same (d) : (s.strayListed k j).entryOf d = s.entryOf d := by rw [State.entryOf, berths, State.entryOf]
    refine h.relisted frame (by simp [manifestParts]) (fun d => by rw [State.rides, same, State.rides]) (fun o => by rw [berths])
      (h.tickets.revised unique mem (fun x hx => ?_) (fun d m => ?_) (fun o ho => ?_) fun d x hx => ?_)
    · simp only [State.opens, berths]
      exact record x hx
    · rw [State.holds, same]
      refine ⟨fun hd => .inl ⟨hd, fun hm => free d (hm ▸ hd)⟩, fun hd => hd.elim And.left fun ⟨_, hx⟩ => absurd ?_ hnamed⟩
      rw [Identity.reference, List.mem_singleton, Prod.mk.injEq, Prod.mk.injEq] at hx
      exact ⟨d.berth, d.entry, hx.2.1.symm, hx.2.2.symm⟩
    · rw [State.opens, berths]
      exact ho
    · rw [same] at hx
      exact h.tickets.strayed d x hx

theorem State.Coheres.takeStray (h : s.Coheres K L R) (hm : s.manifestsAgree) (hc : s.coding.CanIssue) (k : Nat) (j : LaneNo) :
    (s.takeStray k j).Coheres K L R := by
  unfold State.takeStray
  split
  · rw [s.recordStray_eq]
    exact (h.strayListed hm hc k j).of_frame (State.changesOnly_postStray _ _ _) (by simp)
  · rw [s.countUnlisted_eq]
    exact State.Coheres.post ((h.of_alike (.setCoding s (by rfl))).handOver _) _ _

/-! ## Diverts done -/

theorem State.Coheres.handArrival (h : s.Coheres K L R) (hm : s.manifestsAgree) (hc : s.coding.CanIssue) (hl : ∀ d, ¬L d) {k : Nat}
    (hk : K k) (j : LaneNo) (x : Lane) : (s.handArrival k j x).Coheres K L R := by
  unfold State.handArrival
  split
  next d hd =>
    have dropped := h.dropIdentity hk (st := arrivalState x.function (s.carrier k).disposition)
      (by rw [arrivalState_eq]; split <;> simp) fun d _ => hl d
    refine State.Coheres.testClosing ?_ _
    have told := dropped.of_frame (State.changesOnly_postArrival _ d j (arrivalState x.function (s.carrier k).disposition)) (by simp)
    split
    · exact told
    · exact told.post _ _
  next =>
    split
    · exact h.takeStray hm hc k j
    · exact h.post _ _

theorem State.identity_handArrival {k : Nat} (hk : k < s.carriers.table.length) (j : LaneNo) (x : Lane) :
    ((s.handArrival k j x).carrier k).identity = none := by
  unfold State.handArrival
  split
  next d hd =>
    have dropped := s.carrier_dropIdentity hk (arrivalState x.function (s.carrier k).disposition) k
    rw [if_pos rfl] at dropped
    have told (u : State) : (u.testClosing d.berth).carrier k = u.carrier k :=
      State.carrier_eq_of_carriers (u.changesOnly_testClosing d.berth .carriers (by simp)) k
    have posted : ((s.dropIdentity k (arrivalState x.function (s.carrier k).disposition)).postArrival d j
        (arrivalState x.function (s.carrier k).disposition)).carrier k = { s.carrier k with identity := none } :=
      (State.carrier_eq_of_carriers (State.changesOnly_postArrival _ d j _ .carriers (by simp)) k).trans dropped
    rw [State.recordArrival, told]
    split
    · rw [posted]
    · rw [State.postLaneArrival, State.carrier_eq_of_carriers (State.changesOnly_post _ _ _ .carriers (by simp)), posted]
  next hd =>
    split
    · have frame : s.changesOnly (s.takeStray k j) [.berths, .coding, .orders, .principals] := by
        unfold State.takeStray
        split
        · rw [s.recordStray_eq]
          exact State.changesOnly_comp (s.strayListed_spec k j).1 (State.changesOnly_postStray _ _ _) (by simp) (by simp)
        · rw [s.countUnlisted_eq]
          exact State.changesOnly_comp (s.strayCounted_spec k j).1 (State.changesOnly_post _ _ _) (by simp) (by simp)
      rw [State.carrier_eq_of_carriers (frame .carriers (by simp)), hd]
    · rw [State.postLaneArrival, State.carrier_eq_of_carriers (State.changesOnly_post _ _ _ .carriers (by simp)), hd]

theorem State.Coheres.divertDone (h : s.Coheres noneHeld L R) (hm : s.manifestsAgree) (hc : s.coding.CanIssue) (hl : ∀ d, ¬L d) {k : Nat}
    {j : LaneNo} (hf : (s.carrier k).isFiredAt j = true) : (s.divertDone k j).Coheres noneHeld L R := by
  obtain ⟨hs, ht⟩ := (isFiredAt_iff _ j).1 hf
  have hlt : k < s.carriers.table.length := s.lt_of_carrier_ne fun he => by rw [he] at hs; cases hs
  have landed : (s.landedAt k j).Coheres (alsoHeld noneHeld k) L R :=
    State.Coheres.setDiverter ((h.take k).setLane j (by rfl)) j (by rfl)
  have handed : (s.handedOff k j).Coheres (alsoHeld noneHeld k) L R := landed.handArrival hm hc hl (.inr rfl) j _
  have none := (s.landedAt k j).identity_handArrival (k := k) hlt j ((s.landedAt k j).lane j)
  have arrives : (s.landedAt k j).Arrives (s.handedOff k j) k := (s.landedAt k j).arrives_handArrival hlt j _
  have own : ((s.handedOff k j).setCarrier k Carrier.empty).carrier k = Carrier.empty :=
    State.carrier_setCarrier_same _ _ (arrives.length ▸ hlt)
  have unnamed : (s.landedAt k j).unnamed k := by
    obtain ⟨pend, queue⟩ := h.unnamed (k := k) id (by simp [hs]) (h.unarmed id (by simp [hs]))
    refine ⟨pend, fun i => ?_⟩
    by_cases hi : i = j
    · rw [hi, State.landedAt, State.diverter_setDiverter]
      exact queue j
    · rw [State.landedAt, State.diverter_setDiverter_ne _ _ hi]
      exact queue i
  show ((s.handedOff k j).setCarrier k Carrier.empty).testDrain.Coheres noneHeld L R
  refine ((handed.setCarrier_held (k := k) (.inr rfl) ?_).putBack ⟨?_, fun _ => ?_, ?_, ?_, ?_⟩).testDrain
  · exact none.symm
  · rw [own]
    exact Carrier.fieldsAgree_empty
  · rw [own]
    rfl
  · rw [own]
    simp [Carrier.empty]
  · rw [own]
    rfl
  · exact State.unnamed_congr unnamed (arrives.frame .router (by simp)) (arrives.frame .diverters (by simp))

end

end Sys2Proof.Machine

/-! SUPPORT. Coding requests keep the agreement of the tables (R141 to R146). -/

namespace Sys2Proof.Machine

section
variable {s t : State} {K K' : Nat → Prop} {R R' : Nat → Nat → Prop} {L L' : Identity → Prop}

theorem State.Alike.answer (s : State) (q : CodingRequest) (n : Nat) (xs : List Order) : s.Alike (s.answer q n xs) := by
  unfold State.answer
  split
  · exact (State.Alike.of_frame (s.changesOnly_setOrders _) (by simp)).trans (.setCoding _ (by rfl))
  · exact .refl s

/-- A request keeps the agreements if its own rule does, for every record of the stray list (R141). -/
theorem State.Coheres.codingRequest (h : s.Coheres K L R) (q : CodingRequest) (n : Nat) {body : StrayRecord → Coded}
    (hb : ∀ r ∈ s.coding.strays, ∀ u data, body r = .done u data → u.Coheres K L R) : (s.codingRequest q n body).Coheres K L R := by
  have answered {u : State} (hu : u.Coheres K L R) (xs : List Order) : (u.answer q n xs).Coheres K L R := hu.of_alike (.answer u q n xs)
  unfold State.codingRequest
  split
  · exact h.handOver _
  · split
    · exact answered h _
    · split
      · exact answered h _
      · split
        · exact answered h _
        next r hr =>
          split
          · exact answered h _
          next u data hu => exact answered (hb r (List.mem_of_find?_eq_some hr) u data hu) _

theorem State.Coheres.postResolved (h : s.Coheres K L R) (bs : List BerthId) (x : NoticeBody) : (s.postResolved bs x).Coheres K L R :=
  h.of_frame (s.changesOnly_postResolved bs x) (by simp)

/-! ## The record that a request is about -/

theorem StrayRecord.reference_iff (r : StrayRecord) (d : Identity) : r.reference = some d ↔ r.berth = some d.berth ∧ r.entry = some d.entry := by
  unfold StrayRecord.reference
  constructor
  · intro h
    obtain ⟨b, hb, h⟩ := Option.bind_eq_some_iff.1 h
    obtain ⟨i, hi, rfl⟩ := Option.map_eq_some_iff.1 h
    exact ⟨hb, hi⟩
  · rintro ⟨hb, hi⟩
    rw [hb, hi]
    rfl

/-- The entry that a stray record refers to holds its ticket, and no other does. -/
theorem State.TicketsHeld.holds_stray (h : s.TicketsHeld) {r : StrayRecord} (hr : r ∈ s.coding.strays) (d : Identity) :
    s.holds d r.ticket ↔ r.reference = some d :=
  (h.holds_iff (Coding.mem_of_stray hr) d).trans (r.reference_iff d).symm

theorem State.TicketsHeld.not_rides (h : s.TicketsHeld) {d : Identity} {n : Nat} (hd : s.holds d n) : ¬s.rides d := by
  rintro ⟨e, he, hs⟩
  obtain ⟨x, hx, ht⟩ := hd
  obtain rfl := Option.some.inj (he.symm.trans hx)
  have := h.strayed d e he (by simp [ht])
  rw [hs] at this
  cases this

/-- A record passes from the stray list to the end of the reinject list, with its ticket. -/
theorem State.TicketsHeld.moved (h : s.TicketsHeld) {r : StrayRecord} (hr : r ∈ s.coding.strays) {c : Coding} {q : ReinjectRecord}
    (hs : c.strays = s.coding.strays.filter (·.ticket != r.ticket)) (hj : c.reinject = s.coding.reinject ++ [q])
    (hq : q.ticket = r.ticket) : (c.references.map (·.1)).Nodup
      ∧ ∀ x, x ∈ c.references ↔ (x ∈ s.coding.references ∧ x.1 ≠ r.ticket) ∨ x ∈ [(r.ticket, q.berth, q.entry)] := by
  obtain ⟨unique, fresh, mem⟩ := h.filter_strays hr (c := { c with reinject := s.coding.reinject }) hs rfl
  have split : c.references = ({ c with reinject := s.coding.reinject } : Coding).references ++ [(r.ticket, q.berth, q.entry)] := by
    simp [Coding.references, hj, hq]
  refine ⟨?_, fun x => ?_⟩
  · rw [split, List.map_append, List.nodup_append]
    refine ⟨unique, by simp, fun a ha b hb he => fresh ?_⟩
    obtain rfl : b = r.ticket := by simpa using hb
    exact he ▸ ha
  · rw [split, List.mem_append, mem]

/-! ## REMOVE and RETRY -/

theorem State.Coheres.removeStray (h : s.Coheres K L R) {r : StrayRecord} (hr : r ∈ s.coding.strays) :
    (s.removeStray r).Coheres K L R := by
  obtain ⟨unique, -, mem⟩ := h.tickets.filter_strays hr
    (c := { s.coding with strays := s.coding.strays.filter (·.ticket != r.ticket) }) rfl rfl
  have named := h.tickets.holds_stray hr
  have frame : s.changesOnly (s.setCoding { s.coding with strays := s.coding.strays.filter (·.ticket != r.ticket) }) [.coding] :=
    s.changesOnly_setCoding _
  unfold State.removeStray
  refine State.Coheres.postResolved ?_ _ _
  cases hd : r.reference with
  | none =>
    rw [hd] at named
    refine h.relisted frame (by simp [manifestParts]) (fun _ => Iff.rfl) (fun _ => rfl)
      (h.tickets.revised (n := r.ticket) (new := []) unique (fun x => (mem x).trans (by simp)) (by simp) (fun d m => ?_) (fun _ => id)
        h.tickets.strayed)
    exact ⟨fun hx => .inl ⟨hx, fun hm => nomatch (named d).1 (hm ▸ hx)⟩, fun hx => hx.elim And.left fun hx => nomatch hx.2⟩
  | some o =>
    have own : s.holds o r.ticket := (named o).2 hd
    let u := s.setCoding { s.coding with strays := s.coding.strays.filter (·.ticket != r.ticket) }
    have rides (d) : (u.setEntryState o.berth o.entry .offSystem none).rides d ↔ s.rides d :=
      (u.rides_leaving o (by simp) none d).trans ⟨And.right, fun hx => ⟨fun he => h.tickets.not_rides own (he ▸ hx), hx⟩⟩
    have coding : (u.setEntryState o.berth o.entry .offSystem none).coding = u.coding := State.changesOnly_setBerth _ _ _ .coding (by simp)
    have states (b) := u.setEntryState_state o .offSystem none b
    refine h.relisted (t := u.setEntryState o.berth o.entry .offSystem none) (ps := [.coding, .berths])
      (State.changesOnly_comp frame (State.changesOnly_setBerth _ _ _) (by simp) (by simp))
      (by simp [manifestParts]) rides states (h.tickets.revised (n := r.ticket) (new := []) (by rw [coding]; exact unique)
        (fun x => by rw [coding]; exact (mem x).trans (by simp)) (by simp) (fun d m => ?_) (fun b hb => ?_) fun d e he hn => ?_)
    · constructor
      · rintro ⟨e, he, ht⟩
        rw [u.entryOf_setEntryState] at he
        split at he
        · obtain ⟨x, -, rfl⟩ := Option.map_eq_some_iff.1 he
          cases ht
        next hne =>
          refine .inl ⟨⟨e, he, ht⟩, fun hm => hne ?_⟩
          exact Option.some.inj (((named d).1 (hm ▸ ⟨e, he, ht⟩)).symm.trans hd)
      · rintro (⟨hx, hm⟩ | ⟨-, hx⟩)
        · have hne : d ≠ o := fun hx' => hm (State.holds_unique (hx' ▸ hx) own)
          rw [State.holds, u.entryOf_setEntryState, if_neg hne]
          exact hx
        · cases hx
    · rw [State.opens, states]
      exact hb
    · rw [u.entryOf_setEntryState] at he
      split at he
      · obtain ⟨x, -, rfl⟩ := Option.map_eq_some_iff.1 he
        exact absurd rfl hn
      · exact h.tickets.strayed d e he hn

theorem State.Coheres.retryStray (h : s.Coheres K L R) {r : StrayRecord} (hr : r ∈ s.coding.strays) {u : State} {data : List Byte}
    (hu : s.retryStray r = .done u data) : u.Coheres K L R := by
  unfold State.retryStray at hu
  split at hu
  · cases hu
  · obtain ⟨rfl, -⟩ := Coded.done.inj hu
    obtain ⟨unique, mem⟩ := h.tickets.moved hr (c := (s.moveRecord r .readAgain r.berth r.entry).coding) rfl rfl rfl
    refine State.Coheres.postResolved (h.relisted (t := s.moveRecord r .readAgain r.berth r.entry) (s.changesOnly_setCoding _) (by simp [manifestParts]) (fun _ => Iff.rfl) (fun _ => rfl)
      (h.tickets.revised (n := r.ticket) unique mem (fun x hx => ?_) (fun d m => ?_) (fun _ => id) h.tickets.strayed)) _ _
    · obtain rfl := List.mem_singleton.1 hx
      have old := Coding.mem_of_stray hr
      exact ⟨rfl, (h.tickets.range _ old).1, (h.tickets.range _ old).2, h.tickets.whole _ old, h.tickets.opened _ old⟩
    · show s.holds d m ↔ _
      have named : d.reference r.ticket ∈ [(r.ticket, r.berth, r.entry)] ↔ s.holds d r.ticket := by
        rw [List.mem_singleton, Identity.reference, Prod.mk.injEq, Prod.mk.injEq, h.tickets.holds_stray hr, r.reference_iff]
        exact ⟨fun hx => ⟨hx.2.1.symm, hx.2.2.symm⟩, fun hx => ⟨rfl, hx.1.symm, hx.2.symm⟩⟩
      rw [named]
      by_cases hm : m = r.ticket
      · simp [hm]
      · simp [hm]

/-! ## CODE TAG and CODE CABIN -/

/-- A record passes to the reinject list, its entry having the ticket already (R143). -/
theorem State.Coheres.codeTo (h : s.Coheres K L R) {u : State} {r : StrayRecord} (hr : r ∈ s.coding.strays) {d : Identity} {e : Entry}
    {serial : Option Nat} (hu : s.CodesEntry u r d serial) (he : u.entryOf d = some e) (hs : e.state = .strayed)
    (ht : e.ticket = some r.ticket) (own : ∀ m, s.holds d m → m = r.ticket) (hn : ¬s.rides d) (ho : s.opens d.berth) (q : CodingRequest) :
    (u.codeTo q r d).Coheres K L R := by
  have coding : u.coding = s.coding := hu.frame .coding (by simp)
  obtain ⟨unique, mem⟩ := h.tickets.moved hr (c := (u.moveRecord r .coded (some d.berth) (some d.entry)).coding)
    (q := ⟨r.ticket, .coded, some d.berth, some d.entry, r.candidate, r.size, u.loop.revolutions, u.loop.position⟩)
    (by rw [State.moveRecord, coding]; rfl) (by rw [State.moveRecord, coding]; rfl) rfl
  have named := h.tickets.holds_stray hr
  have entry (x) (hx : x ≠ d) : u.entryOf x = if r.reference = some x then (s.entryOf x).map fun e => { e with ticket := none } else s.entryOf x := by
    split
    next href => exact hu.left x href hx
    next href => exact hu.others x href hx
  have rides (x) : u.rides x ↔ s.rides x := by
    by_cases hx : x = d
    · subst hx
      refine ⟨fun ⟨y, hy, hl⟩ => ?_, fun hr => absurd hr hn⟩
      obtain rfl := Option.some.inj (he.symm.trans hy)
      rw [hs] at hl
      cases hl
    · rw [State.rides, entry x hx]
      split
      next href =>
        have old := h.tickets.not_rides ((named x).2 href)
        refine ⟨fun ⟨y, hy, hl⟩ => ?_, fun hr => absurd hr old⟩
        obtain ⟨z, hz, rfl⟩ := Option.map_eq_some_iff.1 hy
        exact ⟨z, hz, hl⟩
      next => rfl
  have holds (x m) : u.holds x m ↔ (s.holds x m ∧ m ≠ r.ticket) ∨ (m = r.ticket ∧ x = d) := by
    by_cases hx : x = d
    · subst hx
      refine ⟨fun ⟨y, hy, hm⟩ => ?_, fun hm => hm.elim (fun hm => absurd (own m hm.1) hm.2) fun hm => ⟨e, he, by rw [ht, hm.1]⟩⟩
      obtain rfl := Option.some.inj (he.symm.trans hy)
      exact .inr ⟨Option.some.inj (hm.symm.trans ht), rfl⟩
    · simp only [hx, and_false, or_false]
      rw [State.holds, entry x hx]
      split
      next href =>
        refine ⟨fun ⟨y, hy, hm⟩ => ?_, fun hm => absurd (State.holds_unique hm.1 ((named x).2 href)) hm.2⟩
        obtain ⟨z, -, rfl⟩ := Option.map_eq_some_iff.1 hy
        cases hm
      next href => exact ⟨fun hm => ⟨hm, fun he => href ((named x).1 (he ▸ hm))⟩, And.left⟩
  have opens (b) (hb : s.opens b) : u.opens b := by rw [State.opens, hu.state]; exact hb
  have old := h.tickets.range _ (Coding.mem_of_stray hr)
  refine State.Coheres.postResolved (h.relisted (t := u.moveRecord r .coded (some d.berth) (some d.entry)) (ps := [.berths, .coding])
    (State.changesOnly_comp hu.frame (State.changesOnly_setCoding _ _) (by simp) (by simp)) (by simp [manifestParts]) rides hu.state
    (h.tickets.revised (n := r.ticket) unique mem (fun x hx => ?_) (fun x m => ?_) opens fun x y hy hne => ?_)) _ _
  · obtain rfl := List.mem_singleton.1 hx
    refine ⟨rfl, old.1, old.2, fun _ => by simp, fun b hb => ?_⟩
    obtain rfl := Option.some.inj hb
    exact opens d.berth ho
  · refine (holds x m).trans (or_congr Iff.rfl (and_congr_right fun _ => ?_))
    rw [List.mem_singleton, Identity.reference, Prod.mk.injEq, Prod.mk.injEq, Option.some.injEq, Option.some.injEq]
    exact ⟨fun hx => hx ▸ ⟨rfl, rfl, rfl⟩, fun ⟨_, hb, hi⟩ => by cases x; cases d; cases hb; cases hi; rfl⟩
  · have hy : u.entryOf x = some y := hy
    by_cases hx : x = d
    · subst hx
      obtain rfl := Option.some.inj (he.symm.trans hy)
      exact hs
    · rw [entry x hx] at hy
      split at hy
      · obtain ⟨z, -, rfl⟩ := Option.map_eq_some_iff.1 hy
        exact absurd rfl hne
      · exact h.tickets.strayed x y hy hne

theorem State.bound_of_boundTo {n : Nat} {b : BerthId} (h : s.boundTo n = some b) : (s.berth b).state = .bound n := by
  have := List.find?_some h
  simpa using this

theorem State.Coheres.codeTag (h : s.Coheres K L R) (hm : s.manifestsAgree) {ship serial : Nat} {r : StrayRecord}
    (hr : r ∈ s.coding.strays) {u : State} {data : List Byte} (hu : s.codeTag ship serial r = .done u data) : u.Coheres K L R := by
  cases hb : s.boundTo ship with
  | none =>
    rw [State.codeTag, hb] at hu
    cases hu
  | some b =>
    cases he : (s.berth b).findSerial serial with
    | none =>
      simp only [State.codeTag, hb, he] at hu
      cases hu
    | some e =>
      rw [State.codeTag_known hb he] at hu
      split at hu
      · cases hu
      next hc =>
        have codable : e.codable r.ticket = true := by simpa using hc
        split at hu
        · cases hu
        · obtain ⟨rfl, -⟩ := Coded.done.inj hu
          have entry : s.entryOf ⟨b, e.index⟩ = some e :=
            (State.entryOf_iff hm ⟨b, e.index⟩ e).2 ⟨List.mem_of_find?_eq_some he, rfl⟩
          have named : ((s.leaveEntry r (some ⟨b, e.index⟩)).berth b).findEntry e.index = some e :=
            (s.entryOf_leaveEntry r (some ⟨b, e.index⟩) ⟨b, e.index⟩).trans ((if_neg fun h => h.2 rfl).trans entry)
          obtain ⟨own, others, -, -⟩ := Berth.setEntryState_spec named .strayed (some r.ticket)
          have codes := State.CodesEntry.of_leave (s := s) (r := r) (kept := some ⟨b, e.index⟩) (b := b) (n := e.index)
            (fun y hy => (Option.some.inj hy).symm) own others (Berth.state_setEntryState _ _ _ _)
            (Berth.deckMap_setEntryState _ _ _ _)
          refine h.codeTo hr codes (e := { e with state := .strayed, ticket := some r.ticket }) ?_ rfl rfl (fun m hx => ?_) ?_ ?_ .codeTag
          · rw [State.entryOf_setBerth, if_pos rfl]
            exact own
          · obtain ⟨x, hx, ht⟩ := hx
            obtain rfl := Option.some.inj (entry.symm.trans hx)
            rcases (Entry.codable_iff e r.ticket).1 codable with hs | hs | ⟨-, hs | hs⟩
            · rw [h.ticket_none entry (by simp [hs])] at ht
              cases ht
            · rw [h.ticket_none entry (by simp [hs])] at ht
              cases ht
            · rw [hs] at ht
              cases ht
            · rw [hs] at ht
              exact (Option.some.inj ht).symm
          · rintro ⟨x, hx, hl⟩
            obtain rfl := Option.some.inj (entry.symm.trans hx)
            rcases (Entry.codable_iff e r.ticket).1 codable with hs | hs | ⟨hs, -⟩ <;> simp [hs] at hl
          · rw [State.opens, State.bound_of_boundTo hb]
            rfl

theorem State.Coheres.codeCabin (h : s.Coheres K L R) {n cabin : Nat} {r : StrayRecord} (hr : r ∈ s.coding.strays) {u : State}
    {data : List Byte} (hu : s.codeCabin n cabin r = .done u data) : u.Coheres K L R := by
  unfold State.codeCabin at hu
  split at hu
  · cases hu
  next b _ =>
    split at hu
    · cases hu
    next hb =>
      split at hu
      · cases hu
      · split at hu
        · cases hu
        · split at hu
          · cases hu
          · split at hu
            · cases hu
            · obtain ⟨rfl, -⟩ := Coded.done.inj hu
              have index := s.freeIndex_leaveEntry r none b
              have own := ((s.leaveEntry r none).berth b).findEntry_makeEntry none cabin .strayed (some r.ticket)
              rw [index] at own
              have codes := State.CodesEntry.of_leave (s := s) (r := r) (kept := none) (b := b) (n := (s.berth b).freeIndex)
                (fun y hy => nomatch hy) ((own _).trans (if_pos rfl)) (fun m hm => (own m).trans (if_neg hm)) rfl rfl
              have new : s.entryOf ⟨b, (s.berth b).freeIndex⟩ = none := by
                refine List.find?_eq_none.2 fun e he => ?_
                have := (s.berth b).freeIndex_not_mem
                simpa using fun hi => this (List.mem_map.2 ⟨e, he, hi⟩)
              refine h.codeTo hr codes (e := ⟨(s.berth b).freeIndex, none, cabin, .strayed, some r.ticket⟩) ?_ rfl rfl ?_ ?_ ?_ .codeCabin
              · rw [State.entryOf_setBerth, if_pos rfl]
                exact (own _).trans (if_pos rfl)
              · rintro m ⟨x, hx, -⟩
                rw [new] at hx
                cases hx
              · rintro ⟨x, hx, -⟩
                rw [new] at hx
                cases hx
              · rw [State.opens]
                exact BerthState.isOpen_of_isBound (by simpa using hb)

end

end Sys2Proof.Machine

/-! SUPPORT. Manifest commands keep the agreement of the tables (R54, R64 to R70, R73, R74). -/

namespace Sys2Proof.Machine

/-- What a command's body answers agrees in itself. -/
def Taken.Kept (x : Taken) : Prop :=
  match x with
  | .refused _ => True
  | .ok t _ => t.Coherent

section
variable {s t : State} {K K' : Nat → Prop} {R R' : Nat → Nat → Prop} {L L' : Identity → Prop}

/-! ## A berth's tables edited -/

/-- An entry that neither is ON_LOOP nor holds a ticket. -/
def Entry.plain (e : Entry) : Prop := e.state ≠ .onLoop ∧ e.ticket = none

/-- A berth record whose entries are those of before, but for cabins and serials, and one that is plain before and after. -/
structure Berth.Edits (x r : Berth) (n : Nat) : Prop where
  state : r.state = x.state
  others : ∀ i, i ≠ n → (r.findEntry i).map (fun e => (e.state, e.ticket)) = (x.findEntry i).map fun e => (e.state, e.ticket)
  old : ∀ e, x.findEntry n = some e → e.plain
  new : ∀ e, r.findEntry n = some e → e.plain

theorem State.Coheres.edit (h : s.Coheres K L R) {b : BerthId} {r : Berth} {n : Nat} (he : (s.berth b).Edits r n) :
    (s.setBerth b r).Coheres K L R := by
  have entry (d) := s.entryOf_setBerth b r d
  have shown (d) (hd : d ≠ ⟨b, n⟩) : ((s.setBerth b r).entryOf d).map (fun e => (e.state, e.ticket))
      = (s.entryOf d).map fun e => (e.state, e.ticket) := by
    rw [entry]
    split
    next hb =>
      refine (he.others d.entry fun hn => hd ?_).trans (by rw [State.entryOf, hb])
      cases d
      cases hb
      cases hn
      rfl
    next => rfl
  have own (e) (hx : (s.setBerth b r).entryOf ⟨b, n⟩ = some e) : e.plain := by
    rw [entry, if_pos rfl] at hx
    exact he.new e hx
  have like (d) (hd : d ≠ ⟨b, n⟩) (p : EntryState → Option Nat → Prop) :
      (∃ e, (s.setBerth b r).entryOf d = some e ∧ p e.state e.ticket) ↔ ∃ e, s.entryOf d = some e ∧ p e.state e.ticket := by
    have same := shown d hd
    cases hx : s.entryOf d <;> cases hy : (s.setBerth b r).entryOf d <;> simp_all
  have state (c) : ((s.setBerth b r).berth c).state = (s.berth c).state := by
    by_cases hc : c = b
    · rw [hc, State.berth_setBerth, he.state]
    · rw [State.berth_setBerth_ne _ _ hc]
  refine h.relisted (s.changesOnly_setBerth b r) (by simp [manifestParts]) (fun d => ?_) state
    (h.tickets.congr (by rw [State.setBerth_coding]) (fun d m => ?_) (fun c hc => by rw [State.opens, state]; exact hc) fun d e hx hn => ?_)
  · by_cases hd : d = ⟨b, n⟩
    · subst hd
      exact ⟨fun ⟨e, hx, hs⟩ => absurd hs (own e hx).1, fun ⟨e, hx, hs⟩ => absurd hs (he.old e hx).1⟩
    · exact like d hd fun st _ => st = .onLoop
  · by_cases hd : d = ⟨b, n⟩
    · subst hd
      exact ⟨fun ⟨e, hx, hs⟩ => absurd ((own e hx).2.symm.trans hs) (by simp),
        fun ⟨e, hx, hs⟩ => absurd ((he.old e hx).2.symm.trans hs) (by simp)⟩
    · exact like d hd fun _ x => x = some m
  · by_cases hd : d = ⟨b, n⟩
    · subst hd
      exact absurd (own e hx).2 hn
    · obtain ⟨y, hy, hs, ht⟩ := (like d hd fun st x => st = e.state ∧ x = e.ticket).1 ⟨e, hx, rfl, rfl⟩
      rw [← hs]
      exact h.tickets.strayed d y hy (ht ▸ hn)

/-- A berth record with the entries of before. -/
theorem State.Coheres.recabin (h : s.Coheres K L R) (b : BerthId) {r : Berth} (ht : r.tags = (s.berth b).tags)
    (hs : r.state = (s.berth b).state) : (s.setBerth b r).Coheres K L R := by
  have found (i) : r.findEntry i = (s.berth b).findEntry i := congrArg (fun es : List Entry => es.find? fun e : Entry => e.index == i) ht
  have new : (s.berth b).findEntry (s.berth b).freeIndex = none := List.find?_eq_none.2 fun e he => by
    have := (s.berth b).freeIndex_not_mem
    simpa using fun hi => this (List.mem_map.2 ⟨e, he, hi⟩)
  refine h.edit (n := (s.berth b).freeIndex) ⟨hs, fun i _ => by rw [found], fun e he => ?_, fun e he => ?_⟩
  · rw [new] at he
    cases he
  · rw [found, new] at he
    cases he

/-! ## The berth lifecycle -/

/-- A berth passes to another state with its entries kept, the carriers of its pending records being in hand. -/
theorem State.Coheres.rebind (h : s.Coheres K L R) (b : BerthId) {x : BerthState} (ho : s.opens b → x.isOpen = true)
    (hK : (∀ r ∈ s.router.pendingTags, r.berth = b → K r.carrier) ∨ (s.berth b).state = .unbound) :
    (s.setBerth b { s.berth b with state := x }).Coheres K L R := by
  have entry (d) : (s.setBerth b { s.berth b with state := x }).entryOf d = s.entryOf d := by
    rw [s.entryOf_setBerth]
    split
    next hb => rw [State.entryOf, hb]; rfl
    next => rfl
  have opens (c) (hc : s.opens c) : (s.setBerth b { s.berth b with state := x }).opens c := by
    by_cases hb : c = b
    · rw [State.opens, hb, State.berth_setBerth]
      exact ho (hb ▸ hc)
    · rw [State.opens, State.berth_setBerth_ne _ _ hb]
      exact hc
  refine h.retold (s.changesOnly_setBerth b _) (by simp [manifestParts]) (fun d _ => by rw [State.rides, entry, State.rides])
    (fun d hd => opens _ (h.ids.opened d (by rw [State.rides, entry] at hd; exact hd)))
    (h.tickets.congr (by rw [State.setBerth_coding]) (fun d n => by rw [State.holds, entry, State.holds]) opens
      (by simpa only [entry] using h.tickets.strayed)) fun r hr hn c hc => ?_
  by_cases hb : r.berth = b
  · rcases hK with hK | hK
    · exact absurd (hK r hr hb) hn
    · rw [hb, hK] at hc
      cases hc
  · rw [State.berth_setBerth_ne _ _ hb]
    exact hc

theorem openBerthBody_kept (h : s.Coherent) (n ship : Nat) (p : Principal) : (openBerthBody n ship p s).Kept := by
  unfold openBerthBody
  split
  · trivial
  · split
    · trivial
    next b _ =>
      split
      · trivial
      · split
        · trivial
        next hu =>
          split
          · trivial
          · exact (State.Coheres.rebind h b (x := .bound ship) (fun _ => rfl) (.inr (by simpa using hu))).postHallAnd b _

/-- The carriers of a berth's pending records are WAITING and named by no other record (R86). -/
theorem State.Coheres.ready_strayPending (h : s.Coheres noneHeld L R) {b : BerthId} {k : Nat} (hk : k ∈ s.pendingCarriers b) :
    (s.setRouter { s.router with pendingTags := s.router.pendingTags.filter (·.berth != b) }).Ready k
      ∧ (s.carrier k).identity = none := by
  obtain ⟨r, hr, hx⟩ := List.any_eq_true.1 (List.mem_filter.1 hk).2
  rw [Bool.and_eq_true, beq_iff_eq, beq_iff_eq] at hx
  have hw : (s.carrier k).state = .waiting := by
    rw [← hx.2]
    exact (h.pend.waits r hr id).1
  obtain ⟨⟨mode, bagged, unarmed, -, queue⟩, free⟩ := h.ready_removePending (k := k) id hw
  refine ⟨⟨mode, bagged, unarmed, fun q hq he => ?_, queue⟩, free⟩
  obtain ⟨hq, hb⟩ := List.mem_filter.1 hq
  obtain rfl : q = r := List.inj_on_of_nodup_map h.pend.carriers hq hr (he.trans hx.2.symm)
  rw [hx.1, bne_self_eq_false] at hb
  cases hb

theorem State.pendingCarriers_nodup (s : State) (b : BerthId) : (s.pendingCarriers b).Nodup :=
  List.Nodup.filter _ List.nodup_range

theorem State.Coheres.pendingCarriers (h : s.Coheres noneHeld L R) {b : BerthId} {r : PendingTag} (hr : r ∈ s.router.pendingTags)
    (hb : r.berth = b) : r.carrier ∈ s.pendingCarriers b := by
  refine List.mem_filter.2 ⟨List.mem_range.2 (s.lt_of_carrier_ne fun he => ?_), List.any_eq_true.2 ⟨r, hr, by simp [hb]⟩⟩
  have := (h.pend.waits r hr id).1
  rw [he] at this
  cases this

/-- The pending records of a berth go, and their carriers become strays, whatever the berth's own record has become (R55, R57). -/
theorem State.Coheres.strayPending (h : s.Coheres noneHeld L R) {b : BerthId} {u : State} (hf : s.changesOnly u [.berths])
    (hu : u.Coheres (fun m => m ∈ s.pendingCarriers b) L R) (r : StrayReason) : (u.strayPending b r).Coheres noneHeld L R := by
  have carriers : u.carriers = s.carriers := hf .carriers (by simp)
  have router : u.router = s.router := hf .router (by simp)
  have same : u.pendingCarriers b = s.pendingCarriers b := by
    rw [State.pendingCarriers, State.pendingCarriers, State.carrierNumbers, State.carrierNumbers, carriers, router]
  unfold State.strayPending
  rw [same]
  refine State.Coheres.giveAll (s.pendingCarriers_nodup b) (State.Coheres.mono (hu.keepPending (K' := fun m => m ∈ s.pendingCarriers b)
    (·.berth != b) (fun q hq hb => h.pendingCarriers (router ▸ hq) (by simpa using hb)) fun _ => id) fun m hm => .inr hm) fun k hk => ?_
  obtain ⟨ready, free⟩ := h.ready_strayPending hk
  have frame : (s.setRouter { s.router with pendingTags := s.router.pendingTags.filter (·.berth != b) }).changesOnly
      (u.setRouter { u.router with pendingTags := u.router.pendingTags.filter (·.berth != b) }) [.berths] := by
    intro p hp
    cases p
    case router => exact congrArg (fun x : Router => { x with pendingTags := x.pendingTags.filter (·.berth != b) }) router
    all_goals exact hf _ hp
  have carrier : (u.setRouter { u.router with pendingTags := u.router.pendingTags.filter (·.berth != b) }).carrier k = s.carrier k :=
    State.carrier_eq_of_carriers carriers k
  refine ⟨ready.congr frame (by simp) ?_ ?_ ?_, ?_⟩
  · rw [carrier]
    exact id
  · rw [carrier]
    rfl
  · rw [carrier]
    rfl
  · rw [carrier]
    simp [free]

theorem closeSailingBody_kept (h : s.Coherent) (p : Principal) : (closeSailingBody p s).Kept := by
  unfold closeSailingBody
  split
  · trivial
  next b =>
    split
    · trivial
    · trivial
    next ship _ =>
      have held : s.Coheres (fun m => m ∈ s.pendingCarriers b) noneLost inReach := State.Coheres.mono h fun _ hk => hk.elim
      have closing := held.rebind b (x := .closing ship) (fun _ => rfl) (.inl fun r hr hb => h.pendingCarriers hr hb)
      exact ((h.strayPending (s.changesOnly_setBerth b _) closing .berthClosing).postHallAnd b _).testClosing b

/-! ## Bags that leave the manifest -/

/-- A carrier not in hand gives up its identity, which is left out, and keeps what pending records and queues show. -/
theorem State.Coheres.strip (h : s.Coheres K L R) {k : Nat} {c : Carrier} (hc : c.identity = none)
    (hl : ∀ d, (s.carrier k).identity = some d → L d) (hs : c.state = (s.carrier k).state) (hx : c.candidate = (s.carrier k).candidate)
    (ha : c.armed = (s.carrier k).armed) (ht : c.target = (s.carrier k).target) (hf : ¬K k → c.fieldsAgree) :
    (s.setCarrier k c).Coheres K L R := by
  have held := (h.take k).dropName (.inr rfl) hc hl
  have other (m) (hm : m ≠ k) : (s.setCarrier k c).carrier m = s.carrier m := s.carrier_setCarrier_ne c hm
  have shown (m) : ((s.setCarrier k c).carrier m).state = (s.carrier m).state ∧ ((s.setCarrier k c).carrier m).candidate = (s.carrier m).candidate
      ∧ ((s.setCarrier k c).carrier m).armed = (s.carrier m).armed ∧ ((s.setCarrier k c).carrier m).target = (s.carrier m).target := by
    rw [State.carrier_setCarrier]
    split
    next he =>
      obtain ⟨rfl, -⟩ := he
      exact ⟨hs, hx, ha, ht⟩
    next => exact ⟨rfl, rfl, rfl, rfl⟩
  refine ⟨held.counted, held.offsets, held.ids, held.tickets, fun m hm => ?_, fun hmode m hm => (shown m).1.trans (h.setup hmode m hm),
    h.pend.congr rfl (fun m _ => ⟨(shown m).1, (shown m).2.1⟩) fun _ _ _ _ => id,
    h.arm.congr (fun _ => rfl) rfl (fun _ => rfl)
      (fun m _ => ⟨by rw [(shown m).1], (shown m).2.2.1, fun _ => (shown m).2.2.2⟩) .inl⟩
  rw [State.carrier_setCarrier]
  split
  next he =>
    obtain ⟨rfl, -⟩ := he
    exact hf hm
  next => exact h.fields m hm

theorem State.Coheres.riding (h : s.Coheres K L R) {k : Nat} (hk : ¬K k) {d : Identity} (hd : (s.carrier k).identity = some d) :
    (s.carrier k).state = .carrying ∨ (s.carrier k).state = .fired := by
  obtain ⟨hempty, -, hun, hwait, -⟩ := h.fields k hk
  cases hs : (s.carrier k).state with
  | empty =>
    rw [hempty hs] at hd
    cases hd
  | unread =>
    rw [(hun (.inl hs)).1] at hd
    cases hd
  | waiting =>
    rw [(hwait hs).1] at hd
    cases hd
  | carrying => exact .inl rfl
  | fired => exact .inr rfl
  | unverified =>
    rw [(hun (.inr hs)).1] at hd
    cases hd

/-- An armed or FIRED carrier's bag leaves the manifest (R57, R72). -/
theorem State.Coheres.disown (h : s.Coheres K L R) {k : Nat} (hk : ¬K k) (r : StrayReason)
    (hs : (s.carrier k).state = .carrying ∨ (s.carrier k).state = .fired) (hl : ∀ d, (s.carrier k).identity = some d → L d) :
    (s.disown k r).Coheres K L R := by
  refine h.strip rfl hl rfl rfl rfl rfl fun _ => ?_
  obtain ⟨hempty, hload, hun, hwait, -, hfire, harm⟩ := h.fields k hk
  have loaded : (s.carrier k).state ≠ .empty := by rcases hs with hs | hs <;> simp [hs]
  refine ⟨fun he => absurd he loaded, hload, fun he => ?_, fun he => ?_, fun _ => ⟨by simp, by simp⟩, hfire, harm⟩
  · rcases hs with hs | hs <;> rcases he with he | he <;> exact nomatch hs.symm.trans he
  · rcases hs with hs | hs <;> exact nomatch hs.symm.trans he

/-- A carrier's bag leaves the manifest and becomes a stray, with its choice (R57, R72). -/
theorem State.Coheres.strayUnlisted (h : s.Coheres K L R) {k : Nat} (hk : ¬K k) (r : StrayReason) (hr : (s.carrier k).isReachable = true)
    (hl : ∀ d, (s.carrier k).identity = some d → L d) : (s.strayUnlisted k r).Coheres K L R := by
  obtain ⟨hs, ha⟩ := (Carrier.isReachable_iff _).1 hr
  have ready := h.ready hk (by simp [hs]) (by simp [hs]) ha
  have own : (s.setCarrier k { s.carrier k with identity := none }).carrier k = { s.carrier k with identity := none } :=
    s.carrier_setCarrier_same _ (Carrier.lt_of_bagged ready.bagged)
  refine State.Coheres.chooseTarget (State.Coheres.enterDisposition ((h.take k).dropName (.inr rfl) (by rfl) hl)
    (ready.congr (s.changesOnly_storeCarrier k _) (by simp) ?_ ?_ ?_) ?_) k
  · rw [own]
    exact id
  · rw [own]
  · rw [own]
  · rw [own]
    simp

theorem State.Coheres.strayAllUnlisted {ks : List Nat} (hn : ks.Nodup) (h : s.Coheres noneHeld L R) (r : StrayReason)
    (hk : ∀ k ∈ ks, (s.carrier k).isReachable = true ∧ ∀ d, (s.carrier k).identity = some d → L d) :
    (Machine.forEach ks (fun s k => s.strayUnlisted k r) s).Coheres noneHeld L R := by
  induction ks generalizing s with
  | nil => exact h
  | cons k ks ih =>
    obtain ⟨hnew, hn⟩ := List.nodup_cons.1 hn
    obtain ⟨hr, hl⟩ := hk k (.head _)
    have hlt : k < s.carriers.table.length := s.lt_of_carrier_ne fun he => by rw [he] at hr; cases hr
    refine ih hn (h.strayUnlisted id r hr hl) fun m hm => ?_
    rw [(s.unlists_strayUnlisted r hlt).2.2.2.1 m fun he => hnew (List.mem_singleton.1 he ▸ hm)]
    exact hk m (.tail _ hm)

theorem State.Coheres.disownAll {ks : List Nat} (hn : ks.Nodup) (h : s.Coheres noneHeld L R) (r : StrayReason)
    (hk : ∀ k ∈ ks, ((s.carrier k).state = .carrying ∨ (s.carrier k).state = .fired) ∧ ∀ d, (s.carrier k).identity = some d → L d) :
    (Machine.forEach ks (fun s k => s.disown k r) s).Coheres noneHeld L R := by
  induction ks generalizing s with
  | nil => exact h
  | cons k ks ih =>
    obtain ⟨hnew, hn⟩ := List.nodup_cons.1 hn
    obtain ⟨hr, hl⟩ := hk k (.head _)
    refine ih hn (h.disown id r hr hl) fun m hm => ?_
    have same : (s.disown k r).carrier m = s.carrier m := s.carrier_setCarrier_ne _ fun he => hnew (he ▸ hm)
    rw [same]
    exact hk m (.tail _ hm)

/-! ## FORCE CLOSE -/

theorem State.identity_of_isOf {k : Nat} {b : BerthId} (h : (s.carrier k).isOf b = true) :
    ∀ d, (s.carrier k).identity = some d → d.berth = b := by
  intro d hd
  simpa [Carrier.isOf, hd] using h

theorem State.Coheres.disownBerth (h : s.Coheres noneHeld L R) (b : BerthId) (hl : ∀ d, d.berth = b → L d) :
    (s.disownBerth b).Coheres noneHeld L R := by
  have pended : (s.strayPending b .berthClosed).Coheres noneHeld L R :=
    h.strayPending (s.changesOnly_refl _) (h.mono fun _ hk => hk.elim) .berthClosed
  have unarmed := pended.strayAllUnlisted (ks := (s.strayPending b .berthClosed).carriersWith fun c => c.isOf b && c.isReachable)
    (State.nodup_carriersWith _ _) .berthClosed fun k hk => by
      obtain ⟨ho, hr⟩ := Bool.and_eq_true_iff.1 (List.mem_filter.1 hk).2
      exact ⟨hr, fun d hd => hl d (State.identity_of_isOf ho d hd)⟩
  refine unarmed.disownAll (State.nodup_carriersWith _ _) .berthClosed fun k hk => ?_
  obtain ⟨ho, hr⟩ := Bool.and_eq_true_iff.1 (List.mem_filter.1 hk).2
  have others := State.unlists_all (s.strayPending b .berthClosed)
    ((s.strayPending b .berthClosed).carriersWith fun c => c.isOf b && c.isReachable) .berthClosed
    fun m hm => List.mem_range.1 (List.mem_filter.1 hm).1
  rw [others.2.2.2.1 k fun hm => by
    have := (Bool.and_eq_true_iff.1 (List.mem_filter.1 hm).2).2
    rw [this] at hr
    cases hr]
  refine ⟨?_, fun d hd => hl d (State.identity_of_isOf ho d hd)⟩
  cases hd : ((s.strayPending b .berthClosed).carrier k).identity with
  | none =>
    rw [Carrier.isOf, hd] at ho
    cases ho
  | some d => exact pended.riding id hd

theorem forceCloseBody_kept (h : s.Coherent) (n : Nat) (p : Principal) : (forceCloseBody n p s).Kept := by
  unfold forceCloseBody
  split
  · trivial
  · split
    · trivial
    next b _ =>
      split
      · trivial
      · have lost : s.Coheres noneHeld (fun d => d.berth = b) inReach :=
          { h with ids := ⟨h.ids.opened, fun k d _ => h.ids.named k d id, h.ids.once, fun d _ => h.ids.carried d id⟩ }
        obtain ⟨-, router, -, -, -, each⟩ := s.disownBerth_spec b
        refine State.Coheres.postHallAnd ((lost.disownBerth b fun _ => id).perBerthClear (fun k d hd hb => ?_) (fun r hr => ?_)
          fun d hd => .inr hd) b _
        · have free : ((s.disownBerth b).carrier k).isOf b = false := by
            rw [each k]
            split
            · rfl
            next hn => simpa using hn
          rw [Carrier.isOf, hd] at free
          simp [hb] at free
        · rw [router] at hr
          simpa using (List.mem_filter.1 hr).2

end

end Sys2Proof.Machine

/-! SUPPORT. Commands on cabins, tag entries and decks keep the agreement of the tables (R66 to R74). -/

namespace Sys2Proof.Machine

section
variable {s t : State} {K K' : Nat → Prop} {R R' : Nat → Nat → Prop} {L L' : Identity → Prop}

theorem asManifest_kept {p : Principal} {body : BerthId → Berth → Taken}
    (h : ∀ b, (s.berth b).state.isOpen = true → (body b (s.berth b)).Kept) : (asManifest p s body).Kept := by
  unfold asManifest
  split
  · trivial
  · split
    next hopen => exact h _ hopen
    next => trivial

/-! ## Cabins and decks -/

theorem loadCabinBody_kept (h : s.Coherent) (n d x : Nat) (p : Principal) : (loadCabinBody n d x p s).Kept := by
  refine asManifest_kept fun b _ => ?_
  split
  · trivial
  split
  · split
    · trivial
    · exact State.Coheres.recabin h b rfl rfl
  next old hold =>
    have edited := State.Coheres.recabin h b (r := (s.berth b).modifyCabin n fun _ => { old with deck := d, expected := min 15 x }) rfl rfl
    unfold Taken.Kept
    dsimp only
    split
    · exact edited
    · exact edited.rechooseAll _

theorem setDeckGroupBody_kept (h : s.Coherent) (d : Nat) (g : Option Nat) (p : Principal) : (setDeckGroupBody d g p s).Kept := by
  refine asManifest_kept fun b _ => ?_
  split
  · trivial
  dsimp only
  split
  · exact h
  · exact State.Coheres.rechooseAll (State.Coheres.recabin h b (r := (s.berth b).mapDeck d g) rfl rfl) _

theorem State.reached_spec {b : BerthId} {p : Entry → Bool} {k : Nat} (h : k ∈ s.reached b p) :
    (s.carrier k).isReachable = true ∧ (s.carrier k).identity ≠ none := by
  obtain ⟨hr, hi⟩ := Bool.and_eq_true_iff.1 (List.mem_filter.1 h).2
  refine ⟨hr, fun hn => ?_⟩
  rw [hn] at hi
  cases hi

theorem dispositionOf_listed (held : Bool) : dispositionOf held = .delivery ∨ dispositionOf held = .hold := by
  cases held
  · exact .inl rfl
  · exact .inr rfl

theorem State.Coheres.ready_reachable (h : s.Coheres K L R) {k : Nat} (hk : ¬K k) (hr : (s.carrier k).isReachable = true) : s.Ready k := by
  obtain ⟨hs, ha⟩ := (Carrier.isReachable_iff _).1 hr
  exact h.ready hk (by simp [hs]) (by simp [hs]) ha

theorem setCabinHoldBody_kept (h : s.Coherent) (n : Nat) (held : Bool) (p : Principal) : (setCabinHoldBody n held p s).Kept := by
  refine asManifest_kept fun b _ => ?_
  split
  · trivial
  split
  · trivial
  next c hc =>
    split
    · exact h
    · have edited := State.Coheres.recabin h b (r := (s.berth b).modifyCabin n fun c => { c with held := held }) rfl rfl
      refine State.Coheres.giveAll ((State.reached_nodup _ _ _).filter _) (edited.mono fun _ hk => hk.elim) fun k hk => ?_
      obtain ⟨hr, hi⟩ := State.reached_spec (List.mem_filter.1 hk).1
      exact ⟨edited.ready_reachable id hr, iff_of_true hi (dispositionOf_listed held)⟩

/-! ## Entries made -/

theorem Berth.findEntry_freeIndex (r : Berth) : r.findEntry r.freeIndex = none :=
  List.find?_eq_none.2 fun e he => by
    have := r.freeIndex_not_mem
    simpa using fun hi => this (List.mem_map.2 ⟨e, he, hi⟩)

theorem State.Coheres.makeEntry (h : s.Coheres K L R) (b : BerthId) (serial : Option Nat) (cabin : Nat) :
    (s.setBerth b ((s.berth b).makeEntry serial cabin .expected none)).Coheres K L R := by
  have entry := (s.berth b).findEntry_makeEntry serial cabin .expected none
  refine h.edit (n := (s.berth b).freeIndex) ⟨rfl, fun i hi => by rw [entry, if_neg hi], fun e he => ?_, fun e he => ?_⟩
  · rw [Berth.findEntry_freeIndex] at he
    cases he
  · rw [entry, if_pos rfl] at he
    obtain rfl := Option.some.inj he
    exact ⟨by simp, rfl⟩

theorem State.Coheres.matchPending (h : s.Coheres noneHeld L R) (hl : ∀ d, ¬L d) {k : Nat} {d : Identity} {e : Entry}
    (hw : (s.carrier k).state = .waiting) (he : s.entryOf d = some e) (hs : e.state = .expected) (ho : s.opens d.berth) :
    (s.matchPending k d).Coheres noneHeld L R := by
  obtain ⟨ready, free⟩ := h.ready_removePending id hw
  exact State.Coheres.chooseTarget (State.Coheres.matchEntry (h.removePending k) ready free (hl d) he (by simp [hs])
    (h.ticket_none he (by simp [hs])) ho) k

theorem loadTagBody_kept (h : s.Coherent) (n c : Nat) (p : Principal) : (loadTagBody n c p s).Kept := by
  refine asManifest_kept fun b hopen => ?_
  split
  · trivial
  split
  · trivial
  split
  · trivial
  split
  · trivial
  have made := State.Coheres.makeEntry h b (some n) c
  dsimp only
  split
  · exact made
  next t ht =>
    have frame := s.changesOnly_setBerth b ((s.berth b).makeEntry (some n) c .expected none)
    have router : (s.setBerth b ((s.berth b).makeEntry (some n) c .expected none)).router = s.router := frame .router (by simp)
    refine made.matchPending (e := ⟨(s.berth b).freeIndex, some n, c, .expected, none⟩) (fun _ => id) ?_ ?_ rfl ?_
    · have waiting := (h.pend.waits t (router ▸ List.mem_of_find?_eq_some ht) id).1
      rw [State.carrier_eq_of_carriers (frame .carriers (by simp))]
      exact waiting
    · rw [State.entryOf_setBerth, if_pos rfl, Berth.findEntry_makeEntry, if_pos rfl]
    · rw [State.opens, State.berth_setBerth]
      exact hopen

/-! ## Entries moved and released -/

theorem State.Coheres.followAll {ks : List Nat} {d : Disposition} (hn : ks.Nodup) (hd : d = .delivery ∨ d = .hold) (h : s.Coheres noneHeld L R)
    (hk : ∀ k ∈ ks, (s.carrier k).isReachable = true ∧ (s.carrier k).identity ≠ none) : (s.followAll ks d).Coheres noneHeld L R := by
  induction ks generalizing s with
  | nil => exact h
  | cons k ks ih =>
    obtain ⟨hnew, hn⟩ := List.nodup_cons.1 hn
    obtain ⟨hr, hi⟩ := hk k (.head _)
    have ready := h.ready_reachable id hr
    have apart {m} (hm : m ∈ ks) : m ∉ [k] := fun he => hnew (List.mem_singleton.1 he ▸ hm)
    refine ih hn ?_ fun m hm => ?_
    · dsimp only
      split
      · exact h.rechoose k
      · exact ((h.take k).enterDisposition ready (iff_of_true hi hd)).chooseTarget k
    · have same : (if (s.carrier k).disposition = some d then s.rechoose k else s.giveDisposition k d).carrier m = s.carrier m := by
        split
        · obtain ⟨-, -, -, -, -, -, others⟩ := s.retargets_rechoose k
          exact others m (apart hm)
        · obtain ⟨-, -, -, others, -⟩ := s.disposes_giveDisposition d (Carrier.lt_of_bagged ready.bagged)
          exact others m (apart hm)
      rw [same]
      exact hk m (.tail _ hm)

theorem State.Coheres.moveEntry (h : s.Coheres K L R) (b : BerthId) (e : Entry) (cabin : Nat) :
    (s.setBerth b ((s.berth b).moveEntry e cabin)).Coheres K L R := by
  have entry := (s.berth b).findEntry_moveEntry e cabin
  have new := (s.berth b).findEntry_freeIndex
  refine h.edit (n := (s.berth b).freeIndex) ⟨rfl, fun i _ => ?_, fun x hx => ?_, fun x hx => ?_⟩
  · rw [entry, Option.map_map]
    refine congrArg (Option.map · _) (funext fun x => ?_)
    dsimp only [Function.comp]
    split <;> rfl
  · rw [new] at hx
    cases hx
  · rw [entry, new] at hx
    cases hx

theorem moveTagBody_kept (h : s.Coherent) (ref : EntryRef) (n : Nat) (p : Principal) : (moveTagBody ref n p s).Kept := by
  refine asManifest_kept fun b _ => ?_
  split
  · trivial
  split
  next e c he hc =>
    split
    · exact h
    split
    · trivial
    · show State.Coherent _
      rw [State.followMove_eq]
      exact State.Coheres.followAll (State.reached_nodup _ _ _) (dispositionOf_listed _) (State.Coheres.moveEntry h b e n)
        fun k hk => State.reached_spec hk
  · trivial

theorem Berth.findEntry_of_findRef {r : Berth} (hm : r.manifestAgrees) {ref : EntryRef} {e : Entry} (h : r.findRef ref = some e) :
    r.findEntry e.index = some e :=
  (Berth.findEntry_iff hm.2.1 e.index e).2 ⟨Berth.mem_of_findRef h, rfl⟩

theorem releaseHoldBagBody_kept (h : s.Coherent) (hm : s.manifestsAgree) (ref : EntryRef) (p : Principal) :
    (releaseHoldBagBody ref p s).Kept := by
  refine asManifest_kept fun b _ => ?_
  split
  · trivial
  split
  · trivial
  next e he =>
    split
    · trivial
    next hs =>
      have hold : e.state = .inHold := by simpa using hs
      have entry : s.entryOf ⟨b, e.index⟩ = some e := Berth.findEntry_of_findRef (hm b).1 he
      refine State.Coheres.setEntryState h (o := ⟨b, e.index⟩) (fun x hx => ?_) (fun _ => ⟨by simp, ?_⟩) fun hx => by cases hx
      · obtain rfl := Option.some.inj (entry.symm.trans hx)
        exact State.Coheres.ticket_none h entry (by simp [hold])
      · rintro ⟨x, hx, hr⟩
        obtain rfl := Option.some.inj (entry.symm.trans hx)
        rw [hold] at hr
        cases hr

/-! ## Entries removed -/

theorem State.entryOf_removeEntry (s : State) (b : BerthId) (e : Entry) (d : Identity) :
    (s.setBerth b ((s.berth b).removeEntry e)).entryOf d = if d = ⟨b, e.index⟩ then none else s.entryOf d := by
  rw [s.entryOf_setBerth, Berth.findEntry_removeEntry]
  obtain ⟨c, i⟩ := d
  by_cases hc : c = b
  · subst hc
    by_cases hi : i = e.index
    · simp [hi]
    · simp [hi, State.entryOf]
  · simp [hc]

theorem State.rides_removeEntry (s : State) (b : BerthId) (e : Entry) (d : Identity) :
    (s.setBerth b ((s.berth b).removeEntry e)).rides d ↔ d ≠ ⟨b, e.index⟩ ∧ s.rides d := by
  rw [State.rides, s.entryOf_removeEntry, State.rides]
  split
  next hd => simp [hd]
  next hd => simp [hd]

theorem State.state_removeEntry (s : State) (b : BerthId) (e : Entry) (c : BerthId) :
    ((s.setBerth b ((s.berth b).removeEntry e)).berth c).state = (s.berth c).state := by
  by_cases hc : c = b
  · rw [hc, State.berth_setBerth]
    rfl
  · rw [State.berth_setBerth_ne _ _ hc]

/-- An entry without a ticket is removed; one that is ON_LOOP is left out. -/
theorem State.Coheres.removeEntry (h : s.Coheres K L R) {b : BerthId} {e : Entry} (he : s.entryOf ⟨b, e.index⟩ = some e)
    (ht : e.ticket = none) (hl : ¬L ⟨b, e.index⟩ → e.state ≠ .onLoop) :
    (s.setBerth b ((s.berth b).removeEntry e)).Coheres K L R := by
  have entry := s.entryOf_removeEntry b e
  have state := s.state_removeEntry b e
  refine h.retold (s.changesOnly_setBerth b _) (by simp [manifestParts]) (fun d hd => ?_) (fun d hd => ?_)
    (h.tickets.congr (by rw [State.setBerth_coding]) (fun d n => ?_) (fun c hc => by rw [State.opens, state]; exact hc) fun d x hx hn => ?_)
    fun r _ _ c hc => (state _).trans hc
  · refine (s.rides_removeEntry b e d).trans ⟨And.right, fun hr => ⟨fun hx => ?_, hr⟩⟩
    obtain ⟨x, hx', hs⟩ := hr
    rw [hx, he] at hx'
    obtain rfl := Option.some.inj hx'
    exact hl (hx ▸ hd) hs
  · rw [State.opens, state]
    exact h.ids.opened d ((s.rides_removeEntry b e d).1 hd).2
  · rw [State.holds, entry]
    split
    next hd =>
      refine ⟨fun ⟨x, hx, _⟩ => (by cases hx), fun ⟨x, hx, hn⟩ => ?_⟩
      rw [hd, he] at hx
      obtain rfl := Option.some.inj hx
      rw [ht] at hn
      cases hn
    next => rfl
  · rw [entry] at hx
    split at hx
    · cases hx
    · exact h.tickets.strayed d x hx hn

theorem Coding.references_forgetEntry (c : Coding) (b : BerthId) (i : Nat) :
    (c.forgetEntry b i).references = c.references.map (forgotten fun x y => x == some b && y == some i) := by
  simp only [Coding.references, Coding.forgetEntry, List.map_append, List.map_map]
  congr 1
  · refine List.map_congr_left fun r _ => ?_
    simp only [Function.comp, StrayRecord.forgetEntry, forgotten]
    split <;> rfl
  · refine List.map_congr_left fun r _ => ?_
    simp only [Function.comp, ReinjectRecord.forgetEntry, forgotten]
    split <;> rfl

/-- A STRAYED entry is removed, and so are the references to it. -/
theorem State.Coheres.forgetEntry (h : s.Coheres K L R) {b : BerthId} {e : Entry} (he : s.entryOf ⟨b, e.index⟩ = some e)
    (hs : e.state = .strayed) : ((s.setBerth b ((s.berth b).removeEntry e)).setCoding (s.coding.forgetEntry b e.index)).Coheres K L R := by
  have state := s.state_removeEntry b e
  refine h.relisted (ps := [.berths, .coding])
    (State.changesOnly_comp (s.changesOnly_setBerth b _) (State.changesOnly_setCoding _ _) (by simp) (by simp)) (by simp [manifestParts])
    (fun d => (s.rides_removeEntry b e d).trans ⟨And.right, fun hr => ⟨fun hd => ?_, hr⟩⟩) state
    (h.tickets.forget (Coding.references_forgetEntry _ b e.index) (fun d => ?_) fun c x _ hc => ?_)
  · obtain ⟨x, hx, hl⟩ := hr
    rw [hd, he] at hx
    obtain rfl := Option.some.inj hx
    rw [hs] at hl
    cases hl
  · refine (s.entryOf_removeEntry b e d).trans ?_
    obtain ⟨c, i⟩ := d
    simp
  · show ((s.setBerth b ((s.berth b).removeEntry e)).berth c).state.isOpen = true
    rw [state]
    exact hc

/-- The carrier of a withdrawn entry (R72). -/
theorem State.Coheres.withdrawFrom (h : s.Coheres noneHeld L R) {k : Nat} {d : Identity} (hd : (s.carrier k).identity = some d)
    (hl : L d) : (s.withdrawFrom k).Coheres noneHeld L R := by
  have lost (x) (hx : (s.carrier k).identity = some x) : L x := Option.some.inj (hd.symm.trans hx) ▸ hl
  unfold State.withdrawFrom
  split
  next hr => exact h.strayUnlisted id .withdrawn hr lost
  next => exact h.disown id .withdrawn (h.riding id hd) lost

theorem withdrawTagBody_kept (h : s.Coherent) (hm : s.manifestsAgree) (ref : EntryRef) (p : Principal) : (withdrawTagBody ref p s).Kept := by
  refine asManifest_kept fun b _ => ?_
  split
  · trivial
  split
  · trivial
  next e he =>
    have entry : s.entryOf ⟨b, e.index⟩ = some e := Berth.findEntry_of_findRef (hm b).1 he
    have plain (hs : e.state ≠ .onLoop) (hn : e.state ≠ .strayed) : (s.setBerth b ((s.berth b).removeEntry e)).Coherent :=
      State.Coheres.removeEntry h entry (State.Coheres.ticket_none h entry hn) fun _ => hs
    dsimp only
    split
    next hs =>
      obtain ⟨k, hk⟩ := h.ids.carried ⟨b, e.index⟩ id ⟨e, entry, hs⟩
      have frame := s.changesOnly_setBerth b ((s.berth b).removeEntry e)
      have carrier (m) := State.carrier_eq_of_carriers (t := s.setBerth b ((s.berth b).removeEntry e)) (frame .carriers (by simp)) m
      have removed : (s.setBerth b ((s.berth b).removeEntry e)).Coheres noneHeld (alsoLost noneLost ⟨b, e.index⟩) inReach :=
        (State.Coheres.lose h _).removeEntry entry (State.Coheres.ticket_none h entry (by simp [hs])) fun hn => absurd (.inr rfl) hn
      have holder : s.holderOf b e.index = some k := by
        have mem : k ∈ s.carriersWith fun c => c.identity == some ⟨b, e.index⟩ :=
          (State.mem_carriersWith rfl k).2 (by simp [hk])
        cases hh : s.holderOf b e.index with
        | none =>
          rw [List.head?_eq_none_iff.1 hh] at mem
          cases mem
        | some m =>
          have := (State.mem_carriersWith (s := s) rfl m).1 (List.mem_of_head? hh)
          rw [h.ids.once m k ⟨b, e.index⟩ (by simpa using this) hk]
      show State.Coherent (State.testClosing _ b)
      rw [holder]
      have withdrawn := removed.withdrawFrom (k := k) (d := ⟨b, e.index⟩) (by rw [carrier]; exact hk) (.inr rfl)
      have hlt : k < (s.setBerth b ((s.berth b).removeEntry e)).carriers.table.length :=
        State.lt_of_carrier_ne _ fun hx => by
          rw [carrier] at hx
          rw [hx] at hk
          cases hk
      obtain ⟨frame', -, others, free, -⟩ := State.withdrawFrom_spec _ hlt
      refine State.Coheres.testClosing (withdrawn.found (fun hr => ?_) fun m hx => ?_) b
      · have hr : (s.setBerth b ((s.berth b).removeEntry e)).rides ⟨b, e.index⟩ := by
          obtain ⟨x, hx, hl⟩ := hr
          exact ⟨x, (State.entryOf_congr (frame' .berths (by simp)) _).symm.trans hx, hl⟩
        exact ((s.rides_removeEntry b e _).1 hr).1 rfl
      · by_cases hmk : m = k
        · rw [hmk, free] at hx
          cases hx
        · rw [others m hmk, carrier] at hx
          exact hmk (h.ids.once m k _ hx hk)
    next hs =>
      have forgotten := State.Coheres.forgetEntry h entry hs
      rw [← s.setBerth_coding b ((s.berth b).removeEntry e)] at forgotten
      exact forgotten
    all_goals exact plain (by simp [*]) (by simp [*])

end

end Sys2Proof.Machine

/-! SUPPORT. Commands and events of lanes keep the agreement of the tables (R105 to R120). -/

namespace Sys2Proof.Machine

section
variable {s t : State} {K K' : Nat → Prop} {R R' : Nat → Nat → Prop} {L L' : Identity → Prop}

/-! ## Offsets, while no carrier is armed -/

/-- With no carrier armed, offsets and K may change. -/
theorem State.ArmAgrees.idling (h : s.ArmAgrees K R) (hq : ∀ j, (s.diverter j).queue = [])
    (hq' : ∀ j, (t.diverter j).queue = []) (hc : ∀ k, ¬K k → (t.carrier k).armed = (s.carrier k).armed
      ∧ (t.carrier k).target = (s.carrier k).target) : t.ArmAgrees K R' := by
  refine ⟨fun j k hk => ?_, fun j => ?_, fun k j hn ha ht => ?_, fun _ => hq'⟩
  · rw [hq'] at hk
    cases hk
  · rw [hq']
    exact .nil
  · obtain ⟨harm, htg⟩ := hc k hn
    have := h.armed k j hn (harm.symm.trans ha) (htg.symm.trans ht)
    rw [hq] at this
    cases this

/-- A lane's record, with an offset below C. -/
theorem State.Coheres.placeLane (h : s.Coheres K L R) (hm : s.mode = .setup) (j : LaneNo) {x : Lane}
    (hx : ∀ d ∈ x.offset, d < s.loop.count) : (s.setLane j x).Coheres K L R := by
  have idle := h.arm.idle (.inl hm)
  refine { h with
    offsets := ⟨h.offsets.1, h.offsets.2.1, fun i d hd => ?_⟩
    ids := ⟨h.ids.opened, h.ids.named, h.ids.once, h.ids.carried⟩
    tickets := ⟨h.tickets.unique, h.tickets.range, h.tickets.whole, h.tickets.opened, h.tickets.held, h.tickets.strayed⟩
    pend := ⟨h.pend.carriers, h.pend.tags, h.pend.waits, h.pend.listed⟩
    arm := h.arm.idling idle idle fun _ _ => ⟨rfl, rfl⟩ }
  by_cases hi : i = j
  · rw [hi, State.lane_setLane] at hd
    exact hx d hd
  · rw [State.lane_setLane_ne _ _ hi] at hd
    exact h.offsets.2.2 i d hd

theorem isOffset_spec {n : Nat} {o : Option Nat} (h : isOffset n o = true) : ∀ d ∈ o, d < n := by
  intro d hd
  obtain rfl : o = some d := hd
  simpa [isOffset] using h

theorem configureLaneBody_kept (h : s.Coherent) (n : Nat) (o : Option Nat) (c : Nat) (p : Principal) : (configureLaneBody n o c p s).Kept := by
  unfold configureLaneBody
  split
  · trivial
  split
  · trivial
  next hmode =>
    split
    · trivial
    next j _ =>
      dsimp only
      split
      · trivial
      next ho =>
        split
        · trivial
        · have placed := State.Coheres.placeLane h (by simpa using hmode) j
            (x := { s.lane j with offset := o, capacity := (s.lane j).clampCapacity c }) (isOffset_spec (by simpa using ho))
          unfold Taken.Kept
          dsimp only
          split
          · exact placed
          · exact placed.setDiverter j rfl

theorem setLaneCapacityBody_kept (h : s.Coherent) (n c : Nat) (p : Principal) : (setLaneCapacityBody n c p s).Kept := by
  unfold setLaneCapacityBody
  split
  · trivial
  split
  · trivial
  · exact State.Coheres.setLane h _ (by rfl)

/-! ## Lane changes -/

theorem State.Coheres.postLaneState (h : s.Coheres K L R) (j : LaneNo) (c : LaneCause) : (s.postLaneState j c).Coheres K L R :=
  h.postOwner _ _

theorem State.Coheres.changeLane (h : s.Coheres K L R) (j : LaneNo) {x : Lane} (hx : x.offset = (s.lane j).offset) (c : LaneCause) :
    (s.changeLane j x c).Coheres K L R :=
  State.Coheres.postLaneState ((h.setLane j hx).rechooseLane j) j c

theorem State.Coheres.returnLane (h : s.Coheres K L R) (j : LaneNo) : (s.returnLane j).Coheres K L R :=
  State.Coheres.rechooseLane (h.setLane j (by rfl)) j

theorem asOwner_kept {p : Principal} {n : Nat} {body : LaneNo → Lane → Taken} (h : ∀ j, (body j (s.lane j)).Kept) :
    (asOwner p s n body).Kept := by
  unfold asOwner
  split
  · trivial
  · split
    · exact h _
    · trivial

theorem claimLaneBody_kept (h : s.Coherent) (n : Nat) (p : Principal) : (claimLaneBody n p s).Kept := by
  unfold claimLaneBody claimLaneBody.asManifestOwner
  split
  · trivial
  · split
    · dsimp only
      split
      · trivial
      · split
        · trivial
        · exact State.Coheres.postLaneState (State.Coheres.setLane h _ (by rfl)) _ _
    · trivial

theorem releaseLaneBody_kept (h : s.Coherent) (n : Nat) (p : Principal) : (releaseLaneBody n p s).Kept := by
  unfold releaseLaneBody
  split
  · trivial
  · exact asOwner_kept fun j => (State.Coheres.returnLane h j).postHallAnd _ _

theorem reclaimLaneBody_kept (h : s.Coherent) (n : Nat) (p : Principal) : (reclaimLaneBody n p s).Kept := by
  unfold reclaimLaneBody
  split
  · trivial
  split
  · trivial
  next j _ =>
    split
    · trivial
    · exact (State.Coheres.returnLane h j).postHallAnd _ _

theorem setLaneFunctionBody_kept (h : s.Coherent) (n f : Nat) (p : Principal) : (setLaneFunctionBody n f p s).Kept := by
  refine asOwner_kept fun j => ?_
  split
  · trivial
  · split
    · trivial
    · split
      · exact h
      · exact State.Coheres.changeLane h j (by rfl) _

theorem setLaneGroupBody_kept (h : s.Coherent) (n : Nat) (g : Option Nat) (p : Principal) : (setLaneGroupBody n g p s).Kept := by
  unfold setLaneGroupBody
  split
  · trivial
  refine asOwner_kept fun j => ?_
  split
  · trivial
  split
  · trivial
  split
  · exact h
  · exact State.Coheres.changeLane h j (by rfl) _

theorem openLaneBody_kept (h : s.Coherent) (n : Nat) (p : Principal) : (openLaneBody n p s).Kept := by
  refine asOwner_kept fun j => ?_
  split
  · trivial
  split
  · exact State.Coheres.postLaneState (State.Coheres.setLane h j (by rfl)) j _
  · exact h
  · trivial
  · trivial

theorem closeLaneBody_kept (h : s.Coherent) (n : Nat) (p : Principal) : (closeLaneBody n p s).Kept := by
  refine asOwner_kept fun j => ?_
  split
  · exact State.Coheres.changeLane h j (by rfl) _
  · exact State.Coheres.postLaneState (State.Coheres.setLane h j (by rfl)) j _
  · exact h
  · trivial

theorem State.Coheres.laneFull (h : s.Coheres K L R) (j : LaneNo) : (s.laneFull j).Coheres K L R := by
  unfold State.laneFull
  split
  · exact h.changeLane j (by rfl) _
  · exact State.Coheres.postLaneState (h.setLane j (by rfl)) j _
  · exact h
  · exact h

theorem State.Coheres.laneEmptied (h : s.Coheres K L R) (j : LaneNo) : (s.laneEmptied j).Coheres K L R :=
  State.Coheres.postLaneState (h.setLane j (by rfl)) j _

theorem resetLaneFaultBody_kept (h : s.Coherent) (n : Nat) (p : Principal) : (resetLaneFaultBody n p s).Kept := by
  unfold resetLaneFaultBody
  split
  · trivial
  split
  · trivial
  next j _ =>
    have cleared := State.Coheres.setDiverter h j (x := { s.diverter j with score := 0 }) rfl
    unfold Taken.Kept
    dsimp only
    split
    · exact State.Coheres.postLaneState (cleared.setLane j (by rfl)) j _
    · exact cleared

end

end Sys2Proof.Machine

/-! SUPPORT. Settings, points, stations and modes keep the agreement of the tables (R18, R31 to R38, R51, R100, R152 to R161). -/

namespace Sys2Proof.Machine

section
variable {s t : State} {K K' : Nat → Prop} {R R' : Nat → Nat → Prop} {L L' : Identity → Prop}

/-! ## Points and stations -/

theorem State.Coheres.placePoint (h : s.Coheres K L R) (i : PointNo) {x : Point} (hx : ∀ d ∈ x.offset, d < s.loop.count) :
    (s.setPoint i x).Coheres K L R := by
  refine { h with
    offsets := ⟨fun q d hd => ?_, h.offsets.2.1, h.offsets.2.2⟩
    ids := ⟨h.ids.opened, h.ids.named, h.ids.once, h.ids.carried⟩
    tickets := ⟨h.tickets.unique, h.tickets.range, h.tickets.whole, h.tickets.opened, h.tickets.held, h.tickets.strayed⟩
    pend := ⟨h.pend.carriers, h.pend.tags, h.pend.waits, h.pend.listed⟩
    arm := ⟨h.arm.queued, h.arm.ordered, h.arm.armed, h.arm.idle⟩ }
  by_cases hq : q = i
  · rw [hq, State.point_setPoint] at hd
    exact hx d hd
  · rw [State.point_setPoint_ne _ _ hq] at hd
    exact h.offsets.1 q d hd

theorem State.Coheres.placeStation (h : s.Coheres K L R) (n : StationNo) {x : Station} (hx : ∀ d ∈ x.offset, d < s.loop.count) :
    (s.setStation n x).Coheres K L R := by
  refine { h with
    offsets := ⟨h.offsets.1, fun m d hd => ?_, h.offsets.2.2⟩
    ids := ⟨h.ids.opened, h.ids.named, h.ids.once, h.ids.carried⟩
    tickets := ⟨h.tickets.unique, h.tickets.range, h.tickets.whole, h.tickets.opened, h.tickets.held, h.tickets.strayed⟩
    pend := ⟨h.pend.carriers, h.pend.tags, h.pend.waits, h.pend.listed⟩
    arm := ⟨h.arm.queued, h.arm.ordered, h.arm.armed, h.arm.idle⟩ }
  by_cases hq : m = n
  · rw [hq, State.station_setStation] at hd
    exact hx d hd
  · rw [State.station_setStation_ne _ _ hq] at hd
    exact h.offsets.2.1 m d hd

theorem State.Coheres.unmarkOthers (h : s.Coheres K L R) (i : PointNo) : (s.unmarkOthers i).Coheres K L R :=
  State.Coheres.forEach (fun u q _ hu => by
    split
    · exact hu.setPoint q (by rfl)
    · exact hu) h

theorem State.Coheres.turnAway (h : s.Coheres K L R) (i : PointNo) : (s.turnAway i).Coheres K L R := by
  unfold State.turnAway
  split
  · exact ((h.removeWaiting i).endReservation i).handOver _
  · exact h

theorem configureInductionPointBody_kept (h : s.Coherent) (n : Nat) (o : Option Nat) (e m : Bool) (p : Principal) :
    (configureInductionPointBody n o e m p s).Kept := by
  unfold configureInductionPointBody
  split
  · trivial
  split
  · trivial
  next i _ =>
    dsimp only
    split
    · trivial
    next ho =>
      split
      · trivial
      split
      · trivial
      split
      · trivial
      have below := isOffset_spec (by simpa using ho : isOffset s.loop.count o = true)
      have placed {u : State} (hu : u.Coherent) (hl : u.loop = s.loop) :
          ((u.setPoint i ((u.point i).configured o e m)).turnAway i).Coherent :=
        State.Coheres.turnAway (State.Coheres.placePoint hu i (by rw [Point.offset_configured, hl]; exact below)) i
      unfold Taken.Kept
      dsimp only
      split
      · exact placed (State.Coheres.unmarkOthers h i) (forEach_same State.loop _ _ _ fun u q _ => by split <;> rfl)
      · exact placed h rfl

theorem configureReadStationBody_kept (h : s.Coherent) (n : Nat) (o : Option Nat) (hs : Nat) (ps : List Nat) (e : Bool) (p : Principal) :
    (configureReadStationBody n o hs ps e p s).Kept := by
  unfold configureReadStationBody
  split
  · trivial
  split
  · trivial
  next n _ =>
    dsimp only
    split
    · trivial
    next ho =>
      split
      · trivial
      split
      · trivial
      split
      · trivial
      split
      · trivial
      split
      · trivial
      split
      · trivial
      exact State.Coheres.placeStation h n (isOffset_spec (by simpa using ho : isOffset s.loop.count o = true))

theorem setReadVotingBody_kept (h : s.Coherent) (n w v : Nat) (p : Principal) : (setReadVotingBody n w v p s).Kept := by
  unfold setReadVotingBody
  split
  · trivial
  split
  · trivial
  next n _ => exact State.Coheres.of_alike h (.setStation s n rfl)

theorem restoreHeadBody_kept (h : s.Coherent) (n hd : Nat) (p : Principal) : (restoreHeadBody n hd p s).Kept := by
  unfold restoreHeadBody
  split
  · trivial
  split
  · trivial
  next n _ =>
    dsimp only
    split
    · trivial
    split
    · trivial
    · exact State.Coheres.of_alike h (.setStation s n rfl)

/-! ## Limits -/

theorem State.Coheres.setInduction (h : s.Coheres K L R) {x : Induction} (hx : x.points = s.induction.points) :
    (s.setInduction x).Coheres K L R :=
  h.of_alike { State.Alike.refl s with
    point := fun i => congrArg (fun ps : Vector Point 6 => (ps.get i).offset) hx }

theorem setLoadLimitBody_kept (h : s.Coherent) (n : Nat) (p : Principal) : (setLoadLimitBody n p s).Kept := by
  unfold setLoadLimitBody
  split
  · trivial
  · exact State.Coheres.setInduction h (by rfl)

theorem setStarveLimitBody_kept (h : s.Coherent) (n : Nat) (p : Principal) : (setStarveLimitBody n p s).Kept := by
  unfold setStarveLimitBody
  split
  · trivial
  · exact State.Coheres.setInduction h (by rfl)

theorem setLapLimitsBody_kept (h : s.Coherent) (m w : Nat) (p : Principal) : (setLapLimitsBody m w p s).Kept := by
  unfold setLapLimitsBody
  split
  · trivial
  · exact State.Coheres.of_alike h (.setRouter s (by rfl))

/-! ## An empty loop -/

/-- With every carrier EMPTY, nothing pending or armed and no entry ON_LOOP, only offsets and tickets have to agree. -/
theorem State.Coheres.vacant (counted : t.counted) (offsets : t.offsetsInRange)
    (carriers : ∀ k, (t.carrier k).state = .empty ∧ (t.carrier k).fieldsAgree) (pend : t.router.pendingTags = [])
    (queue : ∀ j, (t.diverter j).queue = []) (rides : ∀ d, ¬t.rides d) (tickets : t.TicketsHeld) : t.Coherent := by
  have record (k) := (carriers k).2.1 (carriers k).1
  have identity (k) : (t.carrier k).identity = none := by rw [record k]; rfl
  refine ⟨counted, offsets, ⟨fun d hd => absurd hd (rides d), fun k d _ hd => ?_, fun k m d hd => ?_, fun d _ hd => absurd hd (rides d)⟩,
    tickets, fun k _ => (carriers k).2, fun _ k _ => (carriers k).1,
    ⟨by rw [pend]; exact .nil, by rw [pend]; exact .nil, fun r hr => ?_, fun k _ hw => ?_⟩,
    ⟨fun j k hk => ?_, fun j => by rw [queue]; exact .nil, fun k j _ ha => ?_, fun _ => queue⟩⟩
  · rw [identity] at hd
    cases hd
  · rw [identity] at hd
    cases hd
  · rw [pend] at hr
    cases hr
  · rw [(carriers k).1] at hw
    cases hw
  · rw [queue] at hk
    cases hk
  · rw [record k] at ha
    cases ha

theorem State.carrier_allEmpty {n : Nat} (h : t.carriers = CarrierTable.allEmpty n) (k : Nat) : t.carrier k = Carrier.empty := by
  rw [State.carrier, h]
  show (List.replicate n Carrier.empty).getD k Carrier.empty = Carrier.empty
  rw [List.getD_eq_getElem?_getD, List.getElem?_replicate]
  split <;> rfl

theorem State.counted_allEmpty {n : Nat} (h : t.carriers = CarrierTable.allEmpty n) (hn : n = t.loop.count) : t.counted := by
  rw [State.counted, h]
  refine ⟨by simpa [CarrierTable.allEmpty] using hn, ?_, ?_⟩
  · exact (List.countP_eq_zero.2 fun c hc => by rw [(List.mem_replicate.1 hc).2]; simp [Carrier.isLoaded, Carrier.empty]).symm
  · exact (List.countP_eq_zero.2 fun c hc => by rw [(List.mem_replicate.1 hc).2]; simp [Carrier.isUnverified, Carrier.empty]).symm

/-- In SETUP nothing is on the loop, pending or armed. -/
theorem State.Coheres.atRest (h : s.Coheres noneHeld L R) (hl : ∀ d, ¬L d) (hm : s.mode = .setup) :
    s.router.pendingTags = [] ∧ (∀ j, (s.diverter j).queue = []) ∧ ∀ d, ¬s.rides d := by
  have empty (k) := h.setup hm k id
  refine ⟨List.eq_nil_iff_forall_not_mem.2 fun r hr => ?_, h.arm.idle (.inl hm), fun d hd => ?_⟩
  · have := (h.pend.waits r hr id).1
    rw [empty] at this
    cases this
  · obtain ⟨k, hk⟩ := h.ids.carried d (hl d) hd
    have := (h.fields k id).1 (empty k)
    rw [this] at hk
    cases hk

theorem State.mem_offsets (s : State) (d : Nat) : d ∈ s.offsets ↔ (∃ i, (s.point i).offset = some d) ∨ (∃ n, (s.station n).offset = some d)
    ∨ ∃ j, (s.lane j).offset = some d := by
  simp [State.offsets, allPoints, allStations, allLanes]

theorem State.Coheres.reshape (h : s.Coherent) (hm : s.mode = .setup) {count : Nat} (ho : ∀ d ∈ s.offsets, d < count) (commit : Nat) :
    (s.reshape count commit).Coherent := by
  obtain ⟨pend, queue, rides⟩ := State.Coheres.atRest h (fun _ => id) hm
  have carriers : (s.reshape count commit).counted
      ∧ ∀ k, ((s.reshape count commit).carrier k).state = .empty ∧ ((s.reshape count commit).carrier k).fieldsAgree := by
    by_cases hc : count = s.loop.count
    · have same : s.resize count = s := if_pos hc
      have kept : (s.reshape count commit).carriers = s.carriers := show (s.resize count).carriers = _ by rw [same]
      refine ⟨?_, fun k => ?_⟩
      · rw [State.counted, kept, show (s.reshape count commit).loop.count = s.loop.count from show (s.resize count).loop.count = _ by rw [same]]
        exact h.counted
      · rw [State.carrier_eq_of_carriers kept]
        exact ⟨h.setup hm k id, h.fields k id⟩
    · have remade : s.resize count = (s.setLoop { s.loop with count := count, position := 0 }).setCarriers (CarrierTable.allEmpty count) :=
        if_neg hc
      have made : (s.reshape count commit).carriers = CarrierTable.allEmpty count :=
        show (s.resize count).carriers = _ by rw [remade]; rfl
      refine ⟨State.counted_allEmpty made (show count = (s.resize count).loop.count by rw [remade]; rfl), fun k => ?_⟩
      rw [State.carrier_allEmpty made]
      exact ⟨rfl, Carrier.fieldsAgree_empty⟩
  have length : (s.reshape count commit).loop.count = count := by
    show (s.resize count).loop.count = count
    unfold State.resize
    split
    next hc => exact hc.symm
    next => rfl
  have frame := s.changesOnly_reshape count commit
  have berths : (s.reshape count commit).berths = s.berths := frame .berths (by simp)
  have entry := State.entryOf_congr berths
  have point (i) : ((s.reshape count commit).point i).offset = (s.point i).offset := by
    show ((s.resize count).point i).offset = _
    rw [State.point_eq_of_induction (s.changesOnly_resize count .induction (by simp))]
  refine State.Coheres.vacant carriers.1 ⟨fun i d hd => ?_, fun n d hd => ?_, fun j d hd => ?_⟩ carriers.2 ?_ (fun j => ?_) (fun d hd => ?_)
    (h.tickets.congr ?_ (fun d n => by rw [State.holds, entry, State.holds])
      (fun b hb => by rw [State.opens, State.berth_eq_of_berths berths]; exact hb) (by simpa only [entry] using h.tickets.strayed))
  · rw [point] at hd
    rw [length]
    exact ho d ((s.mem_offsets d).2 (.inl ⟨i, hd⟩))
  · rw [State.station_eq_of_stations (frame .stations (by simp))] at hd
    rw [length]
    exact ho d ((s.mem_offsets d).2 (.inr (.inl ⟨n, hd⟩)))
  · rw [State.lane_eq_of_lanes (frame .lanes (by simp))] at hd
    rw [length]
    exact ho d ((s.mem_offsets d).2 (.inr (.inr ⟨j, hd⟩)))
  · rw [show (s.reshape count commit).router = s.router from frame .router (by simp)]
    exact pend
  · rw [State.diverter_eq_of_diverters (frame .diverters (by simp))]
    exact queue j
  · rw [State.rides, entry] at hd
    exact rides d hd
  · rw [show (s.reshape count commit).coding = s.coding from frame .coding (by simp)]

theorem configureLoopBody_kept (h : s.Coherent) (c k : Nat) (p : Principal) : (configureLoopBody c k p s).Kept := by
  unfold configureLoopBody
  split
  · trivial
  split
  · trivial
  next hm =>
    split
    · trivial
    split
    · trivial
    next ho =>
      refine State.Coheres.reshape h (by simpa using hm) (fun d hd => ?_) _
      by_contra hx
      exact ho (List.any_eq_true.2 ⟨d, hd, by simpa using hx⟩)

end

end Sys2Proof.Machine

/-! SUPPORT. SET MODE, FORCE SETUP and CLEAR SORT keep the agreement of the tables (R152 to R161). -/

namespace Sys2Proof.Machine

section
variable {s t : State} {K K' : Nat → Prop} {R R' : Nat → Nat → Prop} {L L' : Identity → Prop}

theorem State.Coheres.enter (h : s.Coheres K L R) {m : Mode} (hs : m ≠ .setup) (hh : m ≠ .halted) (c : ModeCause) :
    (s.changeMode m c).Coheres K L R :=
  h.changeMode (fun hm => absurd hm hs) fun hm => hm.elim (fun hm => absurd hm hs) fun hm => absurd hm hh

theorem State.requestMode_kept (h : s.Coherent) (m : Mode) : (s.requestMode m).Kept := by
  have run : (s.changeMode .run .setMode).Coherent := State.Coheres.enter h (by simp) (by simp) _
  have hold : (s.changeMode .hold .setMode).Coherent := State.Coheres.enter h (by simp) (by simp) _
  have drain : (s.changeMode .draining .setMode).testDrain.Coherent :=
    State.Coheres.testDrain (State.Coheres.enter h (by simp) (by simp) _)
  unfold State.requestMode
  dsimp only
  split
  · split
    · exact run
    · trivial
  · exact h
  · exact h
  · exact hold
  · exact drain
  · exact run
  · exact h
  · exact drain
  · exact run
  · exact h
  next hm => exact State.Coheres.exitHalted h (fun _ => id) hm
  · trivial

theorem setModeBody_kept (h : s.Coherent) (m : Nat) (p : Principal) : (setModeBody m p s).Kept := by
  unfold setModeBody
  split
  · trivial
  · split
    · exact State.requestMode_kept h _
    · exact State.requestMode_kept h _
    · exact State.requestMode_kept h _
    · trivial

/-! ## Entries returned to EXPECTED -/

theorem State.Returns.entryOf {touched : BerthId → Nat → Bool} (h : s.Returns t touched) (d : Identity) :
    t.entryOf d = (s.entryOf d).map fun e => if touched d.berth d.entry then e.returned else e :=
  (h d.berth).findEntry d.entry

theorem State.Returns.opens {touched : BerthId → Nat → Bool} (h : s.Returns t touched) (b : BerthId) : t.opens b ↔ s.opens b := by
  rw [State.opens, (h b).state, State.opens]

theorem State.Returns.rides {touched : BerthId → Nat → Bool} (h : s.Returns t touched) (d : Identity) :
    t.rides d ↔ touched d.berth d.entry = false ∧ s.rides d := by
  rw [State.rides, h.entryOf, State.rides]
  cases ht : touched d.berth d.entry with
  | true =>
    simp only [if_true, Option.map_eq_some_iff]
    refine ⟨fun ⟨e, ⟨x, _, hx⟩, hs⟩ => ?_, fun hf => by simp at hf⟩
    rw [← hx] at hs
    cases hs
  | false => simp

/-- FORCE SETUP before the mode is looked at (R160). -/
theorem State.Coheres.emptyLoop (h : s.Coherent) : s.emptyLoop.Coherent := by
  obtain ⟨frame, stations, diverters, carriers, lanes, router, ret⟩ := s.emptyLoop_spec
  have loop : s.emptyLoop.loop = s.loop := frame .loop (by simp)
  have coding : s.emptyLoop.coding = s.coding := frame .coding (by simp)
  have ridden (d) (hd : s.rides d) : (s.carriers.table.any fun c => c.identity == some d) = true := by
    obtain ⟨k, hk⟩ := h.ids.carried d id hd
    refine List.any_eq_true.2 ⟨_, List.mem_of_getElem? (State.getElem?_carriers (s.lt_of_carrier_ne fun he => ?_)), by simpa using hk⟩
    rw [he] at hk
    cases hk
  have rider (d) (hd : (s.carriers.table.any fun c => c.identity == some d) = true) : s.rides d := by
    obtain ⟨c, hc, hi⟩ := List.any_eq_true.1 hd
    obtain ⟨k, hk⟩ := List.mem_iff_getElem?.1 hc
    rw [← State.carrier_eq_of_getElem? hk] at hi
    exact h.ids.named k d id (by simpa using hi)
  refine State.Coheres.vacant (State.counted_allEmpty carriers (h.counted.1.trans (by rw [loop])))
    (State.offsetsInRange_congr h.offsets (by rw [loop]) (fun i => by rw [State.point_eq_of_induction (frame .induction (by simp))])
      (fun n => by rw [stations]) fun j => by rw [lanes])
    (fun k => by rw [State.carrier_allEmpty carriers]; exact ⟨rfl, Carrier.fieldsAgree_empty⟩) (by rw [router])
    (fun j => by rw [diverters]) (fun d hd => ?_)
    (h.tickets.congr (by rw [coding]) (fun d n => ?_) (fun b hb => (ret.opens b).2 hb) fun d e he hn => ?_)
  · obtain ⟨hf, hd⟩ := (ret.rides d).1 hd
    rw [ridden d hd] at hf
    cases hf
  · rw [State.holds, ret.entryOf]
    constructor
    · rintro ⟨e, he, ht⟩
      obtain ⟨x, hx, rfl⟩ := Option.map_eq_some_iff.1 he
      split at ht
      · cases ht
      · exact ⟨x, hx, ht⟩
    · rintro ⟨e, he, ht⟩
      refine ⟨e, ?_, ht⟩
      rw [he, Option.map_some, if_neg fun hd => ?_]
      exact h.tickets.not_rides ⟨e, he, ht⟩ (rider d hd)
  · rw [ret.entryOf] at he
    obtain ⟨x, hx, rfl⟩ := Option.map_eq_some_iff.1 he
    split at hn
    · exact absurd rfl hn
    next ht =>
      rw [if_neg ht]
      exact h.tickets.strayed d x hx hn

theorem forceSetupBody_kept (h : s.Coherent) (p : Principal) : (forceSetupBody p s).Kept := by
  unfold forceSetupBody
  split
  · trivial
  · have empty := State.Coheres.emptyLoop h
    obtain ⟨-, -, diverters, carriers, -⟩ := s.emptyLoop_spec
    refine State.Coheres.testAllClosing ?_
    split
    · exact empty
    · exact State.Coheres.changeMode empty (fun _ k _ => by rw [State.carrier_allEmpty carriers]; rfl) fun _ j => by rw [diverters]

/-- CLEAR SORT before its notices (R161). -/
theorem State.Coheres.sortEmptied (h : s.Coheres K L R) : s.sortEmptied.Coheres K L R := by
  obtain ⟨frame, lanes, diverters, coding, ret⟩ := s.sortEmptied_spec
  have cleared : s.Alike s.clearLanes := by
    obtain ⟨frame, lanes, diverters⟩ := s.clearLanes_spec
    exact { State.Alike.refl s with
      loop := frame .loop (by simp)
      carriers := frame .carriers (by simp)
      berths := frame .berths (by simp)
      references := congrArg Coding.references (frame .coding (by simp))
      pendingTags := congrArg Router.pendingTags (frame .router (by simp))
      mode := frame .mode (by simp)
      queue := fun j => by rw [diverters]
      lane := fun j => by rw [lanes]; rfl
      point := fun i => by rw [State.point_eq_of_induction (frame .induction (by simp))]
      station := fun n => by rw [State.station_eq_of_stations (frame .stations (by simp))] }
  have entry := State.entryOf_congr cleared.berths
  have berth := State.berth_eq_of_berths cleared.berths
  have h' := h.of_alike cleared
  have after : s.clearLanes.changesOnly s.sortEmptied [.berths, .coding] := by
    obtain ⟨f, -⟩ := s.clearLanes.returnAll_spec s.coding.namedEntries
    exact State.changesOnly_comp f (State.changesOnly_setCoding _ _) (by simp) (by simp)
  have named (d n) (hd : s.holds d n) : s.coding.namedEntries.contains d = true := by
    have hr := (h.tickets.held n d).2 hd
    rw [show d = ⟨d.berth, d.entry⟩ from rfl, Coding.namedEntries_contains, List.contains_iff_mem, List.mem_append]
    refine (Coding.mem_references.1 hr).imp (fun ⟨r, hr, he⟩ => ?_) fun ⟨r, hr, he⟩ => ?_
    · rw [Prod.mk.injEq, Prod.mk.injEq] at he
      exact List.mem_map.2 ⟨r, hr, by rw [he.2.1, he.2.2]⟩
    · rw [Prod.mk.injEq, Prod.mk.injEq] at he
      exact List.mem_map.2 ⟨r, hr, by rw [he.2.1, he.2.2]⟩
  have unridden (d) (hd : s.coding.namedEntries.contains d = true) : ¬s.rides d := by
    rw [show d = ⟨d.berth, d.entry⟩ from rfl, Coding.namedEntries_contains, List.contains_iff_mem, List.mem_append] at hd
    have : ∃ n, (n, some d.berth, some d.entry) ∈ s.coding.references := by
      rcases hd with hd | hd
      · obtain ⟨r, hr, he⟩ := List.mem_map.1 hd
        obtain ⟨hb, hi⟩ := Prod.mk.inj he
        exact ⟨r.ticket, by rw [← hb, ← hi]; exact Coding.mem_of_stray hr⟩
      · obtain ⟨r, hr, he⟩ := List.mem_map.1 hd
        obtain ⟨hb, hi⟩ := Prod.mk.inj he
        exact ⟨r.ticket, by rw [← hb, ← hi]; exact Coding.mem_of_reinject hr⟩
    obtain ⟨n, hn⟩ := this
    exact h.tickets.not_rides ((h.tickets.held n d).1 hn)
  have refs : s.sortEmptied.coding.references = [] := by rw [coding]; rfl
  refine h'.relisted after (by simp [manifestParts]) (fun d => ?_) (fun b => by rw [(ret b).state, berth])
    ⟨by rw [refs]; exact .nil, by rw [refs]; simp, by rw [refs]; simp, by rw [refs]; simp, fun n d => ?_, fun d e he hn => ?_⟩
  · rw [ret.rides, State.rides, State.rides, entry]
    refine ⟨And.right, fun hd => ⟨?_, hd⟩⟩
    cases ht : s.coding.namedEntries.contains ⟨d.berth, d.entry⟩ with
    | false => rfl
    | true => exact absurd hd (unridden d ht)
  · rw [refs]
    refine ⟨fun hx => (by cases hx), fun ⟨e, he, ht⟩ => ?_⟩
    rw [ret.entryOf] at he
    obtain ⟨x, hx, rfl⟩ := Option.map_eq_some_iff.1 he
    split at ht
    · cases ht
    next hn => exact absurd (named d n ⟨x, hx, ht⟩) hn
  · rw [ret.entryOf] at he
    obtain ⟨x, hx, rfl⟩ := Option.map_eq_some_iff.1 he
    split at hn
    · exact absurd rfl hn
    next ht =>
      obtain ⟨n, hn⟩ := Option.ne_none_iff_exists'.1 hn
      exact absurd (named d n ⟨x, hx, hn⟩) ht

theorem clearSortBody_kept (h : s.Coherent) (p : Principal) : (clearSortBody p s).Kept := by
  unfold clearSortBody
  split
  · trivial
  · split
    · trivial
    · exact State.Coheres.post (State.Coheres.post (State.Coheres.post (State.Coheres.sortEmptied h) _ _) _ _) _ _

end

end Sys2Proof.Machine

/-! SUPPORT. Links, their commands and their events touch none of the tables that agree (R163 to R178). -/

namespace Sys2Proof.Machine

/-! ## Changes on the lines -/

/-- The parts of the state that carry frames, notices, orders and waiting commands. -/
def lineParts : List Part := [.links, .lastServed, .principals, .orders, .wires, .pending]

/-- Nothing changes but what the lines carry. -/
def State.linesOnly (s t : State) : Prop := s.changesOnly t lineParts

section
variable {s t u : State}

theorem State.linesOnly_of {ps : List Part} (h : s.changesOnly t ps) (hp : ∀ p ∈ ps, p ∈ lineParts) : s.linesOnly t :=
  State.changesOnly_mono h hp

theorem State.linesOnly.refl (s : State) : s.linesOnly s := s.changesOnly_refl _

theorem State.linesOnly.trans (h : s.linesOnly t) (h' : t.linesOnly u) : s.linesOnly u := State.changesOnly_trans h h'

theorem State.linesOnly_setLink (s : State) (l : LinkNo) (x : Link) : s.linesOnly (s.setLink l x) :=
  State.linesOnly_of (s.changesOnly_setLink l x) (by simp [lineParts])

theorem State.linesOnly_setLastServed (s : State) (l : LinkNo) : s.linesOnly (s.setLastServed l) :=
  State.linesOnly_of (s.changesOnly_setLastServed l) (by simp [lineParts])

theorem State.linesOnly_setPrincipal (s : State) (p : Principal) (x : PrincipalRecord) : s.linesOnly (s.setPrincipal p x) :=
  State.linesOnly_of (s.changesOnly_setPrincipal p x) (by simp [lineParts])

theorem State.linesOnly_setPending (s : State) (q : List Instr) : s.linesOnly (s.setPending q) := fun p hp => by
  cases p <;> simp [lineParts] at hp <;> rfl

theorem State.linesOnly_postLinkState (s : State) (l : LinkNo) (p : Option Principal) (d : Option LinkNo) (c : LinkCause) :
    s.linesOnly (s.postLinkState l p d c) :=
  State.linesOnly_of (s.changesOnly_post _ _) (by simp [lineParts])

theorem State.linesOnly_putOnWire (s : State) (l : LinkNo) (f : OutFrame) : s.linesOnly (s.putOnWire l f) :=
  State.linesOnly_of (s.changesOnly_setWires _) (by simp [lineParts])

/-! ## Replies -/

theorem State.linesOnly_replyOk (s : State) (l : LinkNo) (tag : Byte) (code : Nat) (data : List Byte) :
    s.linesOnly (s.replyOk l tag code data) := s.linesOnly_setLink l _

theorem State.linesOnly_refuse (s : State) (l : LinkNo) (tag : Byte) (code : Nat) (r : RefusalCode) :
    s.linesOnly ((s.setLastServed l).replyRefused l tag code r) :=
  (s.linesOnly_setLastServed l).trans (State.linesOnly_setLink _ l _)

theorem State.linesOnly_popFrame (s : State) (l : LinkNo) : s.linesOnly (s.popFrame l) := s.linesOnly_setLink l _

theorem State.linesOnly_refuseFrame (s : State) (l : LinkNo) (f : CommandFrame) : s.linesOnly (s.refuseFrame l f) :=
  s.linesOnly_refuse l _ _ _

/-! ## Frames received -/

theorem State.linesOnly_mute (s : State) (l : LinkNo) : s.linesOnly (s.mute l) :=
  (s.linesOnly_setLink l _).trans (State.linesOnly_postLinkState _ _ _ _ _)

theorem State.linesOnly_badFrame (s : State) (l : LinkNo) : s.linesOnly (s.badFrame l) := by
  unfold State.badFrame
  dsimp only
  split
  · exact (s.linesOnly_setLink l _).trans (State.linesOnly_mute _ l)
  · exact s.linesOnly_setLink l _

theorem State.linesOnly_goodFrame (s : State) (l : LinkNo) (f : CommandFrame) : s.linesOnly (s.goodFrame l f) := by
  unfold State.goodFrame
  dsimp only
  split
  · exact s.linesOnly_setLink l _
  · exact s.linesOnly_setLink l _

theorem State.linesOnly_mutedCheck (s : State) (l : LinkNo) (tag : Byte) : s.linesOnly (s.mutedCheck l tag) := by
  have replied (x : Link) (data : List Byte) : s.linesOnly ((s.setLink l x).replyOk l tag 0x2E data) :=
    (s.linesOnly_setLink l x).trans (State.linesOnly_replyOk _ _ _ _ _)
  unfold State.mutedCheck
  dsimp only
  split
  · exact replied _ _
  · exact (replied _ _).trans (State.linesOnly_postLinkState _ _ _ _ _)

theorem State.linesOnly_takeFrame (s : State) (l : LinkNo) (j : FrameJudgement) : s.linesOnly (s.takeFrame l j) := by
  unfold State.takeFrame
  split
  · exact .refl s
  · exact s.linesOnly_setLink l _
  · exact s.linesOnly_badFrame l
  · split
    · exact s.linesOnly_mutedCheck l _
    · exact .refl s
  · exact s.linesOnly_goodFrame l _

theorem State.linesOnly_breakLine (s : State) (l : LinkNo) : s.linesOnly (s.breakLine l) := by
  have broken : s.linesOnly (s.setLink l (s.link l).broken) := s.linesOnly_setLink l _
  unfold State.breakLine
  dsimp only
  split
  · exact broken.trans (State.linesOnly_postLinkState _ _ _ _ _)
  · exact broken
  · exact broken

/-! ## Sending -/

theorem State.linesOnly_sendNotice (s : State) (l : LinkNo) : s.linesOnly (s.sendNotice l) := by
  unfold State.sendNotice
  split
  · split
    · exact .refl s
    · split
      · exact .refl s
      · exact (s.linesOnly_setPrincipal _ _).trans (State.linesOnly_putOnWire _ _ _)
  · exact .refl s
  · exact .refl s

theorem State.linesOnly_sendReply (s : State) (l : LinkNo) (which : SentReply) : s.linesOnly (s.sendReply l which) := by
  have sent (x : Link) (f : OutFrame) : s.linesOnly ((s.setLink l x).putOnWire l f) :=
    (s.linesOnly_setLink l x).trans (State.linesOnly_putOnWire _ _ _)
  unfold State.sendReply
  dsimp only
  split
  · split
    · exact .refl s
    · exact sent _ _
  · split
    · exact .refl s
    · split
      · exact .refl s
      · exact sent _ _

/-! ## Attachment and permissions -/

theorem State.linesOnly_detachLink (s : State) (l : LinkNo) (p : Principal) (cause : LinkCause) :
    s.linesOnly (s.detachLink l p cause) :=
  (s.linesOnly_setLink l _).trans (State.linesOnly_postLinkState _ _ _ _ _)

theorem State.linesOnly_attachLink (s : State) (l : LinkNo) (p : Principal) : s.linesOnly (s.attachLink l p) := by
  have attached (u : State) : u.linesOnly (u.setLink l { u.link l with state := .attached p }) := u.linesOnly_setLink l _
  unfold State.attachLink
  refine .trans ?_ (State.linesOnly_postLinkState _ _ _ _ _)
  cases s.linkOfPrincipal p with
  | none => exact attached s
  | some m => exact .trans (s.linesOnly_setLink m _) (attached (s.displace m p l))

theorem State.linesOnly_attach {l : LinkNo} {n : Nat} {data : List Byte} (h : s.attach l n = .ok t data) : s.linesOnly t := by
  unfold State.attach at h
  split at h
  · cases h
  · split at h
    · cases h
    · split at h
      · split at h
        · cases h
          exact .refl s
        · cases h
      · cases h
        exact s.linesOnly_attachLink l _
      · cases h
        exact .refl s

theorem State.linesOnly_restoreLink (s : State) (l : LinkNo) : s.linesOnly (s.restoreLink l) := by
  unfold State.restoreLink
  split
  · exact (s.linesOnly_setLink l _).trans (State.linesOnly_postLinkState _ _ _ _ _)
  · exact s.linesOnly_setLink l _
  · exact s.linesOnly_setLink l _

theorem State.linesOnly_permit (s : State) (l : LinkNo) (q : Principal) (flag : Bool) : s.linesOnly (s.permit l q flag) := by
  unfold State.permit
  dsimp only
  split
  · exact (s.linesOnly_setLink l _).trans (State.linesOnly_detachLink _ _ _ _)
  · exact s.linesOnly_setLink l _

/-! ## Tables that agree -/

/-- What a step asks of the state it starts from: the tables agree, the loop has a position and a reach, and the ticket
counter stands below its wrap with room in the numbers. -/
structure State.Sound (s : State) : Prop where
  coherent : s.Coherent
  manifests : s.manifestsAgree
  position : s.loop.position < s.loop.count
  commit : 2 ≤ s.loop.commit
  issues : s.coding.CanIssue

theorem State.sound_of (h : s.tablesAgree) : s.Sound := by
  have coherent := s.coherent_of h
  obtain ⟨-, ⟨-, -, position, commit, -⟩, ⟨-, -, -, -, low, high, -⟩, ⟨-, -, -, -, strays, reinject, -⟩, -, manifests, -⟩ := h
  exact ⟨coherent, manifests, position, commit, ⟨low, high, by omega⟩⟩

theorem State.Coherent.of_lines (h : s.Coherent) (ht : s.linesOnly t) : t.Coherent :=
  State.Coheres.of_frame h ht fun _ => id

theorem State.Sound.of_lines (h : s.Sound) (ht : s.linesOnly t) : t.Sound := by
  have loop : t.loop = s.loop := ht .loop (by simp [lineParts])
  have coding : t.coding = s.coding := ht .coding (by simp [lineParts])
  have berth := State.berth_eq_of_berths (show t.berths = s.berths from ht .berths (by simp [lineParts]))
  exact ⟨h.coherent.of_lines ht, t.kept_iff.1 fun b => by rw [berth]; exact s.kept_iff.2 h.manifests b, by rw [loop]; exact h.position,
    by rw [loop]; exact h.commit, by rw [coding]; exact h.issues⟩

/-! ## Commands on links -/

theorem restoreLinkBody_kept (h : s.Coherent) (n : Nat) (p : Principal) : (restoreLinkBody n p s).Kept := by
  unfold restoreLinkBody
  split
  · trivial
  · split
    · trivial
    · exact h.of_lines (s.linesOnly_restoreLink _)

theorem setLinkPermissionBody_kept (h : s.Coherent) (n q : Nat) (flag : Bool) (p : Principal) :
    (setLinkPermissionBody n q flag p s).Kept := by
  unfold setLinkPermissionBody
  split
  · trivial
  · split
    · split
      · trivial
      · exact h.of_lines (s.linesOnly_permit _ _ _)
    · trivial

theorem setNoticeClassesBody_kept (h : s.Coherent) (c : Byte) (p : Principal) : (setNoticeClassesBody c p s).Kept :=
  h.of_lines (s.linesOnly_setPrincipal _ _)

/-- A command taken from a link (R171), by what its body makes of the state with the link as the last served. -/
theorem State.Sound.takeCommand (h : s.Sound) (l : LinkNo) (tag : Byte) (code : Nat) {body : Principal → State → Taken}
    (hb : ∀ u p, State.Sound u → (body p u).Kept) : (s.takeCommand l tag code body).Coherent := by
  rcases s.takeCommand_cases l tag code body with ⟨_, ht⟩ | ⟨r, _, ht⟩ | ⟨p, t, data, _, hx, ht⟩ <;> rw [ht]
  · exact h.coherent
  · exact h.coherent.of_lines (s.linesOnly_refuse _ _ _ _)
  · have kept := hb _ p (h.of_lines (s.linesOnly_setLastServed l))
    rw [hx] at kept
    exact State.Coherent.of_lines kept (State.linesOnly_replyOk _ _ _ _ _)

theorem execAttach_coherent (h : s.Coherent) (l : LinkNo) (tag : Byte) (n : Nat) :
    ∃ t, execAttach l tag n s = .next t ∧ t.Coherent := by
  refine ⟨_, rfl, h.of_lines ?_⟩
  split
  · exact .refl s
  · split
    · exact s.linesOnly_refuse _ _ _ _
    next hx => exact ((s.linesOnly_setLastServed l).trans (State.linesOnly_attach hx)).trans (State.linesOnly_replyOk _ _ _ _ _)

theorem execLinkCheck_coherent (h : s.Coherent) (l : LinkNo) (tag : Byte) :
    ∃ t, execLinkCheck l tag s = .next t ∧ t.Coherent := by
  have checked : s.linesOnly (s.linkCheckReply l tag) := (s.linesOnly_setLastServed l).trans (State.linesOnly_replyOk _ _ _ _ _)
  refine ⟨_, rfl, h.of_lines ?_⟩
  split
  · exact s.linesOnly_mutedCheck l tag
  · exact checked
  · exact checked

end

end Sys2Proof.Machine

/-! PROOF. Every step keeps the agreement of the tables (R5, R9, R10, R63, R86, R124, R136, R151). -/

namespace Sys2Proof.Machine

/-- The machine goes on, with tables that agree. -/
def GoesOnCoherent (x : Host.Outcome State Fault Refusal) : Prop := ∃ t, x = .next t ∧ t.Coherent

theorem State.Coherent.goesOn {t : State} (h : t.Coherent) : GoesOnCoherent (.next t) := ⟨t, rfl, h⟩

section
variable {s t : State}

/-! ## Events -/

theorem execPollAnswer_coherent (h : s.Sound) (a hd n c r : Nat) : GoesOnCoherent (execPollAnswer a hd n c r s) := by
  unfold execPollAnswer
  split
  · exact h.coherent.goesOn
  · split
    · exact h.coherent.goesOn
    · split
      · exact State.Coherent.goesOn (State.Coheres.takeAnswer h.coherent h.manifests (fun _ => id) _ _ _ _)
      · exact h.coherent.goesOn

theorem execWaitExpiry_coherent (h : s.Coherent) (k : Nat) : GoesOnCoherent (execWaitExpiry k s) := by
  refine ⟨_, rfl, ?_⟩
  split
  · exact State.Coheres.chooseTarget (State.Coheres.expireWait h id) k
  · exact h

theorem execLapLimit_coherent (h : s.Coherent) (k : Nat) : GoesOnCoherent (execLapLimit k s) := by
  refine ⟨_, rfl, ?_⟩
  split
  · exact State.Coheres.chooseTarget (State.Coheres.strayAtLimit h (fun _ => id) id) k
  · exact h

theorem execNoReportTimeout_coherent (h : s.Coherent) (k : Nat) : GoesOnCoherent (execNoReportTimeout k s) := by
  unfold execNoReportTimeout
  split
  · exact h.goesOn
  next hx =>
    exact State.Coherent.goesOn
      (State.Coheres.finishFailure (State.Coheres.failDivert h (fun _ => id) (State.isFiredAt_of_timedOutAt hx) _))

theorem State.Coherent.present (h : s.Coherent) (i : PointNo) (size : SizeClass) (ticket : Nat) :
    (s.present i size ticket).Coherent := by
  unfold State.present
  split
  · exact State.Coheres.handOver h _
  · split
    · exact State.Coheres.handOver h _
    · split
      · exact State.Coheres.handOver h _
      · exact State.Coheres.setPoint h i (by rfl)

theorem execBagPresented_coherent (h : s.Coherent) (n : Nat) (size : SizeClass) (ticket : Nat) :
    GoesOnCoherent (execBagPresented n size ticket s) := by
  unfold execBagPresented
  split
  · exact h.goesOn
  · exact State.Coherent.goesOn (h.present _ _ _)

theorem State.Coherent.withdrawBag (h : s.Coherent) (i : PointNo) : (s.withdrawBag i).Coherent := by
  unfold State.withdrawBag
  split
  · exact State.Coheres.endReservation (State.Coheres.removeWaiting h i) i
  · exact h

theorem execBagWithdrawn_coherent (h : s.Coherent) (n : Nat) : GoesOnCoherent (execBagWithdrawn n s) := by
  unfold execBagWithdrawn
  split
  · exact h.goesOn
  · exact State.Coherent.goesOn (h.withdrawBag _)

theorem execDivertDone_coherent (h : s.Sound) (n k : Nat) : GoesOnCoherent (execDivertDone n k s) := by
  unfold execDivertDone
  split
  · exact h.coherent.goesOn
  · refine ⟨_, rfl, ?_⟩
    split
    next hf => exact State.Coheres.divertDone h.coherent h.manifests h.issues (fun _ => id) hf
    next => exact h.coherent

theorem execDivertFailed_coherent (h : s.Coherent) (n k : Nat) : GoesOnCoherent (execDivertFailed n k s) := by
  unfold execDivertFailed
  split
  · exact h.goesOn
  · refine ⟨_, rfl, ?_⟩
    split
    next hf => exact State.Coheres.finishFailure (State.Coheres.failDivert h (fun _ => id) hf _)
    next => exact h

theorem execLaneFull_coherent (h : s.Coherent) (n : Nat) : GoesOnCoherent (execLaneFull n s) := by
  unfold execLaneFull
  split
  · exact h.goesOn
  · exact State.Coherent.goesOn (State.Coheres.laneFull h _)

theorem execLaneEmptied_coherent (h : s.Coherent) (n : Nat) : GoesOnCoherent (execLaneEmptied n s) := by
  unfold execLaneEmptied
  split
  · exact h.goesOn
  · exact State.Coherent.goesOn (State.Coheres.laneEmptied h _)

theorem execClosingComplete_coherent (h : s.Coherent) (n : Nat) : GoesOnCoherent (execClosingComplete n s) := by
  unfold execClosingComplete
  split
  · exact h.goesOn
  · exact State.Coherent.goesOn (State.Coheres.testClosing h _)

theorem execAdvance_coherent (h : s.Sound) (mark : Byte) : GoesOnCoherent (execAdvance mark s) :=
  State.Coherent.goesOn (State.Coheres.execAdvance h.coherent h.manifests (fun _ => id) h.position h.commit mark)

theorem execFetch_coherent (h : s.Coherent) (n : Nat) : GoesOnCoherent (execFetch n s) :=
  State.Coherent.goesOn (State.Coheres.codingRequest h _ n fun _ _ _ _ hu => (Coded.done.inj hu).1 ▸ h)

theorem execCodeTag_coherent (h : s.Sound) (n ship serial : Nat) : GoesOnCoherent (execCodeTag n ship serial s) :=
  State.Coherent.goesOn (State.Coheres.codingRequest h.coherent _ n fun _ hr _ _ => State.Coheres.codeTag h.coherent h.manifests hr)

theorem execCodeCabin_coherent (h : s.Coherent) (n b c : Nat) : GoesOnCoherent (execCodeCabin n b c s) :=
  State.Coherent.goesOn (State.Coheres.codingRequest h _ n fun _ hr _ _ => State.Coheres.codeCabin h hr)

theorem execRemove_coherent (h : s.Coherent) (n : Nat) : GoesOnCoherent (execRemove n s) :=
  State.Coherent.goesOn (State.Coheres.codingRequest h _ n fun _ hr _ _ hu => (Coded.done.inj hu).1 ▸ State.Coheres.removeStray h hr)

theorem execRetry_coherent (h : s.Coherent) (n : Nat) : GoesOnCoherent (execRetry n s) :=
  State.Coherent.goesOn (State.Coheres.codingRequest h _ n fun _ hr _ _ => State.Coheres.retryStray h hr)

theorem handEvent_coherent (h : s.Sound) (e : Instr) : GoesOnCoherent (handEvent e s) := by
  unfold handEvent
  split
  · exact execAdvance_coherent h _
  · exact execBagPresented_coherent h.coherent _ _ _
  · exact execBagWithdrawn_coherent h.coherent _
  · exact execPollAnswer_coherent h _ _ _ _ _
  · exact execDivertDone_coherent h _ _
  · exact execDivertFailed_coherent h.coherent _ _
  · exact execLaneFull_coherent h.coherent _
  · exact execLaneEmptied_coherent h.coherent _
  · exact execFetch_coherent h.coherent _
  · exact execCodeTag_coherent h _ _ _
  · exact execCodeCabin_coherent h.coherent _ _ _
  · exact execRemove_coherent h.coherent _
  · exact execRetry_coherent h.coherent _
  · exact h.coherent.goesOn

theorem execFieldRecordBad_coherent (h : s.Sound) (r : List RxChar) : GoesOnCoherent (execFieldRecordBad r s) := by
  unfold execFieldRecordBad
  split
  · exact h.coherent.goesOn
  · exact h.coherent.goesOn
  · exact handEvent_coherent h _

theorem State.Coherent.sendOrder (h : s.Coherent) : s.sendOrder.Coherent := by
  unfold State.sendOrder
  split
  · exact h
  next rest _ =>
    have sent (w : Wires) : ((s.setOrders rest).setWires w).Coherent :=
      h.of_lines ((State.linesOnly_of (s.changesOnly_setOrders rest) (by simp [lineParts])).trans
        (State.linesOnly_of (State.changesOnly_setWires _ w) (by simp [lineParts])))
    dsimp only
    split
    · exact State.Coheres.of_alike (sent _) (.setCoding _ (by rfl))
    · exact sent _

/-! ## Queries -/

theorem asViewer_kept (s : State) (p : Principal) (n : Option Nat) {body : BerthId → Berth → Taken}
    (hb : ∀ b r, (body b r).Kept) : (asViewer p n s body).Kept := by
  unfold asViewer
  dsimp only
  split
  · trivial
  · split
    · exact hb _ _
    · trivial

theorem queryTagBody_kept (h : s.Coherent) (n : Option Nat) (e : EntryRef) (p : Principal) : (queryTagBody n e p s).Kept := by
  refine asViewer_kept s p n fun b r => ?_
  split
  · trivial
  · split
    · trivial
    · exact h

theorem queryCabinBody_kept (h : s.Coherent) (n : Option Nat) (c : Nat) (p : Principal) : (queryCabinBody n c p s).Kept := by
  refine asViewer_kept s p n fun b r => ?_
  split
  · trivial
  · split
    · trivial
    · exact h

theorem queryBerthBody_kept (h : s.Coherent) (n : Nat) (p : Principal) : (queryBerthBody n p s).Kept := by
  unfold queryBerthBody
  split
  · trivial
  · exact h

theorem queryReadStationBody_kept (h : s.Coherent) (n : Nat) (p : Principal) : (queryReadStationBody n p s).Kept := by
  unfold queryReadStationBody
  split
  · trivial
  · exact h

theorem queryCarrierBody_kept (h : s.Coherent) (k : Nat) (p : Principal) : (queryCarrierBody k p s).Kept := by
  unfold queryCarrierBody
  split
  · trivial
  · exact h

theorem queryLaneBody_kept (h : s.Coherent) (n : Option Nat) (p : Principal) : (queryLaneBody n p s).Kept := by
  unfold queryLaneBody
  split
  · exact h
  · split
    · trivial
    · exact h

theorem queryDiversionBody_kept (h : s.Coherent) (n : Option Nat) (p : Principal) : (queryDiversionBody n p s).Kept := by
  unfold queryDiversionBody
  split
  · exact h
  · split
    · trivial
    · exact h

/-! ## Power-on -/

/-- The state after power-on agrees, and the model's queue is none of its tables. -/
theorem State.coherent_reset (q : List Instr) : (State.reset.setPending q).Coherent := by
  have agree : State.reset.tablesAgree := by
    obtain ⟨-, -, -, -, -, -, -, -, -, -, -, agree⟩ := powerOnLeavesASafeState
    exact agree
  exact State.Coherent.of_lines (State.coherent_of _ agree) (State.linesOnly_setPending _ q)

/-! ## Every command -/

theorem State.Sound.command (h : s.Sound) (l : LinkNo) (tag : Byte) (code : Nat) {body : Principal → State → Taken}
    (hb : ∀ u p, State.Sound u → (body p u).Kept) : GoesOnCoherent (.next (s.takeCommand l tag code body)) :=
  State.Coherent.goesOn (h.takeCommand l tag code hb)

theorem exec_coherent (c : Instr) (h : s.Sound) : GoesOnCoherent (exec c s) := by
  cases c with
  | powerOn => exact State.Coherent.goesOn (State.coherent_reset _)
  | advance m => exact execAdvance_coherent h m
  | pollAnswer a hd n c r => exact execPollAnswer_coherent h a hd n c r
  | waitExpiry k => exact execWaitExpiry_coherent h.coherent k
  | lapLimit k => exact execLapLimit_coherent h.coherent k
  | noReportTimeout k => exact execNoReportTimeout_coherent h.coherent k
  | bagPresented p z t => exact execBagPresented_coherent h.coherent p z t
  | bagWithdrawn p => exact execBagWithdrawn_coherent h.coherent p
  | divertDone j k => exact execDivertDone_coherent h j k
  | divertFailed j k => exact execDivertFailed_coherent h.coherent j k
  | laneFull j => exact execLaneFull_coherent h.coherent j
  | laneEmptied j => exact execLaneEmptied_coherent h.coherent j
  | fetch t => exact execFetch_coherent h.coherent t
  | codeTag t c r => exact execCodeTag_coherent h t c r
  | codeCabin t b c => exact execCodeCabin_coherent h.coherent t b c
  | remove t => exact execRemove_coherent h.coherent t
  | retry t => exact execRetry_coherent h.coherent t
  | fieldRecordBad r => exact execFieldRecordBad_coherent h r
  | orderSent => exact State.Coherent.goesOn h.coherent.sendOrder
  | drainComplete => exact State.Coherent.goesOn (State.Coheres.testDrain h.coherent)
  | closingComplete b => exact execClosingComplete_coherent h.coherent b
  | frameReceived l cs => exact State.Coherent.goesOn (h.coherent.of_lines (s.linesOnly_takeFrame l _))
  | lineBreak l => exact State.Coherent.goesOn (h.coherent.of_lines (s.linesOnly_breakLine l))
  | noticeSent l => exact State.Coherent.goesOn (h.coherent.of_lines (s.linesOnly_sendNotice l))
  | replySent l w => exact State.Coherent.goesOn (h.coherent.of_lines (s.linesOnly_sendReply l w))
  | configureLoop l t c k => exact h.command l t _ fun _ p hu => configureLoopBody_kept hu.coherent c k p
  | queryPosition l t => exact h.command l t _ fun _ _ hu => hu.coherent
  | queryCarrier l t k => exact h.command l t _ fun _ p hu => queryCarrierBody_kept hu.coherent k p
  | configureInductionPoint l t i o e m =>
    exact h.command l t _ fun _ p hu => configureInductionPointBody_kept hu.coherent i o e m p
  | setLoadLimit l t n => exact h.command l t _ fun _ p hu => setLoadLimitBody_kept hu.coherent n p
  | setStarveLimit l t n => exact h.command l t _ fun _ p hu => setStarveLimitBody_kept hu.coherent n p
  | queryInduction l t => exact h.command l t _ fun _ _ hu => hu.coherent
  | configureReadStation l t n o hd ps e =>
    exact h.command l t _ fun _ p hu => configureReadStationBody_kept hu.coherent n o hd ps e p
  | setReadVoting l t n w v => exact h.command l t _ fun _ p hu => setReadVotingBody_kept hu.coherent n w v p
  | restoreHead l t n hd => exact h.command l t _ fun _ p hu => restoreHeadBody_kept hu.coherent n hd p
  | queryReadStation l t n => exact h.command l t _ fun _ p hu => queryReadStationBody_kept hu.coherent n p
  | openBerth l t b c => exact h.command l t _ fun _ p hu => openBerthBody_kept hu.coherent b c p
  | closeSailing l t => exact h.command l t _ fun _ p hu => closeSailingBody_kept hu.coherent p
  | forceClose l t b => exact h.command l t _ fun _ p hu => forceCloseBody_kept hu.coherent b p
  | loadCabin l t c d x => exact h.command l t _ fun _ p hu => loadCabinBody_kept hu.coherent c d x p
  | setCabinHold l t c held => exact h.command l t _ fun _ p hu => setCabinHoldBody_kept hu.coherent c held p
  | loadTag l t n c => exact h.command l t _ fun _ p hu => loadTagBody_kept hu.coherent n c p
  | moveTag l t e c => exact h.command l t _ fun _ p hu => moveTagBody_kept hu.coherent e c p
  | withdrawTag l t e => exact h.command l t _ fun _ p hu => withdrawTagBody_kept hu.coherent hu.manifests e p
  | releaseHoldBag l t e => exact h.command l t _ fun _ p hu => releaseHoldBagBody_kept hu.coherent hu.manifests e p
  | setDeckGroup l t d g => exact h.command l t _ fun _ p hu => setDeckGroupBody_kept hu.coherent d g p
  | queryTag l t b e => exact h.command l t _ fun _ p hu => queryTagBody_kept hu.coherent b e p
  | queryCabin l t b c => exact h.command l t _ fun _ p hu => queryCabinBody_kept hu.coherent b c p
  | queryBerth l t b => exact h.command l t _ fun _ p hu => queryBerthBody_kept hu.coherent b p
  | setLapLimits l t m w => exact h.command l t _ fun _ p hu => setLapLimitsBody_kept hu.coherent m w p
  | queryPending l t => exact h.command l t _ fun _ _ hu => hu.coherent
  | configureLane l t j o c => exact h.command l t _ fun _ p hu => configureLaneBody_kept hu.coherent j o c p
  | setLaneCapacity l t j c => exact h.command l t _ fun _ p hu => setLaneCapacityBody_kept hu.coherent j c p
  | claimLane l t j => exact h.command l t _ fun _ p hu => claimLaneBody_kept hu.coherent j p
  | releaseLane l t j => exact h.command l t _ fun _ p hu => releaseLaneBody_kept hu.coherent j p
  | reclaimLane l t j => exact h.command l t _ fun _ p hu => reclaimLaneBody_kept hu.coherent j p
  | openLane l t j => exact h.command l t _ fun _ p hu => openLaneBody_kept hu.coherent j p
  | closeLane l t j => exact h.command l t _ fun _ p hu => closeLaneBody_kept hu.coherent j p
  | setLaneFunction l t j f => exact h.command l t _ fun _ p hu => setLaneFunctionBody_kept hu.coherent j f p
  | setLaneGroup l t j g => exact h.command l t _ fun _ p hu => setLaneGroupBody_kept hu.coherent j g p
  | resetLaneFault l t j => exact h.command l t _ fun _ p hu => resetLaneFaultBody_kept hu.coherent j p
  | queryLane l t j => exact h.command l t _ fun _ p hu => queryLaneBody_kept hu.coherent j p
  | queryDiversion l t j => exact h.command l t _ fun _ p hu => queryDiversionBody_kept hu.coherent j p
  | queryStrays l t => exact h.command l t _ fun _ _ hu => hu.coherent
  | setMode l t m => exact h.command l t _ fun _ p hu => setModeBody_kept hu.coherent m p
  | forceSetup l t => exact h.command l t _ fun _ p hu => forceSetupBody_kept hu.coherent p
  | clearSort l t => exact h.command l t _ fun _ p hu => clearSortBody_kept hu.coherent p
  | queryMode l t => exact h.command l t _ fun _ _ hu => hu.coherent
  | attach l t p => exact execAttach_coherent h.coherent l t p
  | detach l t => exact h.command l t _ fun u p hu => hu.coherent.of_lines (u.linesOnly_detachLink _ p _)
  | linkCheck l t => exact execLinkCheck_coherent h.coherent l t
  | restoreLink l t n => exact h.command l t _ fun _ p hu => restoreLinkBody_kept hu.coherent n p
  | setLinkPermission l t n q f => exact h.command l t _ fun _ p hu => setLinkPermissionBody_kept hu.coherent n q f p
  | setNoticeClasses l t c => exact h.command l t _ fun _ p hu => setNoticeClassesBody_kept hu.coherent c p
  | queryLinks l t => exact h.command l t _ fun _ _ hu => hu.coherent

/-! ## Steps -/

theorem serve_coherent (h : s.Sound) : GoesOnCoherent (serve s) := by
  unfold serve
  cases s.nextFrame with
  | none => exact h.coherent.goesOn
  | some lf =>
    obtain ⟨l, f⟩ := lf
    have popped := h.of_lines (s.linesOnly_popFrame l)
    dsimp only
    cases decodeCommand l f with
    | none => exact State.Coherent.goesOn (popped.coherent.of_lines (State.linesOnly_refuseFrame _ l f))
    | some c => exact exec_coherent c popped

theorem step_coherent (h : s.Sound) : GoesOnCoherent (step s) := by
  unfold step
  split
  · exact exec_coherent _ (h.of_lines (s.linesOnly_setPending _))
  · exact serve_coherent h

theorem agrees_of_step (h : s.tablesAgree) (hstep : step s = .next t) :
    (t.offsetsInRange ∧ t.carriersAgree ∧ t.identitiesAgree) ∧ (t.pendingAgrees ∧ t.armedAgrees) ∧ t.ticketsAgree := by
  have sound := State.sound_of h
  obtain ⟨u, hu, coherent⟩ := step_coherent sound
  obtain rfl : u = t := Host.Outcome.next.inj (hu.symm.trans hstep)
  exact coherent.agrees (stepKeepsManifests s u sound.manifests hstep)

end

/-- Settles O6: the identities are one part of the agreement of the tables that `step_coherent` carries. -/
theorem stepKeepsIdentities : Obligations.StepKeepsIdentities := fun _ _ h hstep => (agrees_of_step h hstep).1

/-- Settles O7, by the same agreement. -/
theorem stepKeepsPendingAndArmed : Obligations.StepKeepsPendingAndArmed := fun _ _ h hstep => (agrees_of_step h hstep).2.1

/-- Settles O8, by the same agreement. -/
theorem stepKeepsTickets : Obligations.StepKeepsTickets := fun _ _ h hstep => (agrees_of_step h hstep).2.2

end Sys2Proof.Machine
